-- ==== Sys2Proof/Word.lean ====
section
/-!
DEFINITION. The word types of the T8160 (R4, R5): a byte, a 32-bit register word, and the sparse
map that holds every large structure of the machine as plain data.
-/

namespace Sys2Proof

/-- One byte of a packet, a structure or a memory. -/
abbrev Byte := BitVec 8

/-- One 32-bit register of control space (R555). -/
abbrev Word := BitVec 32

/-- A sparse map from an index to a value: sorted by index, no index twice, and no entry equal to
the value that an unlisted index has.  The operations that keep this form are in `Machine/Ops.lean`. -/
abbrev SMap (α : Type) := List (Nat × α)

end Sys2Proof
end

