-- ==== Sys2Proof/Syntax.lean ====
section
/-!
DEFINITION. The commands of the T8160: one constructor for each row of `opcode_table.json`, with
the operands that the spec gives the event (what stands on a pin, in a packet or on a wire) or that
the physical world decides (a latched count, a measured temperature, a supply reading).
-/

namespace Sys2Proof

/-- The three sources of register writes, in the order of simultaneous arrival (R18). -/
inductive Src where
  | nlk
  | mgb
  | shp
deriving DecidableEq, Repr

/-- The three loops of R390. -/
inductive Pll where
  | c
  | s
  | g
deriving DecidableEq, Repr

/-- The pin whose low level holds the device in reset (R457). -/
inductive ResetPin where
  | pgood
  | resetB
deriving DecidableEq, Repr

/-- What flash discovery reads from the attached device (R465). -/
structure Sfdp where
  /-- Manufacturer and device ID. -/
  jedec : Nat
  /-- Density in Mbit; below 512 the device is unusable. -/
  mbit : Nat
  /-- The SFDP signature is present and the parameter table valid. -/
  valid : Bool
  /-- The tables describe 1-4-4 fast read. -/
  quad : Bool
  /-- The tables describe the xSPI Profile 1.0 mode 8D-8D-8D. -/
  octal : Bool
deriving DecidableEq, Repr

/-- What one comparator shows at the self-test (R118): the bits latched from the four held Gray values, and
the sums of its four conversions of the low and of the high injected level. -/
structure LineTest where
  latch : List Nat
  low : Nat
  high : Nat
deriving DecidableEq, Repr

/-- The self-test of one converter, on both lines (R118). -/
structure ConvTest where
  /-- The column, 0 to 8,255; for a spare, a column of its group. -/
  column : Nat
  bank : Nat
  /-- The converter is this spare of the group that holds `column`. -/
  spare : Option Nat
  a : LineTest
  b : LineTest
deriving DecidableEq, Repr

/-- What the trims of one slope entry come to (R110, R111): the steps from the fuse trim to the code found,
the measured median slope over its target in UQ1.15, and the median reset latch. -/
structure TrimResult where
  n : Nat
  slope : Int
  ratio : Nat
  start : Int
  median : Nat
deriving DecidableEq, Repr

/-- The latches of one comparator for one node in one row slot (R104, R106): the Gray-coded counts,
or none where the comparator did not switch. -/
structure Capture where
  row : Nat
  col : Nat
  node : Nat
  reset : Option Nat
  signal : Option Nat
deriving DecidableEq, Repr

/-- What the comparators of one row slot latch (R104): the Gray counts of every comparator that is not
listed, and the listed ones; `row` of a capture is the bank. -/
structure SlotCap where
  reset : Option Nat
  signal : Option Nat
  caps : List Capture
deriving DecidableEq, Repr

/-- How the pulses at a fuse end (R519, R520). -/
inductive PulseResult where
  /-- The thresholds at which the bit then reads 1: 0 none, 1 LOW, 2 LOW and NORMAL, 3 all. -/
  | done (level : Nat)
  /-- A supply left its window, VCORE or the source of the pulse; the level that the bit was left at. -/
  | aborted (vcore : Bool) (level : Nat)
deriving DecidableEq, Repr

/-- A program of the debug opening: VCORE is in its window, the pump settles within 400 µs, and how its pulses end
(R519, R520, R528). -/
structure OpenPulse where
  vcoreOk : Bool
  pumpOk : Bool
  result : PulseResult
deriving DecidableEq, Repr

/-- Everything outside the device, and every measurement, that one start meets. -/
structure StartEnv where
  /-- Microseconds from t0 to E0, reported in BOOT_T_TICK0 (R460). -/
  us : Nat
  /-- MA2:MA0 at fuse sense (R441). -/
  ma : Nat
  /-- Every supply is confirmed in its window at step 1 (R459). -/
  supplies : Bool
  /-- REFCLK is present at step 3 (R396). -/
  refclk : Bool
  /-- Frequency in Hz of the clock on GENLOCK, 0 for none (R400). -/
  genlockHz : Nat
  /-- PLL-C, PLL-S and PLL-G declare lock within their limits (R394, R398). -/
  lockC : Bool
  lockS : Bool
  lockG : Bool
  /-- Flash bytes that the user's own programmer wrote before this start (R466). -/
  burned : List (Nat × Byte)
  sfdp : Sfdp
  /-- The flash read of configuration copy A, and of copy B, completes (R472). -/
  readA : Bool
  readB : Bool
  /-- The marginal single-class fuse bits whose three further NORMAL reads have majority 1 (R516). -/
  majority : List Nat
  /-- The codes of the monitor converter at the hold-up checks of this start, in order (R478). -/
  senses : List Nat
  /-- Fuse bits whose level reads different from the last sense through drift, with the level now (R508, R515). -/
  drifted : List (Nat × Nat)
  /-- Failures of the random-source health tests in this start (R525). -/
  rngFails : Nat
  /-- Draws of the random source for EPOCH, in order (R339). -/
  epochs : List Nat
  /-- The 32-byte nonce of a debug challenge (R527). -/
  nonce : List Byte
  /-- A T1 unit, another T2 unit, another T3 unit of R32 has failed (R463). -/
  t1Fail : Bool
  t2Fail : Bool
  t3Fail : Bool
  /-- Pointer control cores whose load fails, one bit each; Heel and aux loads that fail (R477). -/
  coreFail : Nat
  heelFail : Bool
  auxFail : Bool
  /-- Per bank, the sums that every converter not listed shows for the low and the high level; the listed
  converters, of which one may fail (R118). -/
  levels : List (Nat × Nat)
  convTests : List ConvTest
  /-- The trims; one that is not listed meets its targets at its fuse trim (R110). -/
  trims : List TrimResult
  /-- The 256 slots of the 32 optical-black passes, by gain, pass and slot; in one that is not listed every
  comparator reads dark (R110). -/
  obSlots : List SlotCap
deriving DecidableEq, Repr

/-- Phase errors at successive cycles of a loop's phase detector, in steps of 1/8 VCO period (R405). -/
structure LdRun where
  loop : Pll
  errs : List Nat
deriving DecidableEq, Repr

/-- The level that a trigger pin changes to, the bus counts for which it keeps it, and the place of the path delay
in its ±1 range, 0 to 2 (R79, R81). -/
structure PinLevel where
  high : Bool
  held : Nat
  slip : Nat
deriving DecidableEq, Repr

/-- A change of the TRIG0 pin, at TB `at_` (R79). -/
structure PinEdge where
  at_ : Nat
  level : PinLevel
deriving DecidableEq, Repr

/-- An LTC word: its 64 bits, and its own period in bus counts (R83). -/
structure LtcRx where
  bits : BitVec 64
  period : Nat
deriving DecidableEq, Repr

/-- An edge on SYNC, sampled at TB `at_`, rising or falling (R412). -/
structure SyncPin where
  at_ : Nat
  rising : Bool
deriving DecidableEq, Repr

/-- A rail outside its window for some nanoseconds: VPLL, or another one; and whether VPLL is back in its window at
the end of them (R406, R570). -/
structure Excursion where
  ns : Nat
  vpll : Bool
  back : Bool
deriving DecidableEq, Repr

/-- A row of ALIGN units: its row count and, for each logical lane, the units by which its ALIGN unit came after
the first one (R362). -/
structure AlignRow where
  link : Nat
  row : Nat
  skew : List Nat
deriving DecidableEq, Repr

/-- The receive lanes in a training step: the good ones, and for each in order the lane that its TS names and
whether its polarity is inverted (R362, R365). -/
structure RxLanes where
  ok : BitVec 16
  order : List (Nat × Bool)
deriving DecidableEq, Repr

/-- A control unit as received: its 8 bytes (R363). -/
structure CtlRx where
  link : Nat
  bytes : List Byte
deriving DecidableEq, Repr

/-- What the device meets at a tick edge: T_j and the light-die temperature, Q8.8 (R541, R63); whether the Shepherd
has serviced the watchdog since the edge before (R538); and the words that ordinary accesses have corrected since
then, in SRAM and in eDRAM (R536, R537). -/
structure EdgeEnv where
  tj : BitVec 16
  light : BitVec 16
  served : Bool
  ceSram : Nat
  ceEdram : Nat
deriving DecidableEq, Repr

/-- The header fields and framing of a received Neleklink packet (R370, R374). -/
structure RxHdr where
  link : Nat
  seq : Nat
  /-- LEN, in 32-byte units. -/
  len : Nat
  /-- The CRC-32C holds and no SOP comes before LEN is complete. -/
  ok : Bool
  tag : Nat
  /-- Body bytes. -/
  body : Nat
deriving DecidableEq, Repr

/-- The fields of a TRACK_SEED body (R380). -/
structure Seed where
  cls : Nat
  source : Nat
  flags : Nat
  frame : Nat
  x : Int
  y : Int
  w : Nat
  h : Nat
  tag : Nat
  label : Nat
  height : Nat
  slot : Nat
  groups : Nat
deriving DecidableEq, Repr

/-- The fields of an AIM_OVERRIDE body (R380, R312). -/
structure Override where
  port : Nat
  mode : Nat
  axmask : Nat
  ttl : Nat
  px : Int
  py : Int
  pz : Int
  axes : List Nat
deriving DecidableEq, Repr

/-- What a receiver sees with a transmission on an auxiliary port (R195, R201, R205). -/
structure PktPhy where
  /-- The header had a single-bit error, which ECC corrected. -/
  corrected : Bool
  /-- Bytes that the slicer has taken from the two line FIFOs since the last transmission. -/
  served : Nat
  /-- After it, all lanes are in stop state; the clock lane is in HS mode. -/
  stop : Bool
  hs : Bool
deriving DecidableEq, Repr

/-- A transmission on an auxiliary port. -/
structure AuxRx where
  port : Nat
  phy : PktPhy
deriving DecidableEq, Repr

/-- A generic short packet: its port, and its virtual channel with the VCX bits above bit 1 (R189). -/
structure AuxShort where
  port : Nat
  vc : Nat
  phy : PktPhy
deriving DecidableEq, Repr

/-- A long packet on an auxiliary port (R194). -/
structure LongPkt where
  /-- Virtual channel, with the VCX bits above bit 1 (R189). -/
  vc : Nat
  dt : Nat
  phy : PktPhy
  /-- Word count of the header. -/
  wc : Nat
  /-- Bytes received; fewer than WC when the transmission ended early. -/
  bytes : List Byte
  crcOk : Bool
deriving DecidableEq, Repr

/-- A unit of R32 that can fail in a run. -/
inductive UnitId where
  | rdo
  | pipe
  | stat
  | edram
  | nlk
  | pllC
  | thermal
  | kennel
  | lanes
  | scent
  | heel
deriving DecidableEq, Repr

/-- Where an uncorrectable word lies (R536). -/
inductive UeLoc where
  | supervisor (addr : Nat)
  | kennelSlot (slot : Nat)
  | album (slot snap : Nat)
  | scentSet (set : Nat)
  | pyramidRow (src buf level row : Nat)
  | statTile (bank tile : Nat)
  | statHeader (bank : Nat)
  | auxStatHeader (chan bank : Nat)
  | offset (entry : Nat)
  | burst (tile : Nat)
  | streamPkt (pos : Nat)
  | collar (slot : Nat)
  | replay (link : Nat)
  | cueJournal (port cseq : Nat) (bothBad : Bool)
  | tickJournal (slot : Nat) (bothBad : Bool)
deriving DecidableEq, Repr

/-- An auxiliary port with the state of its lanes: all data lanes in stop state, the clock lane in HS mode (R205). -/
structure PortPhy where
  port : Nat
  stop : Bool
  hs : Bool
deriving DecidableEq, Repr

/-- The lane that ends a job, and whether it has miscomputed (R544). -/
structure LaneEnd where
  lane : Nat
  wrong : Bool
deriving DecidableEq, Repr

/-- The bytes that a controller clocks in a read; with `cut` the last of them has not completed its ninth clock, so it
is sent and not consumed (R445, R448). -/
structure Clocked where
  bytes : Nat
  cut : Bool
deriving DecidableEq, Repr

/-- A stretch that reaches 50 µs: a write word that cannot be queued, or a fetch, with the bytes that the controller
clocks of its word (R447). -/
inductive Stretch where
  | write
  | fetch (clk : Clocked)
deriving DecidableEq, Repr

/-- What the scrubber finds in a line (R537). -/
inductive ScrubResult where
  | clean
  | skipped
  | corrected (words : Nat)
deriving DecidableEq, Repr

/-- How an attempted Bark ends (R450, R451). -/
inductive BarkResult where
  | acked
  | arbLost
  | nack
  | aborted
deriving DecidableEq, Repr

/-- What refuses a fuse pulse at its GO (R519), beyond what the state decides. -/
structure PulseEnv where
  vcoreOk : Bool
  vppOk : Bool
  pumpOk : Bool
deriving DecidableEq, Repr

/-- The commands of the block. -/
inductive Instr where
  /-- COLD_START (R457). -/
  | coldStart (env : StartEnv)
  /-- WARM_RESTART (R458). -/
  | warmRestart (env : StartEnv)
  /-- RESET_ASSERT (R457). -/
  | resetAssert (pin : ResetPin)
  /-- SUPPLY_EXCURSION (R570): a rail has been outside its window. -/
  | supplyExcursion (x : Excursion)
  /-- DRBG_RESEED (R525): the health tests pass. -/
  | drbgReseed (healthy : Bool)
  /-- PLL_LOCK (R405): phase errors pass the lock detector of a loop. -/
  | pllLock (run : LdRun)
  /-- PLL_LOCK_TIMEOUT (R394). -/
  | pllLockTimeout (l : Pll)
  /-- PLL_G_LOCK_TIMEOUT (R398). -/
  | pllGLockTimeout
  /-- PLL_C_UNLOCK (R395). -/
  | pllCUnlock
  /-- PLL_S_UNLOCK (R397). -/
  | pllSUnlock
  /-- PLL_G_UNLOCK (R401). -/
  | pllGUnlock
  /-- REF_LOST (R396). -/
  | refLost
  /-- REFCLK_RETURN (R396). -/
  | refclkReturn
  /-- PLL_G_INPUT_RETURN (R399). -/
  | pllGInputReturn
  /-- FIRST_TICK_EDGE (R461). -/
  | firstTickEdge (env : EdgeEnv)
  /-- TICK_EDGE (R21). -/
  | tickEdge (env : EdgeEnv)
  /-- TRIG0_EDGE (R79, R80). -/
  | trig0Edge (pin : PinEdge) (env : EdgeEnv)
  /-- SYNTHETIC_EDGE (R80). -/
  | syntheticEdge (env : EdgeEnv)
  /-- BRACKET_MAX_ABORT (R88). -/
  | bracketMaxAbort (src : Src)
  /-- TILE_ROW_FLUSH (R47). -/
  | tileRowFlush
  /-- EXPOSURE_START (R39): exposure `n` (1 to 4) of a tile. -/
  | exposureStart (tile n : Nat)
  /-- TRANSFER (R45): exposure `n` (1 to 4) of a tile. -/
  | transfer (tile n : Nat)
  /-- TRIG1_LEVEL_CHANGE (R81): the pin changes at TB `at_`. -/
  | trig1LevelChange (at_ : Nat) (level : PinLevel)
  /-- ROW_SLOT (R104): the latches of the slot; every comparator not listed latches the two counts. -/
  | rowSlot (reset signal : Option Nat) (caps : List Capture)
  /-- PYRAMID_READY (R23): tile-row (or aux row) `row` of a source. -/
  | pyramidReady (src row : Nat)
  /-- MATCH_JOB_COMPLETE (R274): the job of a slot, on a lane. -/
  | matchJobComplete (slot : Nat) (by_ : LaneEnd)
  /-- SCENT_PROBE (R290): the next window of the tick's probe list. -/
  | scentProbe
  /-- KNOWN_ANSWER_JOB (R281): the lanes that answer wrong, 64 for the spare. -/
  | knownAnswerJob (failing : List Nat)
  /-- READOUT_END (R134). -/
  | readoutEnd
  /-- OFFSET_REFRESH (R115). -/
  | offsetRefresh
  /-- REFRESH_DUE (R113). -/
  | refreshDue
  /-- STATS_COMPLETE (R174). -/
  | statsComplete
  /-- AE_RUN (R209). -/
  | aeRun
  /-- AE_RUN_END (R211). -/
  | aeRunEnd
  /-- MATCH_CUTOFF (R24): the signatures agree; the known answer of the shadowed lane; of the spare. -/
  | matchCutoff (agree laneOk spareOk : Bool)
  /-- REPLAY_WINDOW_END (R25). -/
  | replayWindowEnd
  /-- BOOKKEEPING (R243). -/
  | bookkeeping
  /-- SOLVE_POINT (R26). -/
  | solvePoint
  /-- HEEL_PORT_PARK (R311). -/
  | heelPortPark (port : Nat)
  /-- OVERRIDE_TTL_EXPIRY (R312). -/
  | overrideTtlExpiry (port : Nat)
  /-- HEEL_DEADLINE (R310). -/
  | heelDeadline
  /-- LEASH_LATCH (R324). -/
  | leashLatch (port : Nat)
  /-- PARTNER_LOST (R334). -/
  | partnerLost (port : Nat)
  /-- LEASH_ACK (R332): the received bytes and whether their framing is good. -/
  | leashAck (port : Nat) (bytes : List Byte) (framingOk : Bool)
  /-- CUE_EXPIRED (R342). -/
  | cueExpired (port cseq : Nat)
  /-- CUE_SENDS_DONE (R343). -/
  | cueSendsDone (port cseq : Nat)
  /-- LSH_CUE_OP (R338). -/
  | lshCueOp (src : Src) (port : Nat) (op : Nat)
  /-- LTC_WORD (R83): the TB of the end of the sync word, the word, and whether it is complete. -/
  | ltcWord (at_ : Nat) (word : LtcRx) (ok : Bool)
  /-- GENLOCK_PULSE (R400): the stamp in 1/16 bus counts. -/
  | genlockPulse (stamp16 : Nat)
  /-- GENLOCK_HOLDOVER (R78). -/
  | genlockHoldover
  /-- SYNC_EDGE (R412). -/
  | syncEdge (pin : SyncPin)
  /-- TIMER_FIRE (R422). -/
  | timerFire (n : Nat)
  /-- GT_COMPARE_LO (R425). -/
  | gtCompareLo (src : Src) (n : Nat) (value : Word)
  /-- GT_ENABLE (R423): the word written to the control register. -/
  | gtEnable (src : Src) (n : Nat) (value : Word)
  /-- SLOW_CLOCK_ENTRY (R431). -/
  | slowClockEntry
  /-- BUS_CLOCK_RETURN (R432). -/
  | busClockReturn
  /-- WATCHDOG_EXPIRY (R538). -/
  | watchdogExpiry
  /-- LOCKSTEP_MISMATCH (R539). -/
  | lockstepMismatch
  /-- UNCORRECTABLE_WORD (R536). -/
  | uncorrectableWord (loc : UeLoc)
  /-- SCRUB_LINE (R537): the memory is eDRAM, or an SRAM. -/
  | scrubLine (edram : Bool) (result : ScrubResult)
  /-- UNIT_FAULT (R35). -/
  | unitFault (u : UnitId)
  /-- THERMAL_TRIP (R541). -/
  | thermalTrip
  /-- THERMAL_RECOVERY (R541). -/
  | thermalRecovery
  /-- LOG_SECOND (R545). -/
  | logSecond
  /-- LOG_FLUSH (R546): the codes of its hold-up checks, in order (R478). -/
  | logFlush (senses : List Nat)
  /-- FLASH_DEFER_RETRY (R478): the codes of its hold-up checks, in order. -/
  | flashDeferRetry (senses : List Nat)
  /-- PFW_ASSERT (R479). -/
  | pfwAssert
  /-- PFW_RELEASE (R479). -/
  | pfwRelease
  /-- EXP_SET_OPEN (R88): the whole word written to EXP_SET. -/
  | expSetOpen (src : Src)
  /-- EXP_SET_CLOSE (R88). -/
  | expSetClose (src : Src)
  /-- EXP_SET_ABORT (R88). -/
  | expSetAbort (src : Src)
  /-- REFRESH_NOW (R113). -/
  | refreshNow (src : Src)
  /-- AE_CTRL_WRITE (R222). -/
  | aeCtrlWrite (src : Src) (value : Word)
  /-- KEN_CMD_KILL (R254). -/
  | kenCmdKill (src : Src)
  /-- KEN_CMD_SET_GROUPS (R254). -/
  | kenCmdSetGroups (src : Src)
  /-- KEN_CMD_SET_PERSIST (R254). -/
  | kenCmdSetPersist (src : Src) (value : Bool)
  /-- KEN_CUE_GO (R255). -/
  | kenCueGo (src : Src) (cue : Nat)
  /-- PLL_G_WRITE (R402). -/
  | pllGWrite (src : Src) (addr : Nat) (value : Word)
  /-- LOCK_DETECT_WRITE (R405). -/
  | lockDetectWrite (src : Src) (l : Pll) (value : Word)
  /-- CLKOUT_ENABLE (R410): the word written to CLK_OUT_CTRL[i]. -/
  | clkoutEnable (src : Src) (i : Nat) (value : Word)
  /-- CLKOUT_CHANGE (R410): a word written to word `w` (0 CTRL, 1 DIV, 2 DELAY) of output i. -/
  | clkoutChange (src : Src) (i w : Nat) (value : Word)
  /-- CLKOUT_DISABLE (R410). -/
  | clkoutDisable (src : Src) (i : Nat) (value : Word)
  /-- AUX_PORT_ENABLE (R204): the word written to AUX_CTRL[p]. -/
  | auxPortEnable (src : Src) (p : PortPhy) (value : Word)
  /-- AUX_PORT_DISABLE (R191). -/
  | auxPortDisable (src : Src) (p : Nat) (value : Word)
  /-- AUX_DESKEW (R190). -/
  | auxDeskew (rx : AuxRx)
  /-- AUX_FS (R191): frame number carried. -/
  | auxFs (rx : AuxRx) (vc num : Nat)
  /-- AUX_FE (R191). -/
  | auxFe (rx : AuxRx) (vc num : Nat)
  /-- AUX_LONG_PACKET (R194). -/
  | auxLongPacket (p : Nat) (pkt : LongPkt)
  /-- AUX_MISSING (R200). -/
  | auxMissing (b : Nat)
  /-- REG_RD (R380). -/
  | regRd (h : RxHdr) (addr count : Nat)
  /-- REG_WR (R380). -/
  | regWr (h : RxHdr) (addr count : Nat) (words : List Word)
  /-- BULK_RD (R375). -/
  | bulkRd (h : RxHdr) (addr bytes : Nat)
  /-- BULK_WR (R380). -/
  | bulkWr (h : RxHdr) (addr bytes : Nat) (data : List Byte)
  /-- UPD_BLOCK (R492): the last operands are the codes of its hold-up checks and how many flash commands succeed
  before one fails, none where none does. -/
  | updBlock (h : RxHdr) (offset length : Nat) (data : List Byte) (senses : List Nat) (fail : Option Nat)
  /-- TRACK_SEED (R19). -/
  | trackSeed (h : RxHdr) (seed : Seed)
  /-- TRACK_KILL (R19). -/
  | trackKill (h : RxHdr) (handle : Word)
  /-- AIM_OVERRIDE (R312). -/
  | aimOverride (h : RxHdr) (ovr : Override)
  /-- TIME_SET (R380): `ago` is the bus counts since its SOP unit arrived at the lane pins. -/
  | timeSet (h : RxHdr) (host : BitVec 64) (ago : Nat)
  /-- UNKNOWN_PACKET (R384). -/
  | unknownPacket (h : RxHdr) (type : Nat)
  /-- NLK_ACK (R373). -/
  | nlkAck (link seq : Nat)
  /-- NLK_NAK (R373). -/
  | nlkNak (link seq : Nat)
  /-- NLK_CREDIT (R372). -/
  | nlkCredit (link cls count : Nat)
  /-- NLK_ALIGN (R362): a row of ALIGN units. -/
  | nlkAlign (rx : AlignRow)
  /-- NLK_LANE_FAIL_RX (R365): the logical lanes named. -/
  | nlkLaneFailRx (link : Nat) (mask : BitVec 16)
  /-- NLK_TS (R365): a training step's exchange on a link: the receive lanes on this side, those that the
  adapter reports good, FRESH, and the credit counts at the end of the training when they have arrived. -/
  | nlkTs (link : Nat) (rx : RxLanes) (txOk : BitVec 16) (fresh : Bool) (credits : Option (List Nat))
  /-- LANE_FAILURE (R366): the physical receive lane. -/
  | laneFailure (link lane : Nat)
  /-- LINK_RETRAIN (R365). -/
  | linkRetrain (src : Src) (link : Nat)
  /-- TRAINING_TIMEOUT (R365). -/
  | trainingTimeout (link : Nat)
  /-- TRAINING_RETRY (R365): a retry of the PLL-S lock, where one is due, succeeds. -/
  | trainingRetry (link : Nat) (lockS : Bool)
  /-- REPLAY_TIMEOUT (R373). -/
  | replayTimeout (link : Nat)
  /-- CREDIT_STALL (R384). -/
  | creditStall (link cls : Nat)
  /-- PACKET_TRANSMIT (R381). -/
  | packetTransmit (link : Nat)
  /-- MGB_POINTER_SET (R443). -/
  | mgbPointerSet (ptr : Nat)
  /-- MGB_REGISTER_WRITE (R444): the data bytes after the pointer. -/
  | mgbRegisterWrite (ptr : Nat) (bytes : List Byte)
  /-- MGB_BLOCK_READ (R443): the count byte C and the bytes the controller clocks. -/
  | mgbBlockRead (ptr c : Nat) (clk : Clocked)
  /-- MGB_CURRENT_ADDRESS_READ (R443): the bytes the controller clocks. -/
  | mgbCurrentAddressRead (clk : Clocked)
  /-- MGB_ABORT (R448). -/
  | mgbAbort
  /-- MGB_RS_ACK (R448). -/
  | mgbRsAck
  /-- MGB_SDA_TIMEOUT (R448). -/
  | mgbSdaTimeout
  /-- MGB_STRETCH_TIMEOUT (R447): of a write, or of a fetch. -/
  | mgbStretchTimeout (of : Stretch)
  /-- BARK (R450). -/
  | bark (r : BarkResult)
  /-- BARK_RETRY (R451). -/
  | barkRetry (r : BarkResult)
  /-- BARK_PEND_CLEAR (R449). -/
  | barkPendClear (src : Src) (mask : BitVec 7)
  /-- RC_READ (R11). -/
  | rcRead (src : Src) (addr : Nat)
  /-- REGISTER_WRITE (R14). -/
  | registerWrite (src : Src) (addr : Nat) (value : Word)
  /-- UPD_MB_GO (R490): as UPD_BLOCK, the codes of its hold-up checks and the failing flash command. -/
  | updMbGo (src : Src) (senses : List Nat) (fail : Option Nat)
  /-- BLOCK_DEFER_TIMEOUT (R492). -/
  | blockDeferTimeout
  /-- UPD_ABORT (R497). -/
  | updAbort (senses : List Nat)
  /-- UPD_VERIFY (R498). -/
  | updVerify
  /-- VERIFY_PASS_DONE (R498). -/
  | verifyPassDone (senses : List Nat)
  /-- UPD_ACTIVATE (R499). -/
  | updActivate (force : Bool) (senses : List Nat)
  /-- ACTIVATE_TIMEOUT (R497). -/
  | activateTimeout
  /-- UPD_CONFIRM (R500). -/
  | updConfirm (senses : List Nat)
  /-- UPD_REJECT (R501). -/
  | updReject (senses : List Nat)
  /-- UPD_ROLLBACK (R502). -/
  | updRollback (force : Bool) (senses : List Nat)
  /-- CONFIRM_WINDOW_END (R500). -/
  | confirmWindowEnd (senses : List Nat)
  /-- OTP_PROG_GO (R518): the word written to OTP_PROG_CTRL. -/
  | otpProgGo (src : Src) (ctrl : Word) (env : PulseEnv)
  /-- OTP_PULSE_DONE (R520). -/
  | otpPulseDone (r : PulseResult)
  /-- DEBUG_REQUEST (R526). -/
  | debugRequest
  /-- SEC_DBG_GO (R528): the levels that the six fuses of the opening reach. -/
  | secDbgGo (pulses : List OpenPulse)
  /-- DEBUG_WAIT_TIMEOUT (R527). -/
  | debugWaitTimeout
  /-- ARCHIVE_READ (R553). -/
  | archiveRead (src : Src) (idx : Nat)
  /-- PLL_G_INPUT_LOST (R399). -/
  | pllGInputLost
  /-- GENERIC_SHORT_PACKET (R189). -/
  | genericShortPacket (h : AuxShort)
  /-- UNCORRECTABLE_HEADER (R195). -/
  | uncorrectableHeader (rx : AuxRx)
  /-- CONTROL_UNIT_BAD_CRC (R363). -/
  | controlUnitBadCrc (unit : CtlRx)
deriving DecidableEq, Repr

end Sys2Proof
end

