-- ==== Sys2Proof/Decode.lean ====
section
/-!
DEFINITION. The command that a word spells by the bits of `opcode_table.json`.  No row of the table
gives any bits, so no word spells a command.
-/

namespace Sys2Proof

/-- The command of a word: none, since the table gives no row any bits.
DESIGN CHOICE (log 4). -/
def decodeTableWord (_nbits _w : Nat) : Option Instr := none

end Sys2Proof
end

