-- ==== Sys2Proof/Machine/Operands.lean ====
section
/-!
DEFINITION. Operand forms: little-endian byte strings (R5), bit fields, two's complement, rounding,
and the three CRCs of the part (R329, R363, R370).
-/

namespace Sys2Proof.Machine

/-- Bits `[lo + n - 1 : lo]` of a word. -/
def field (w : Word) (lo n : Nat) : Nat := (w.toNat >>> lo) % 2 ^ n

/-- A word with bits `[lo + n - 1 : lo]` replaced. -/
def setField (w : Word) (lo n v : Nat) : Word :=
  let m := BitVec.ofNat 32 ((2 ^ n - 1) <<< lo)
  (w &&& ~~~m) ||| (BitVec.ofNat 32 (v <<< lo) &&& m)

/-- The signed value of an `n`-bit two's complement number (R6). -/
def sgn (n v : Nat) : Int :=
  let m := v % 2 ^ n
  if m < 2 ^ (n - 1) then (m : Int) else (m : Int) - (2 ^ n : Nat)

/-- The `n`-bit two's complement code of an integer. -/
def code (n : Nat) (v : Int) : Nat := (v % ((2 ^ n : Nat) : Int)).toNat

/-- `n` bytes, least significant first (R5). -/
def le : Nat → Nat → List Byte
  | 0, _ => []
  | n + 1, v => BitVec.ofNat 8 v :: le n (v / 256)

/-- The number that bytes spell, least significant first (R5). -/
def ofLe : List Byte → Nat
  | [] => 0
  | b :: t => b.toNat + 256 * ofLe t

/-- Bytes `i` to `i + n - 1` as a number. -/
def leAt (bs : List Byte) (i n : Nat) : Nat := ofLe ((bs.drop i).take n)

/-- `n` zero bytes. -/
def zeros (n : Nat) : List Byte := List.replicate n 0

/-- A number limited to a range, the lower limit first. -/
def clamp (lo hi v : Nat) : Nat := min hi (max lo v)

/-- An integer limited to a range. -/
def clampI (lo hi v : Int) : Int := min hi (max lo v)

/-- Quotient rounded half up, for a positive divisor (R6, R313). -/
def roundDiv (a b : Int) : Int := (2 * a + b) / (2 * b)

/-- Quotient rounded up. -/
def ceilDiv (a b : Nat) : Nat := (a + b - 1) / b

/-- A value is set to act as another when it is zero. -/
def orIf (v d : Nat) : Nat := if v = 0 then d else v

/-- One bit of a CRC, most significant bit first. -/
def crcBitMsb (width poly : Nat) (c : Nat) : Nat :=
  let d := (c * 2) % 2 ^ width
  if c / 2 ^ (width - 1) % 2 = 1 then d ^^^ poly else d

/-- `n` bits of a CRC, most significant bit first. -/
def crcBitsMsb (width poly : Nat) : Nat → Nat → Nat
  | 0, c => c
  | n + 1, c => crcBitsMsb width poly n (crcBitMsb width poly c)

/-- CRC-16 of LEASH frames and log entries: polynomial 0x1021, initial 0xFFFF, not reflected (R329). -/
def crc16 (bs : List Byte) : Nat :=
  bs.foldl (fun c b => crcBitsMsb 16 0x1021 8 (c ^^^ (b.toNat * 256))) 0xFFFF

/-- CRC-8 of Neleklink control units: polynomial 0x07, initial 0 (R363). -/
def crc8 (bs : List Byte) : Nat :=
  bs.foldl (fun c b => crcBitsMsb 8 0x07 8 (c ^^^ b.toNat)) 0

/-- The CRC-8 of a control unit, 8 bytes as received, fails (R363). -/
def badUnit (u : List Byte) : Bool := decide (crc8 (u.take 7) ≠ (u.getD 7 0).toNat)

/-- `n` bits of a reflected CRC-32C. -/
def crc32cBits : Nat → Nat → Nat
  | 0, c => c
  | n + 1, c => crc32cBits n (if c % 2 = 1 then (c / 2) ^^^ 0x82F63B78 else c / 2)

/-- CRC-32C (Castagnoli): reflected, initial and final inversion.
PRESUMED (log 125). -/
def crc32c (bs : List Byte) : Nat :=
  (bs.foldl (fun c b => crc32cBits 8 (c ^^^ b.toNat)) 0xFFFFFFFF) ^^^ 0xFFFFFFFF

/-- `a` is newer than `b` in 32-bit serial comparison (R467, R547). -/
def newer32 (a b : Nat) : Bool :=
  let d := (a + 2 ^ 32 - b % 2 ^ 32) % 2 ^ 32
  decide (1 ≤ d ∧ d < 2 ^ 31)

/-- `a` is newer than `b` in 16-bit serial comparison (R373).
DEDUCED (log 129). -/
def newer16 (a b : Nat) : Bool :=
  let d := (a + 65536 - b % 65536) % 65536
  decide (1 ≤ d ∧ d ≤ 32767)

/-- The numbers `lo` to `lo + n - 1`. -/
def rangeFrom (lo : Nat) : Nat → List Nat
  | 0 => []
  | n + 1 => lo :: rangeFrom (lo + 1) n

/-- The numbers below `n`. -/
def upto (n : Nat) : List Nat := rangeFrom 0 n

/-- The integer square root by Newton's method, from above. -/
def isqrtAux (v : Nat) : Nat → Nat → Nat
  | 0, r => r
  | n + 1, r =>
    let c := (r + v / r) / 2
    if r ≤ c then r else isqrtAux v n c

/-- The greatest `r` with `r * r ≤ v`. -/
def isqrt (v : Nat) : Nat := if v = 0 then 0 else isqrtAux v (Nat.log2 v + 2) (2 ^ (Nat.log2 v / 2 + 1))

end Sys2Proof.Machine
end

