-- ==== Sys2Proof/Machine/Crypto.lean ====
section
/-!
DEFINITION. The cryptographic functions that R487, R523, R524 and R528 take from their standards: SHA-384
(FIPS 180-4), HMAC (FIPS 198-1), AES-256-GCM (FIPS 197, NIST SP 800-38D) and ECDSA on P-384 (FIPS 186-5,
NIST SP 800-186).
-/

namespace Sys2Proof.Machine

/-- The number that bytes spell, most significant first. -/
def ofBe (bs : List Byte) : Nat := bs.foldl (fun n b => 256 * n + b.toNat) 0

/-- The `n` bytes of a number, most significant first. -/
def be (n v : Nat) : List Byte := (le n v).reverse

/-- The round constants of SHA-384: fractions of the cube roots of the first 80 primes (part 1). -/
def shaKA : List Nat :=
  [0x428A2F98D728AE22, 0x7137449123EF65CD, 0xB5C0FBCFEC4D3B2F, 0xE9B5DBA58189DBBC,
   0x3956C25BF348B538, 0x59F111F1B605D019, 0x923F82A4AF194F9B, 0xAB1C5ED5DA6D8118,
   0xD807AA98A3030242, 0x12835B0145706FBE, 0x243185BE4EE4B28C, 0x550C7DC3D5FFB4E2,
   0x72BE5D74F27B896F, 0x80DEB1FE3B1696B1, 0x9BDC06A725C71235, 0xC19BF174CF692694,
   0xE49B69C19EF14AD2, 0xEFBE4786384F25E3, 0x0FC19DC68B8CD5B5, 0x240CA1CC77AC9C65]

/-- The round constants of SHA-384: fractions of the cube roots of the first 80 primes (part 2). -/
def shaKB : List Nat :=
  [0x2DE92C6F592B0275, 0x4A7484AA6EA6E483, 0x5CB0A9DCBD41FBD4, 0x76F988DA831153B5,
   0x983E5152EE66DFAB, 0xA831C66D2DB43210, 0xB00327C898FB213F, 0xBF597FC7BEEF0EE4,
   0xC6E00BF33DA88FC2, 0xD5A79147930AA725, 0x06CA6351E003826F, 0x142929670A0E6E70,
   0x27B70A8546D22FFC, 0x2E1B21385C26C926, 0x4D2C6DFC5AC42AED, 0x53380D139D95B3DF,
   0x650A73548BAF63DE, 0x766A0ABB3C77B2A8, 0x81C2C92E47EDAEE6, 0x92722C851482353B]

/-- The round constants of SHA-384: fractions of the cube roots of the first 80 primes (part 3). -/
def shaKC : List Nat :=
  [0xA2BFE8A14CF10364, 0xA81A664BBC423001, 0xC24B8B70D0F89791, 0xC76C51A30654BE30,
   0xD192E819D6EF5218, 0xD69906245565A910, 0xF40E35855771202A, 0x106AA07032BBD1B8,
   0x19A4C116B8D2D0C8, 0x1E376C085141AB53, 0x2748774CDF8EEB99, 0x34B0BCB5E19B48A8,
   0x391C0CB3C5C95A63, 0x4ED8AA4AE3418ACB, 0x5B9CCA4F7763E373, 0x682E6FF3D6B2B8A3,
   0x748F82EE5DEFB2FC, 0x78A5636F43172F60, 0x84C87814A1F0AB72, 0x8CC702081A6439EC]

/-- The round constants of SHA-384: fractions of the cube roots of the first 80 primes (part 4). -/
def shaKD : List Nat :=
  [0x90BEFFFA23631E28, 0xA4506CEBDE82BDE9, 0xBEF9A3F7B2C67915, 0xC67178F2E372532B,
   0xCA273ECEEA26619C, 0xD186B8C721C0C207, 0xEADA7DD6CDE0EB1E, 0xF57D4F7FEE6ED178,
   0x06F067AA72176FBA, 0x0A637DC5A2C898A6, 0x113F9804BEF90DAE, 0x1B710B35131C471B,
   0x28DB77F523047D84, 0x32CAAB7B40C72493, 0x3C9EBE0A15C9BEBC, 0x431D67C49C100D4C,
   0x4CC5D4BECB3E42B6, 0x597F299CFC657E2A, 0x5FCB6FAB3AD6FAEC, 0x6C44198C4A475817]

/-- The round constants of SHA-384: fractions of the cube roots of the first 80 primes. -/
def shaK : List Nat := shaKA ++ shaKB ++ shaKC ++ shaKD

/-- The initial hash value of SHA-384: fractions of the square roots of the ninth to sixteenth primes. -/
def shaInit : List Nat :=
  [0xCBBB9D5DC1059ED8, 0x629A292A367CD507, 0x9159015A3070DD17, 0x152FECD8F70E5939,
   0x67332667FFC00B31, 0x8EB44A8768581511, 0xDB0C2E0D64F98FA7, 0x47B5481DBEFA4FA4]

/-- Rotation of a 64-bit word to the right. -/
def rotr64 (x n : Nat) : Nat := x / 2 ^ n + x % 2 ^ n * 2 ^ (64 - n)

/-- The message schedule of SHA-384: `n` further words behind the last sixteen, newest first. -/
def shaExpand : Nat → List Nat → List Nat
  | 0, w => w
  | n + 1, w =>
    let a := w.getD 14 0
    let b := w.getD 1 0
    let s0 := rotr64 a 1 ^^^ rotr64 a 8 ^^^ a / 2 ^ 7
    let s1 := rotr64 b 19 ^^^ rotr64 b 61 ^^^ b / 2 ^ 6
    shaExpand n ((w.getD 15 0 + s0 + w.getD 6 0 + s1) % 2 ^ 64 :: w)

/-- One round of SHA-384 over the eight working variables. -/
def shaRound (v : List Nat) (kw : Nat × Nat) : List Nat :=
  match v with
  | [a, b, c, d, e, f, g, h] =>
    let s1 := rotr64 e 14 ^^^ rotr64 e 18 ^^^ rotr64 e 41
    let ch := (e &&& f) ^^^ ((2 ^ 64 - 1 - e) &&& g)
    let t1 := h + s1 + ch + kw.1 + kw.2
    let s0 := rotr64 a 28 ^^^ rotr64 a 34 ^^^ rotr64 a 39
    let mj := (a &&& b) ^^^ (a &&& c) ^^^ (b &&& c)
    [(t1 + s0 + mj) % 2 ^ 64, a, b, c, (d + t1) % 2 ^ 64, e, f, g]
  | _ => v

/-- The 64-bit words of a block, most significant byte first. -/
def beWords : Nat → List Byte → List Nat
  | 0, _ => []
  | n + 1, b => ofBe (b.take 8) :: beWords n (b.drop 8)

/-- The blocks of a message taken into the hash value. -/
def shaBlocks : Nat → List Nat → List Byte → List Nat
  | 0, h, _ => h
  | n + 1, h, m =>
    let w := (shaExpand 64 (beWords 16 m).reverse).reverse
    let v := (shaK.zip w).foldl shaRound h
    shaBlocks n ((h.zip v).map (fun p => (p.1 + p.2) % 2 ^ 64)) (m.drop 128)

/-- SHA-384 of a byte string: 48 bytes, in the order of the digest (R487, R523). -/
def sha384 (m : List Byte) : List Byte :=
  let pad := (256 - (m.length + 17) % 128) % 128
  let p := m ++ [0x80] ++ zeros pad ++ be 16 (8 * m.length)
  ((shaBlocks (p.length / 128) shaInit p).take 6).flatMap (be 8)

/-- HMAC-SHA-384 under a key (R524). -/
def hmacSha384 (key msg : List Byte) : List Byte :=
  let k := if 128 < key.length then sha384 key else key
  let k := (k ++ zeros 128).take 128
  sha384 (k.map (· ^^^ 0x5C) ++ sha384 (k.map (· ^^^ 0x36) ++ msg))

/-- Multiplication by x in the field of AES. -/
def aesTwice (a : Nat) : Nat := if a < 128 then 2 * a else (2 * a - 256) ^^^ 0x1B

/-- A product in the field of AES, over the low `n` bits of the second factor. -/
def aesMul : Nat → Nat → Nat → Nat
  | 0, _, _ => 0
  | n + 1, a, b => (if b % 2 = 1 then a else 0) ^^^ aesMul n (aesTwice a) (b / 2)

/-- A power in the field of AES. -/
def aesPow (a : Nat) : Nat → Nat
  | 0 => 1
  | n + 1 => aesMul 8 a (aesPow a n)

/-- The substitution of AES at one byte: the inverse, then the affine map. -/
def aesSub (a : Nat) : Nat :=
  let i := aesPow a 254
  let r := fun (k : Nat) => (i * 2 ^ k + i / 2 ^ (8 - k)) % 256
  i ^^^ r 1 ^^^ r 2 ^^^ r 3 ^^^ r 4 ^^^ 0x63

/-- The substitution table of AES. -/
def aesBox : List Nat := (upto 256).map aesSub

/-- A column through the substitution. -/
def aesSubCol (box c : List Nat) : List Nat := c.map (fun x => box.getD x 0)

/-- The exclusive or of two columns. -/
def xorCol (a b : List Nat) : List Nat := (a.zip b).map (fun p => p.1 ^^^ p.2)

/-- The key schedule of AES-256: `n` further columns behind those made, newest first; `i` counts columns. -/
def aesExpand (box : List Nat) : Nat → Nat → Nat → List (List Nat) → List (List Nat)
  | 0, _, _, w => w
  | n + 1, i, rc, w =>
    let t := w.getD 0 []
    let t' := if i % 8 = 0 then xorCol (aesSubCol box (t.drop 1 ++ t.take 1)) [rc, 0, 0, 0]
      else if i % 8 = 4 then aesSubCol box t else t
    aesExpand box n (i + 1) (if i % 8 = 0 then aesTwice rc else rc) (xorCol (w.getD 7 []) t' :: w)

/-- Groups of `k` values. -/
def groupsOf {α : Type} (k : Nat) : Nat → List α → List (List α)
  | 0, _ => []
  | n + 1, l => l.take k :: groupsOf k n (l.drop k)

/-- The fifteen round keys of an AES-256 key, of four columns each. -/
def aesKeys (box : List Nat) (key : List Byte) : List (List (List Nat)) :=
  let k := groupsOf 4 8 (key.map (·.toNat))
  groupsOf 4 15 (aesExpand box 52 8 1 k.reverse).reverse

/-- The row shift of AES over four columns. -/
def aesShift (c : List (List Nat)) : List (List Nat) :=
  (upto 4).map (fun j => (upto 4).map (fun i => (c.getD ((j + i) % 4) []).getD i 0))

/-- The column mix of AES. -/
def aesMix (c : List Nat) : List Nat :=
  (upto 4).map (fun i =>
    let x := fun (k : Nat) => c.getD ((i + k) % 4) 0
    aesTwice (x 0) ^^^ aesTwice (x 1) ^^^ x 1 ^^^ x 2 ^^^ x 3)

/-- AES-256 of one 16-byte block under its round keys. -/
def aesBlock (box : List Nat) (ks : List (List (List Nat))) (b : List Nat) : List Nat :=
  let add := fun (c k : List (List Nat)) => (c.zip k).map (fun p => xorCol p.1 p.2)
  let c := add (groupsOf 4 4 b) (ks.getD 0 [])
  let c := ((ks.drop 1).take 13).foldl (fun c k => add ((aesShift (c.map (aesSubCol box))).map aesMix) k) c
  (add (aesShift (c.map (aesSubCol box))) (ks.getD 14 [])).flatten

/-- A product in the field of GHASH: blocks as numbers, the first bit most significant. -/
def ghashMul : Nat → Nat → Nat → Nat
  | 0, _, _ => 0
  | n + 1, x, v =>
    (if x / 2 ^ n % 2 = 1 then v else 0)
      ^^^ ghashMul n x (if v % 2 = 1 then v / 2 ^^^ 0xE1 * 2 ^ 120 else v / 2)

/-- GHASH over the blocks of a string, from a value. -/
def ghash (h : Nat) : Nat → Nat → List Byte → Nat
  | 0, y, _ => y
  | n + 1, y, b =>
    ghash h n (ghashMul 128 (y ^^^ ofBe ((b ++ zeros 16).take 16)) h) (b.drop 16)

/-- Counter mode from a counter on (NIST SP 800-38D). -/
def gcmCtr (enc : Nat → Nat) : Nat → Nat → List Byte → List Byte
  | 0, _, _ => []
  | n + 1, c, b =>
    let k := be 16 (enc c)
    ((b.take 16).zip k).map (fun p => p.1 ^^^ p.2)
      ++ gcmCtr enc n (c / 2 ^ 32 * 2 ^ 32 + (c + 1) % 2 ^ 32) (b.drop 16)

/-- AES-256-GCM (R487): the plaintext under a key, a 96-bit IV and additional data, when the tag holds. -/
def gcmOpen (key iv aad ct tag : List Byte) : Option (List Byte) :=
  let box := aesBox
  let ks := aesKeys box key
  let enc := fun (x : Nat) =>
    (aesBlock box ks ((be 16 x).map (·.toNat))).foldl (fun n b => 256 * n + b) 0
  let h := enc 0
  let j0 := ofBe iv * 2 ^ 32 + 1
  let y := ghash h ((aad.length + 15) / 16) 0 aad
  let y := ghash h ((ct.length + 15) / 16) y ct
  let y := ghashMul 128 (y ^^^ (8 * aad.length * 2 ^ 64 + 8 * ct.length)) h
  if be 16 (y ^^^ enc j0) = tag then
    some (gcmCtr enc ((ct.length + 15) / 16) (j0 + 1) ct)
  else none

/-- The field, the order, the coefficient b and the base point of P-384. -/
def p384P : Nat := 2 ^ 384 - 2 ^ 128 - 2 ^ 96 + 2 ^ 32 - 1
/-- The order of the base point of P-384. -/
def p384N : Nat :=
  0xFFFFFFFFFFFFFFFFFFFFFFFFFFFFFFFFFFFFFFFFFFFFFFFFC7634D81F4372DDF581A0DB248B0A77AECEC196ACCC52973
/-- The coefficient b of P-384. -/
def p384B : Nat :=
  0xB3312FA7E23EE7E4988E056BE3F82D19181D9C6EFE8141120314088F5013875AC656398D8A2ED19D2A85C8EDD3EC2AEF
/-- The base point of P-384. -/
def p384G : Nat × Nat :=
  (0xAA87CA22BE8B05378EB1C71EF320AD746E1D3B628BA79B9859F741E082542A385502F25DBF55296C3A545E3872760AB7,
   0x3617DE4A96262C6F5D9E98BF9292DC29F8F41DBD289A147CE9DA3113B5F0B8C00A60B1CE1D7E819D7A431D7C90EA0E5F)

/-- A power modulo m, over the low `n` bits of the exponent. -/
def powMod (m : Nat) : Nat → Nat → Nat → Nat
  | 0, _, _ => 1 % m
  | n + 1, a, e => (if e % 2 = 1 then a else 1) * powMod m n (a * a % m) (e / 2) % m

/-- The inverse modulo a prime of 384 bits. -/
def invMod (m a : Nat) : Nat := powMod m 384 a (m - 2)

/-- A difference modulo the field prime. -/
def subP (a b : Nat) : Nat := (a + p384P - b % p384P) % p384P

/-- A point of P-384 in Jacobian coordinates; z is 0 at infinity. -/
structure JPoint where
  x : Nat
  y : Nat
  z : Nat
deriving DecidableEq, Repr

/-- Twice a point. -/
def JPoint.twice (q : JPoint) : JPoint :=
  let p := p384P
  let d := q.z * q.z % p
  let g := q.y * q.y % p
  let b := q.x * g % p
  let a := 3 * (subP q.x d * ((q.x + d) % p)) % p
  let x := subP (a * a) (8 * b)
  { x := x, y := subP (a * subP (4 * b) x) (8 * (g * g)), z := 2 * (q.y * q.z) % p }

/-- The sum of two points. -/
def JPoint.add (q r : JPoint) : JPoint :=
  let p := p384P
  if q.z = 0 then r
  else if r.z = 0 then q
  else
    let z1 := q.z * q.z % p
    let z2 := r.z * r.z % p
    let u1 := q.x * z2 % p
    let s1 := q.y * (r.z * z2 % p) % p
    let h := subP (r.x * z1) u1
    let t := subP (r.y * (q.z * z1 % p)) s1
    if h = 0 then (if t = 0 then q.twice else { x := 1, y := 1, z := 0 })
    else
      let h2 := h * h % p
      let h3 := h * h2 % p
      let v := u1 * h2 % p
      let x := subP (t * t) (h3 + 2 * v)
      { x := x, y := subP (t * subP v x) (s1 * h3), z := q.z * r.z % p * h % p }

/-- A multiple of a point, over the low `n` bits of the factor. -/
def JPoint.times : Nat → JPoint → Nat → JPoint
  | 0, _, _ => { x := 1, y := 1, z := 0 }
  | n + 1, q, k =>
    let r := JPoint.times n q.twice (k / 2)
    if k % 2 = 1 then q.add r else r

/-- A public key lies on the curve. -/
def onCurve (x y : Nat) : Bool :=
  decide (x < p384P ∧ y < p384P ∧ y * y % p384P = subP (x * x * x + p384B) (3 * x))

/-- ECDSA on P-384 with SHA-384 (R487, R528): the signature r, s over a message under the public key x, y, each
48 bytes little-endian. -/
def ecdsaVerify (pub msg sig : List Byte) : Bool :=
  let r := leAt sig 0 48
  let s := leAt sig 48 48
  let x := leAt pub 0 48
  let y := leAt pub 48 48
  if onCurve x y = true ∧ 0 < r ∧ r < p384N ∧ 0 < s ∧ s < p384N then
    let w := invMod p384N s
    let u1 := ofBe (sha384 msg) * w % p384N
    let u2 := r * w % p384N
    let q := (JPoint.times 384 { x := p384G.1, y := p384G.2, z := 1 } u1).add
      (JPoint.times 384 { x := x, y := y, z := 1 } u2)
    if q.z = 0 then false
    else
      let zi := invMod p384P q.z
      decide (q.x * (zi * zi % p384P) % p384P % p384N = r)
  else false

end Sys2Proof.Machine
end

