-- ==== Sys2Proof/Config.lean ====
section
/-!
DEFINITION. What the spec names without its value (the keys of R487 and R528), and the free values:
constants without a body, so that no proof can see what they are.
-/

namespace Sys2Proof.Config

/-- Meroon's update key and debug key in the Pup ROM: x, then y, 48 bytes each (R487, R528).
DESIGN CHOICE (log 155). -/
opaque updateKey : List Byte
opaque debugKey : List Byte
/-- The code of a pixel in a row that its pass has not read when a value that rests on it is formed (R23, R161): by
row, column and node. -/
opaque unreadCode : Nat → Nat → Nat → Nat
/-- The delay of the TICK output from E to its rising edge, fixed by the part, in 1/64 bus counts (R408).
DESIGN CHOICE (log 202). -/
opaque tickPin : Nat
/-- Bytes that a verification pass has checked, by the TB of its start and the TB now (R498). -/
opaque verifyPace : Nat → Nat → Nat
/-- The pin-to-latch delay that NLK_RX_LAT reads, in bus counts, fixed by the part (R387).
DESIGN CHOICE (log 6). -/
opaque rxLat : BitVec 16
/-- The loop bandwidth code of PLL-G in a CLEAN use, of which R398 states only the frequencies.
PRESUMED (log 40). -/
opaque trimCode : Nat → BitVec 16
/-- The logarithm of 0 in 1/256 stop, for which R216 and R220 state no value.
DESIGN CHOICE (log 82). -/
opaque logZero : Int
/-- The logarithm of the target over a metered mean of 0 in GLOBAL mode, in 1/256 stop, for which R216 and R217 state no
value.
DESIGN CHOICE (log 233). -/
opaque logDark : Int
/-- Which of the roundings that lie within the 24 significant bits of a power of two of R216 it gives.
DESIGN CHOICE (log 81). -/
opaque powPick : Int → Nat
/-- The template pixel of a match job (R269) outside the level frame, for which the spec states no
value: by level, column and row.
DESIGN CHOICE (log 96). -/
opaque templateEdge : Nat → Int → Int → BitVec 8
/-- The value of atan2(0, 0) in 2^-256 rad, for which R306 states none.
DESIGN CHOICE (log 106). -/
opaque atanOrigin : Int
/-- The axis angle, in 2^-256 rad, of a fixture head that carries a camera before its first latch, for
which R300 states none: by record and axis.
DESIGN CHOICE (log 107). -/
opaque mountPose : Nat → Nat → Int
/-- The training step of a TS unit (R363), for which the spec gives no codes: by link and lane.
DESIGN CHOICE (log 187). -/
opaque trainingStep : Nat → Nat → BitVec 8
/-- A value that the spec leaves open, by the number of free values drawn before it. -/
opaque freeValue : Nat → Nat

end Sys2Proof.Config
end

