-- ==== Sys2Proof/Machine/RegMap.lean ====
section
/-!
DEFINITION. The register map of control space (R555, R565): one row per register or array of
registers, with its reset value and the bits that a write changes, by effect class (R14).
-/

namespace Sys2Proof.Machine

/-- One row of the register map.  Element `(i, j)` lies at `base + s1 * i + s2 * j`. -/
structure RegDesc where
  base : Nat
  n1 : Nat
  s1 : Nat
  n2 : Nat
  s2 : Nat
  /-- Value after reset. -/
  reset : Nat
  /-- Bits a write sets, effect class immediate (RW, and RWL while unlocked). -/
  imm : Nat
  /-- Bits a write sets in the shadow, effect class tick edge. -/
  tick : Nat
  /-- Bits a write leaves in the always-on bank, effect class restart. -/
  held : Nat
  /-- Bits that a written 1 clears. -/
  w1c : Nat
  /-- The register is one RC counter (R11, R7). -/
  rc : Bool
deriving DecidableEq, Repr

/-- A read-only register. -/
def ro (base reset : Nat) : RegDesc := ⟨base, 1, 4, 1, 4, reset, 0, 0, 0, 0, false⟩
/-- An array of read-only registers. -/
def roA (base n s : Nat) : RegDesc := ⟨base, n, s, 1, 4, 0, 0, 0, 0, 0, false⟩
/-- A register whose writable fields act at once. -/
def im (base reset mask : Nat) : RegDesc := ⟨base, 1, 4, 1, 4, reset, mask, 0, 0, 0, false⟩
/-- An array of registers whose writable fields act at once. -/
def imA (base n s reset mask : Nat) : RegDesc := ⟨base, n, s, 1, 4, reset, mask, 0, 0, 0, false⟩
/-- A register whose writable fields act at the next commit. -/
def tk (base reset mask : Nat) : RegDesc := ⟨base, 1, 4, 1, 4, reset, 0, mask, 0, 0, false⟩
/-- An array of registers whose writable fields act at the next commit. -/
def tkA (base n s reset mask : Nat) : RegDesc := ⟨base, n, s, 1, 4, reset, 0, mask, 0, 0, false⟩
/-- A two-dimensional array of registers whose writable fields act at the next commit. -/
def tkB (base n1 s1 n2 s2 reset mask : Nat) : RegDesc :=
  ⟨base, n1, s1, n2, s2, reset, 0, mask, 0, 0, false⟩
/-- A register whose written value is held for the next start. -/
def hd (base reset mask : Nat) : RegDesc := ⟨base, 1, 4, 1, 4, reset, 0, 0, mask, 0, false⟩
/-- A counter, access RC. -/
def cn (base : Nat) : RegDesc := ⟨base, 1, 4, 1, 4, 0, 0, 0, 0, 0, true⟩
/-- An array of counters, access RC. -/
def cnA (base n s : Nat) : RegDesc := ⟨base, n, s, 1, 4, 0, 0, 0, 0, 0, true⟩
/-- A two-dimensional array of counters, access RC. -/
def cnB (base n1 s1 n2 s2 : Nat) : RegDesc := ⟨base, n1, s1, n2, s2, 0, 0, 0, 0, 0, true⟩
/-- A register with bits that a written 1 clears. -/
def wc (base reset mask : Nat) : RegDesc := ⟨base, 1, 4, 1, 4, reset, 0, 0, 0, mask, false⟩

/-- TOP (R557 to R559). -/
def topRegs : List RegDesc :=
  [ro 0x000000 0x81600100, wc 0x000004 0x00000101 0x100, ro 0x000008 0, ro 0x00000C 0,
   roA 0x000010 4 4, ro 0x000020 0]

/-- CLK (R413 to R419). The fuse-held values are set at each start.
DESIGN CHOICE (log 6). -/
def clkRegs : List RegDesc :=
  [ro 0x010000 0, ro 0x010004 0, roA 0x010010 3 4, roA 0x010020 3 4,
   im 0x010040 0x200 0xF1F, im 0x010044 1 0x3FF, im 0x010048 0x02DC6C00 0x3FFFFFFF,
   im 0x01004C 0 0xFFFFFF, im 0x010050 1 0xFFFFFF, im 0x010054 8 0x7F,
   imA 0x010060 3 4 0x04080100 0x0FFF1FFF, im 0x010070 0 3, im 0x010074 0 3,
   ro 0x010080 0x20000, ro 0x010084 0x40000, ro 0x010088 0x80000, ro 0x01008C 0x10000,
   imA 0x010100 4 0x10 0x200 0x3BF, imA 0x010104 4 0x10 1 0xFFFFFF, imA 0x010108 4 0x10 0 0xFFFF,
   cnA 0x010200 6 4]

/-- TMR (R434 to R439). -/
def tmrRegs : List RegDesc :=
  [roA 0x018000 3 4, wc 0x01800C 2 4, im 0x018040 0x002FAF08 0xFFFFFFFF, roA 0x018044 3 4,
   cn 0x018050, imA 0x018100 8 0x20 0 0xF0003, imA 0x018104 8 0x20 0 0xFFFFFFFF,
   imA 0x018108 8 0x20 0 0xFFFFFFFF, imA 0x01810C 8 0x20 0 0xFFFFFFFF, roA 0x018110 8 0x20,
   cnA 0x018114 8 0x20, wc 0x018200 0 0xFF, cn 0x018210]

/-- OTP and SEC (R530 to R534). -/
def otpRegs : List RegDesc :=
  [ro 0x020000 0, roA 0x020010 8 4, roA 0x020030 2 4, im 0x020040 0 0x7FFF, ro 0x020044 0,
   ro 0x020048 0, ro 0x020080 0, ro 0x020084 0, cnA 0x020090 4 4, roA 0x020100 16 4,
   imA 0x020200 72 4 0 0xFFFFFFFF, ⟨0x021000, 64, 0x40, 16, 4, 0, 0, 0, 0, 0, false⟩]

/-- BOOT and UPD (R481 to R485, R504 to R507). -/
def bootRegs : List RegDesc :=
  [roA 0x030000 6 4, im 0x030020 0 0xFFFFFFFF, im 0x030024 0x01000000 0xFFFFFFFF,
   imA 0x030028 2 4 0 0xFFFFFFFF, im 0x030030 0x19 0xFF, roA 0x030034 2 4, cnA 0x030080 5 4,
   roA 0x030100 6 4, hd 0x030118 0x258 0x1FFFF, ro 0x03011C 0, cnA 0x030180 6 4,
   im 0x030200 0 0xFFFFFFFF, im 0x030204 0x80 0xFF, ro 0x030208 0, ro 0x03020C 0,
   imA 0x030280 32 4 0 0xFFFFFFFF, roA 0x034000 4096 4]

/-- EXP, PIX, TRIG and TC (R60 to R64, R67, R94 to R101). -/
def expRegs : List RegDesc :=
  [tkA 0x040000 3072 16 0 0xFFFFFFFF, tkA 0x040004 3072 16 0 0xFFFFFFFF,
   tkA 0x040008 3072 16 0 0xFFFFFFFF, tkA 0x04000C 3072 16 0 0x3FFFFFFF,
   ro 0x04C000 0x18002000, ro 0x04C004 0x20403040, tk 0x04C008 0 1, ro 0x04C00C 0, cn 0x04C010,
   ro 0x04C100 0, ro 0x04C104 0, im 0x04C108 4 0xFF, ro 0x04C10C 0, ro 0x04C110 0,
   cnA 0x04C120 5 4, tk 0x04C200 0 0xF, tk 0x04C204 0x0005B8D8 0xFFFFFFFF,
   tk 0x04C208 0x2CB41780 0xFFFFFFFF, im 0x04C20C 0x00100010 0x03FF03FF,
   tk 0x04C210 1 0xFFFFFF1F, ro 0x04C214 0, ro 0x04C218 0, cnA 0x04C220 4 4, im 0x04C300 1 7,
   roA 0x04C304 3 4, cn 0x04C310]

/-- CNV (R122 to R128). -/
def cnvRegs : List RegDesc :=
  [⟨0x050000, 1, 4, 1, 4, 2, 2, 1, 0, 0, false⟩, tk 0x050004 0x00100040 0x03FF0FFF,
   roA 0x050008 4 4, ro 0x050014 0, cnA 0x050020 4 4, roA 0x050100 32 4, roA 0x050180 32 4,
   roA 0x050400 1024 4]

/-- RDO (R147 to R154). -/
def rdoRegs : List RegDesc :=
  [tk 0x060000 1 3, tk 0x060004 0xFFFFFFFF 0xFFFFFFFF, tk 0x060008 0xFFFF 0xFFFF,
   tk 0x06000C 0x01000010 0x01FF001F, im 0x060010 0x10 0xFF, roA 0x060014 5 4,
   tk 0x060040 0x80000001 0x8007FFFF, tk 0x060044 0x00020001 0x8007FFFF,
   tk 0x060048 0 0x80070000, roA 0x060050 2 4, cnA 0x060080 6 4,
   tkB 0x060100 2 0x80 16 8 0 0xFFFFFFFF, tkA 0x060104 2 0x80 0x18002000 0xFFFFFFFF,
   tkB 0x06010C 2 0x80 15 8 0 0xFFFFFFFF]

/-- PIPE (R183 to R185, R187). -/
def pipeRegs : List RegDesc :=
  [tk 0x070000 0 0x7F, tk 0x070004 3 7, tk 0x070008 1 1, tk 0x07000C 0x02000AF0 0x0FFF0FFF,
   tk 0x070010 0x4666 0xFFFF, tk 0x070014 0x5DC0 0xFFFFFF, tk 0x070018 0 0xFFFF,
   tkA 0x070020 4 4 0x1000 0xFFFF, tk 0x070030 0x1000 0xFFFF, tkA 0x070040 3 4 0x30 0x33,
   tk 0x070050 3 3,
   tk 0x070080 0 0xFFFFFFFF, tk 0x070088 8192 0xFFFFFFFF, tk 0x070090 24576 0xFFFFFFFF,
   tk 0x070098 57344 0xFFFFFFFF, tk 0x0700A0 122880 0xFFFFFFFF, tk 0x0700A8 253952 0xFFFFFFFF,
   tk 0x0700B0 516096 0xFFFFFFFF, tk 0x0700B8 1040384 0xFFFFFFFF,
   tk 0x070084 0 0x1F, tk 0x07008C 1 0x1F, tk 0x070094 2 0x1F, tk 0x07009C 3 0x1F,
   tk 0x0700A4 4 0x1F, tk 0x0700AC 5 0x1F, tk 0x0700B4 6 0x1F, tk 0x0700BC 7 0x1F,
   ro 0x0700C0 0, cnA 0x0700D0 3 4]

/-- STAT (R186, R187). -/
def statRegs : List RegDesc :=
  [tk 0x080000 0x3F 0x3F, tk 0x080004 0xD48 0xFFF, tk 0x080008 0x100 0xFFFF,
   tk 0x080010 8 0xF, tk 0x080014 0xC 0xF, ro 0x080020 0, cn 0x080030]

/-- AUX (R204 to R208). -/
def auxRegs : List RegDesc :=
  [imA 0x090000 2 0x400 0x05DCE406 0x0FFFFFFF, roA 0x090008 2 0x400,
   tkB 0x090010 2 0x400 4 4 3 0xF, cnB 0x090040 2 0x400 5 4,
   cnB 0x090080 2 0x400 4 0x10, cnB 0x090084 2 0x400 4 0x10, cnB 0x090088 2 0x400 4 0x10,
   cnB 0x09008C 2 0x400 4 0x10, tkA 0x090800 2 0x10 0x40 0xFFF, tkA 0x090804 2 0x10 0 0xFFFFFF,
   cnA 0x090808 2 0x10]

/-- AE (R225 to R230). -/
def aeRegs : List RegDesc :=
  [im 0x0A0000 9 0x7F, roA 0x0A0004 2 4, im 0x0A0010 0x400 0xFFF, im 0x0A0014 0 0xFFFF,
   im 0x0A0018 0x20004040 0xFFFFFFFF, im 0x0A001C 0x01000100 0x0FFFFFFF, im 0x0A0020 0x200 0xFFF,
   im 0x0A0024 1 0xFFFFFF, im 0x0A0028 0xFFFFFF 0xFFFFFF, im 0x0A002C 3 3, im 0x0A0030 0x800 0xFFFF,
   im 0x0A0034 0 0xFFFFFF, im 0x0A0038 0 0xFFFFFF, im 0x0A003C 0x960 0xFFFFFF,
   im 0x0A0040 0x02080180 0xFFFFFFFF, im 0x0A0044 0x80000400 0xFFFFFFFF,
   im 0x0A0048 0x40004000 0xFFFFFFFF, im 0x0A004C 0x10000 0xFFFFFFFF,
   im 0x0A0060 0x80035A55 0xFF0FFFFF, cnA 0x0A0080 7 4, imA 0x0A0400 96 4 0xFFFFFFFF 0xFFFFFFFF,
   imA 0x0A1000 768 4 0x01010101 0xFFFFFFFF]

/-- KEN (R258 to R263). The handle and group registers have one copy per source (R254). -/
def kenRegs : List RegDesc :=
  [⟨0x0B0000, 1, 4, 1, 4, 0x11000, 0x10000, 0, 0x1FFF, 0, false⟩,
   im 0x0B0004 0x32080078 0xFFFFFFFF, im 0x0B0008 0x000C0960 0xFFFFFFFF,
   im 0x0B000C 0x21030010 0xFFFFFFFF, im 0x0B0010 0x00040000 0xFFFF0000,
   im 0x0B0014 0x04000400 0xFFFFFFFF, im 0x0B0018 0x182000F0 0xFFFF00FF,
   im 0x0B001C 0x08000004 0xFFFFFFFF, imA 0x0B0020 2 4 0 0xFFFFFFFF, im 0x0B0028 0x578 0xFFFF,
   im 0x0B002C 0xC00000F0 0xFF00FFFF, im 0x0B0030 1 7, ro 0x0B0034 0, imA 0x0B0040 3 4 0 0xFFFFFFFF,
   ro 0x0B004C 0, roA 0x0B0050 3 4, cnA 0x0B0080 9 4]

/-- PTR (R292, R293, R295). -/
def ptrRegs : List RegDesc :=
  [im 0x0C0000 0x120 0x13F, tk 0x0C0004 0x50 0x01FF01FF, im 0x0C0008 0x20602018 0xFFFFFFFF,
   im 0x0C000C 0x40C0 0xFFFF, im 0x0C0010 0x053380 0xFFFFFF, im 0x0C0014 0x1000 0xFFFF,
   ro 0x0C0020 0x00FF0000, roA 0x0C0024 6 4, cnA 0x0C0080 9 4]

/-- SCT (R294, R295). -/
def sctRegs : List RegDesc :=
  [im 0x0D0000 0x30201009 0xFFF0FFFF, im 0x0D0004 0x2000 0xFFFF, ro 0x0D0008 0, cnA 0x0D0080 8 4]

/-- HEEL (R297, R301, R302, R315 to R317). -/
def heelRegs : List RegDesc :=
  [tkA 0x0E0000 128 0x100 0 0x3FFF, tkB 0x0E0004 128 0x100 15 4 0 0xFFFFFFFF,
   tkB 0x0E0040 128 0x100 5 0x20 0 0xFFFFFFFF, tkB 0x0E0044 128 0x100 5 0x20 0 0xFFFFFFFF,
   tkB 0x0E0048 128 0x100 5 0x20 0 0xFFFFFF, tkB 0x0E004C 128 0x100 5 0x20 0 0xFFFFFF,
   tkB 0x0E0050 128 0x100 5 0x20 0 0xFFFFFFFF, tkB 0x0E0054 128 0x100 5 0x20 0 0xFFFFFFFF,
   tkB 0x0E0058 128 0x100 5 0x20 0 0xFFFFFF, tkB 0x0E005C 128 0x100 5 0x20 0 0x1F,
   tkB 0x0E00E0 128 0x100 5 4 0 0xFFFFFFFF,
   tkB 0x0E8000 3 0x80 19 4 0 0xFFFFFFFF, tkA 0x0E804C 3 0x80 0 0xFF01,
   tk 0x0E8400 0x64 0xFFFF, ro 0x0E8404 0, cnA 0x0E8480 6 4, roA 0x0E8800 128 4,
   roA 0x0E8A00 128 4, cnA 0x0E8C00 128 4]

/-- LSH (R351 to R358). The cue argument has one copy per source (R338). -/
def lshRegs : List RegDesc :=
  [⟨0x100000, 128, 0x100, 1, 4, 0x82005858, 0xF0000000, 0x03FFFFFF, 0, 0, false⟩,
   tkA 0x100004 128 0x100 0 0xFFF, roA 0x100008 128 0x100,
   ⟨0x10000C, 128, 0x100, 1, 4, 0x00010000, 0, 0, 0, 0, false⟩, imA 0x100010 128 0x100 0 0xFFFFFFFF,
   roA 0x100014 128 0x100, roA 0x100018 128 0x100, roA 0x10001C 128 0x100,
   cnB 0x100020 128 0x100 8 4, tkB 0x100040 128 0x100 16 4 0 0xFFFFFF,
   tkB 0x100080 128 0x100 16 4 0 0xFFFFFF, tkB 0x1000C0 128 0x100 16 4 0x400 0xFFF,
   im 0x108000 0x960 0xFFFF, tk 0x108004 0xFF 0xFF, ro 0x108008 0]

/-- NLK (R385 to R389). -/
def nlkRegs : List RegDesc :=
  [hd 0x110000 0 3, im 0x110004 0x03E80414 0xFFFF0FFF, tk 0x110008 6 0x3FFFFF, roA 0x110010 2 4,
   roA 0x110020 2 4, roA 0x110028 2 4, ro 0x110030 0, roA 0x110040 5 4, cnB 0x110100 2 0x40 12 4,
   cnA 0x110200 11 4]

/-- MGB (R453 to R456). -/
def mgbRegs : List RegDesc :=
  [im 0x120000 0xA 0xFF, wc 0x120004 0 0x400, im 0x120008 0x10008 0x1037F, im 0x12000C 3 0x7F,
   wc 0x120010 0 0x7F, ro 0x120014 0, cnA 0x120080 9 4]

/-- LOG and RAS (R551 to R554). -/
def rasRegs : List RegDesc :=
  [im 0x130000 0x00690401 0x00FF0F01, roA 0x130004 2 4, im 0x130040 0x1103C 0x1FFFF,
   roA 0x130044 2 4, im 0x130050 0 0x1FFFF, ro 0x130054 0, roA 0x130060 8 4, cnA 0x130080 12 4]

/-- The rows of the block that holds an address (R555): the blocks lie at multiples of 0x8000. -/
def blockRegs (a : Nat) : List RegDesc :=
  match a / 0x8000 with
  | 0 => topRegs
  | 2 => clkRegs
  | 3 => tmrRegs
  | 4 => otpRegs
  | 6 => bootRegs
  | 8 => expRegs
  | 9 => expRegs
  | 10 => cnvRegs
  | 12 => rdoRegs
  | 14 => pipeRegs
  | 16 => statRegs
  | 18 => auxRegs
  | 20 => aeRegs
  | 22 => kenRegs
  | 24 => ptrRegs
  | 26 => sctRegs
  | 28 => heelRegs
  | 29 => heelRegs
  | 32 => lshRegs
  | 33 => lshRegs
  | 34 => nlkRegs
  | 36 => mgbRegs
  | 38 => rasRegs
  | _ => []

/-- The address is one of the elements of the row. -/
def RegDesc.covers (d : RegDesc) (a : Nat) : Bool :=
  decide (d.base ≤ a) &&
    (let o := a - d.base
     let j := o % d.s1 / d.s2
     decide (o / d.s1 < d.n1 ∧ j < d.n2 ∧ o % d.s1 = d.s2 * j))

/-- The row of the register at an address, if a register occupies it (R13, R555). -/
def descOf (a : Nat) : Option RegDesc := (blockRegs a).find? (·.covers a)

/-- The reset value of the register at an address; an unoccupied address reads 0 (R13). -/
def resetWord (a : Nat) : Word :=
  match descOf a with
  | some d => BitVec.ofNat 32 d.reset
  | none => 0

/-- The bits of a register that take effect at a commit. -/
def tickMask (a : Nat) : Word :=
  match descOf a with
  | some d => BitVec.ofNat 32 d.tick
  | none => 0

end Sys2Proof.Machine
end

