-- ==== Sys2Proof/Machine/Records.lean ====
section
/-!
DEFINITION. The records of the image path as plain data: exposures and storage nodes, the readout
plan, what the converters latched, the frames under way, calibration, statistics and Collars.
-/

namespace Sys2Proof.Machine

/-- One exposure of a tile (R68, R72): start and length in EQ, as applied, or as written when it was
left out. -/
structure Expo where
  exists_ : Bool
  start : Nat
  len : Nat
  dropped : Bool
  /-- The drain gate has been released, and the transfer of this exposure is past. -/
  started : Bool
  done : Bool
deriving DecidableEq, Repr

/-- What the commit and the tile shutter record of a tile for one frame (R73, R82, R93). -/
structure TileExp where
  /-- Exposures 1 to 4, or nothing for a tile that is OFF. -/
  exps : List Expo
  clipped : Bool
  /-- The gated interval of exposure 1: start and length in EQ (R81). -/
  gate : Option (Nat × Nat)
  gateEmpty : Bool
  blockedA : Bool
  blockedB : Bool
  /-- 0 none, 1 its burst pass ran, 2 shed, 3 refused (R179). -/
  burst : Nat
deriving DecidableEq, Repr

/-- State of a storage node (R45). -/
inductive NodePhase where
  | empty
  | held
  | part
deriving DecidableEq, Repr

/-- A storage node of a tile, with the frame and exposure that its charge belongs to (R45). -/
structure Node where
  phase : NodePhase
  frame : Nat
  n : Nat
deriving DecidableEq, Repr

/-- A burst pass (R138): its start in bus counts from E, its tile-rows, and whether it was shed. -/
structure Pass where
  start : Nat
  rows : List Nat
  shed : Bool
deriving DecidableEq, Repr

/-- The readout plan of a tick (R130, R140, R141). -/
structure Plan where
  /-- Main-pass tile-rows, ascending; the end of each one's read; the configured ones. -/
  rows : List Nat
  lo : SMap Nat
  nCfg : Nat
  /-- Burst passes: those that run, in order, then those shed, last first. -/
  passes : List Pass
  /-- Burst tiles accepted and not shed, shed, and refused. -/
  accepted : List Nat
  shedTiles : List Nat
  refused : List Nat
  /-- Tracking-need tile-rows refused (R133). -/
  needRefused : List Nat
  obRun : Bool
  endAt : Nat
  floor : Nat
  floorRaised : Bool
  /-- The sequencer was in service when the plan was made (R47). -/
  made : Bool
deriving DecidableEq, Repr

/-- A run of row slots still to be read: 0 main, 1 burst, 2 optical black. -/
structure Block where
  kind : Nat
  row : Nat
  /-- Start in bus counts from E, bus counts per slot, slots in all, and the next slot. -/
  start : Nat
  slotTime : Nat
  slots : Nat
  next : Nat
deriving DecidableEq, Repr

/-- One frame under way (R20, R93, R177): frame k while it is exposed and while it is read. -/
structure Frame where
  k : Nat
  tb : Nat
  id : Nat
  period : Nat
  mode : Nat
  synth : Bool
  glHold : Bool
  glSlew : Bool
  glRange : Bool
  deferNlk : Bool
  deferMgb : Bool
  deferShp : Bool
  /-- The thermal stage decided at the frame's edge (R223). -/
  therm : Nat
  /-- A Collar was opened for the frame (R176). -/
  collar : Bool
  calGen : Nat
  tcWord : Nat
  tcAge : Nat
  tcValid : Bool
  /-- First active interval of TRIG1 in the tick, in EQ (R82). -/
  trig1 : Option (Nat × Nat)
  plan : Plan
  tiles : SMap TileExp
  /-- Exposures in the nodes at the burst read and at the main read, by 2·tile + node. -/
  burstHeld : SMap Nat
  mainHeld : SMap Nat
  /-- Latches of the burst passes and of the main pass, by 32·tile-row + slot. -/
  burst : SMap SlotCap
  main : SMap SlotCap
  /-- The offset table, and its entries taken as 0, at the burst reads (R116, R162). -/
  burstOffs : SMap Nat
  burstZero : List Nat
  /-- Tile-rows whose pyramid and statistics are ready (R23). -/
  ready : List Nat
deriving DecidableEq, Repr

/-- The LTC decoder (R83). -/
structure Timecode where
  /-- The latest complete word and the TB of the end of its sync word. -/
  word : Option (Nat × Nat)
  /-- The nominal rate of the last word, if it was complete: 1 24, 2 25, 3 30; 0 none. -/
  lastRate : Nat
  /-- The detected rate in use; 0 none. -/
  rate : Nat
deriving DecidableEq, Repr

/-- Tile shutter, readout sequencer and their inputs. -/
structure Img where
  nodes : SMap Node
  /-- The filtered TRIG1 level that the last pin change leads to, and its changes in the open tick from the
  level at E on (R81). -/
  trig1 : Bool
  hist : List (Nat × Bool)
  tc : Timecode
  /-- The frame now exposing, and the frame now read. -/
  cur : Frame
  prv : Frame
  /-- The slots of the open tick not yet read. -/
  blocks : List Block
  /-- The flush at E + 2 µs of the open tick is past (R47). -/
  flushed : Bool
  /-- A frame of the open tick with a GATE_EMPTY tile has been counted (R82). -/
  gateMiss : Bool
  /-- The READOUT_END of the open tick is past. -/
  ended : Bool
  /-- F_k of the last tick that the floor raised (R135). -/
  lastFloor : Nat
  /-- Tile-rows read whole whose lines wait for the first slot of the next one of their pass. -/
  wait : List Block
  /-- Tracking-need tile-rows for subjects and for features (R133, R279). -/
  subjRows : List Nat
  featRows : List Nat
deriving DecidableEq, Repr

/-- Conversion, its calibration and its repair (R102 to R128). -/
structure Cnv where
  /-- The offset table, as 16-bit two's complement codes in Q12.4 (R112). -/
  offs : SMap Nat
  /-- Consecutive rejections per entry (R115). -/
  rejects : SMap Nat
  /-- The entries of a completed refresh that act from the next edge (R116). -/
  fresh : Option (List (Nat × Nat))
  /-- A refresh is due, with the ticks it has been due for; its pass is done. -/
  due : Option Nat
  passDone : Bool
  nextGain : Nat
  /-- Latches of the last optical-black pass, by slot, with its depth and its CNV_PEDESTAL (R105). -/
  ob : SMap SlotCap
  obTen : Bool
  obPed : Word
  /-- TB from which the nodes of the OB rows are EMPTY (R114). -/
  obClear : Nat
  /-- Entries taken as 0 after an uncorrectable word (R536). -/
  zeroed : List Nat
  /-- Unrepaired converters, 8,256·bank + column. -/
  unrepaired : List Nat
deriving DecidableEq, Repr

/-- A white-balance or auxiliary zone: three sums and a count (R173). -/
structure Zone where
  r : Nat
  g : Nat
  b : Nat
  n : Nat
deriving DecidableEq, Repr

/-- A tile sum (R173). -/
structure TileSum where
  r : Nat
  g : Nat
  b : Nat
  clip : Nat
  flags : Nat
deriving DecidableEq, Repr

/-- A statistics bank (R173, R175): the header and its sections. -/
structure Bank where
  frame : Nat
  id : Nat
  state : Nat
  rows : List Nat
  tb : Nat
  bypass : Nat
  /-- A word of the header was uncorrectable: the bank never becomes COMPLETE (R536). -/
  lost : Bool
  /-- Bins by 1,024·channel + bin. -/
  hist : SMap Nat
  zones : SMap Zone
  tiles : SMap TileSum
  /-- Tile luma bins by 64·tile + bin. -/
  luma : SMap Nat
deriving DecidableEq, Repr

/-- A closed Collar (R176). -/
structure CollarSlot where
  record : List Byte
  map : List Byte
deriving DecidableEq, Repr

/-- Statistics, defects and Collars. -/
structure Stat where
  /-- Array banks 0 and 1, then auxiliary banks 2 + 2·channel + bank. -/
  banks : SMap Bank
  /-- Defect METHOD by 8,192·y + x (R160). -/
  defects : SMap Nat
  collars : SMap CollarSlot
deriving DecidableEq, Repr

/-- A line of an auxiliary frame as received (R193, R194): its flags are 1 CRC_BAD, 2 TRUNCATED, 4 SHORT and, for
the line itself, 8 DAMAGED. -/
structure AuxLine where
  idx : Nat
  dt : Nat
  flags : Nat
  bytes : List Byte
deriving DecidableEq, Repr

/-- A frame of an auxiliary pair (R191, R192, R180). -/
structure AuxFrame where
  /-- The frame's number among all auxiliary frames since the start. -/
  uid : Nat
  frame : Nat
  id : Nat
  num : Nat
  /-- FS time. -/
  fs : Nat
  /-- PHASE of its pair, as the commit of its tick made it (R85, R206). -/
  phase : Nat
  /-- The first frame of its tick, the only one used for tracking, statistics and the Collar. -/
  first : Bool
  bound : Option Nat
  /-- The auxiliary statistics banks that collect it: channel and bank. -/
  banks : List (Nat × Nat)
  dt : Option Nat
  next : Nat
  received : Nat
  dropped : Nat
  crcErrs : Nat
  longest : Nat
  damaged : Bool
  incomplete : Bool
  truncated : Bool
  open_ : Bool
  /-- The frame has closed and some of its lines still wait in the FIFO; STATE at its close (R203). -/
  ending : Bool
  endState : Nat
  /-- The lines that have left the FIFO, oldest first, of a frame that is used. -/
  lines : List AuxLine
deriving DecidableEq, Repr

/-- A line in a port FIFO (R201, R202): bytes not yet taken, and whether its data is passed on. -/
structure FifoLine where
  pair : Nat
  /-- The frame of the line. -/
  uid : Nat
  size : Nat
  left : Nat
  out : Bool
  line : AuxLine
deriving DecidableEq, Repr

/-- The auxiliary inputs (R188 to R208). -/
structure Aux where
  /-- Receivers that are on. -/
  on : List Nat
  /-- Frames of each pair: those of this tick and the one before, and the open one. -/
  frames : SMap (List AuxFrame)
  /-- The lanes of each port: all data lanes in stop state, the clock lane in HS mode (R205). -/
  lanes : SMap (Bool × Bool)
  /-- Lines in the two FIFOs, oldest first. -/
  fifo : List FifoLine
  /-- Consecutive ticks without a frame start, by binding, as of the last edge; bindings in MISSING; those whose MISSING
  the tick before shows (R200). -/
  quiet : SMap Nat
  missing : List Nat
  missPrv : List Nat
  /-- Bindings for which the tick before is one without a frame start in MISSING, yet to be counted (R200). -/
  missDue : List Nat
  /-- The bank that the next frame of a statistics channel takes. -/
  nextBank : SMap Nat
  /-- Auxiliary frames opened since the start. -/
  nextUid : Nat
deriving DecidableEq, Repr

/-- The exposure controller (R209 to R222). -/
structure Ae where
  /-- The bank of the run in progress, and the bank that waits. -/
  running : Option Nat
  waiting : Option Nat
  /-- Commanded sensitivities in 1/256 stop, by tile, and the global one at index 3,072; an unlisted
  one is recovered at the next run (R213). -/
  cmd : SMap Int
  /-- The commands that the run in progress leaves when it closes (R213). -/
  newCmd : SMap Int
deriving DecidableEq, Repr

/-- The MATCH field of a slot (R275): numbers as the field holds them, signed where it says so. -/
structure MatchRec where
  err : Nat
  curv : Nat
  dx : Int
  dy : Int
  ofs : Int
  part : Nat
  lane : Nat
  flags : Nat
  tried : Nat
deriving DecidableEq, Repr

/-- One Kennel slot (R238 to R240).  Positions, velocities and accelerations are the raw values of
their formats; a FREE slot keeps only its generation. -/
structure Track where
  gen : Nat
  /-- 0 FREE, 1 CANDIDATE, 2 LOCKED, 3 COASTING, 4 LOST. -/
  state : Nat
  subj : Bool
  source : Nat
  origin : Nat
  stale : Bool
  persist : Bool
  conf : Nat
  frameLast : Nat
  frameBirth : Nat
  age : Nat
  miss : Nat
  hits : Nat
  x : Int
  y : Int
  vx : Int
  vy : Int
  tMeas : Nat
  w : Nat
  h : Nat
  label : Nat
  /-- 1 REACQ, 2 OFF_ARRAY, 4 ALBUM_KEPT. -/
  flags : Nat
  ax : Int
  ay : Int
  groups : Nat
  height : Nat
  albumN : Nat
  albumNext : Nat
  albumFrame : Nat
  mat : MatchRec
  lostFrame : Nat
  probes : Nat
  tag : Nat
  parent : Nat
  score : Nat
deriving DecidableEq, Repr

/-- One album snapshot (R250): flags are 1 VALID, 2 PINNED, 4 HOST. -/
structure Snap where
  /-- The 256-bit descriptor. -/
  desc : Nat
  frame : Nat
  w : Nat
  h : Nat
  conf : Nat
  source : Nat
  flags : Nat
deriving DecidableEq, Repr

/-- A valid entry of a Scent set (R287). -/
structure ScentEntry where
  key : Nat
  slot : Nat
  snap : Nat
  band : Nat
deriving DecidableEq, Repr

/-- A host command that waits for the next edge (R246). -/
inductive KenCmd where
  | seed (d : Seed)
  | kill (handle : Nat)
  | opKill (handle : Nat)
  | setGroups (handle groups : Nat)
  | setPersist (handle : Nat) (value : Bool)
  | cueGo (cue : Nat)
deriving DecidableEq, Repr

/-- A cue record of the configuration (R255, R476): trigger 0 AT_START, 1 TIMECODE, 2 GO. -/
structure CueRec where
  cue : Nat
  trigger : Nat
  seed : Seed
  tcTime : Nat
  tcWindow : Nat
  armed : Bool
deriving DecidableEq, Repr

/-- A blob of lit pixels (R248): its area, the sums of w·(u + 1/2)·2, of w·(v + 1/2)·2 and of w, and
its bounding box at level 0. -/
structure Beacon where
  area : Nat
  su : Nat
  sv : Nat
  sw : Nat
  u0 : Nat
  v0 : Nat
  u1 : Nat
  v1 : Nat
deriving DecidableEq, Repr

/-- A feature proposal of the seeder (R249): its cell, position in Q16.16 and score field. -/
structure Proposal where
  cell : Nat
  x : Int
  y : Int
  score : Nat
deriving DecidableEq, Repr

/-- A feature that became FREE, for stream 6 (R257). -/
structure Freed where
  slot : Nat
  handle : Nat
  x : Int
  y : Int
  conf : Nat
  age : Nat
deriving DecidableEq, Repr

/-- The Kennel (R231 to R263). -/
structure Ken where
  slots : SMap Track
  /-- Snapshot i of slot s at 64·s + i. -/
  albums : SMap Snap
  /-- The slot after the last one allocated, per region (R233). -/
  nextSubj : Nat
  nextFeat : Nat
  /-- Slots allocated at the last edge (R237). -/
  fresh : List Nat
  stable : Bool
  cmds : List KenCmd
  cues : List CueRec
  /-- Beacons of the frame being read, by source, in detector order (R248). -/
  found : SMap (List Beacon)
  props : List Proposal
  /-- The cell at which the next seeder run starts. -/
  seedCell : Nat
  /-- Features as the last stream 6 set left them: slot, and generation and state (R257). -/
  sixSeen : SMap Nat
  freed : List Freed
  /-- Slots with an uncorrectable word (R536). -/
  broken : List Nat
deriving DecidableEq, Repr

/-- One pyramid buffer (R264 to R266). -/
structure Pyr where
  frame : Nat
  /-- The frame exists: something has been built here. -/
  live : Bool
  /-- Source width and height, within the limits of R264. -/
  w : Nat
  h : Nat
  /-- Source width and height as received (R193, R194). -/
  fullW : Nat
  fullH : Nat
  /-- The level-0 rows that are ready, by row. -/
  rows : SMap (List Nat)
  /-- Of an auxiliary frame, the level-0 rows from the top whose lines have been taken or are lost (R198). -/
  upTo : Nat
  /-- Rows with an uncorrectable word, 4,096·level + row. -/
  bad : List Nat
  /-- The measurement instant: of an auxiliary frame, or of a tile without an exposure. -/
  inst : Nat
  /-- Measurement instants of the tiles of an array frame that is no longer being read. -/
  insts : SMap Nat
deriving DecidableEq, Repr

/-- A tick-journal entry (R283, R543). -/
structure JrnEntry where
  slot : Nat
  subj : Bool
  lane : Nat
  frame : Nat
  /-- Journal order within the tick. -/
  order : Nat
  tq : Nat
  tp : Nat
  image : Track
deriving DecidableEq, Repr

/-- The Pointer array (R264 to R284). -/
structure Ptr where
  /-- Buffer b of source s at 2·s + b, and the current buffer of each source. -/
  pyr : SMap Pyr
  buf : SMap Nat
  /-- Sources whose frame of the tick before exists and is not MISSING (R267). -/
  present : List Nat
  /-- Retired lanes, 64 for the spare; the lane that the spare replaces. -/
  retired : List Nat
  spareFor : Option Nat
  shadow : Option Nat
  lastShadow : Option Nat
  /-- The region start that the cursor belongs to, and the cursor of the next tick once C is past (R276). -/
  cursorLo : Nat
  nextCursor : Nat
  /-- Jobs in flight by lane: slot and TB at the start. -/
  running : SMap (Nat × Nat)
  started : List Nat
  featStarted : Nat
  /-- Outcomes of the tick: 1 ACCEPT, 2 REJECT, 3 STALE, 4 ABSENT, 5 REACQUIRE, 6 NONE. -/
  outcome : SMap Nat
  journal : List JrnEntry
  /-- Journaled slots whose re-run waits (R283), and journal slots bad in both copies. -/
  replay : List JrnEntry
  badJournal : List Nat
  kat : Bool
  cut : Bool
  booked : Bool
  solved : Bool
  retiredNow : Bool
  unfinished : Bool
  /-- The lane set was healthy when last looked at (R284). -/
  healthy : Bool
deriving DecidableEq, Repr

/-- A probe window that was processed or that is next (R289): its source, kind, place within the kind (slot, or
place among the beacons) and number. -/
structure ProbeWin where
  src : Nat
  /-- 0 candidate, 1 beacon, 2 own window. -/
  kind : Nat
  idx : Nat
  m : Nat
  x : Int
  y : Int
  w : Nat
  h : Nat
deriving DecidableEq, Repr

/-- A candidate pairing (R290): the window, the slot and the distance. -/
structure Pairing where
  win : ProbeWin
  slot : Nat
  dist : Nat
deriving DecidableEq, Repr

/-- The Scent table and its probes (R285 to R291). -/
structure Sct where
  /-- Valid entries of each set, way 0 first. -/
  sets : SMap (List ScentEntry)
  /-- Places in the tick's window list that have been processed. -/
  probed : List ProbeWin
  pairs : List Pairing
  /-- TB from which the descriptor unit is free (R289). -/
  freeAt : Nat
  /-- Snapshots that an uncorrectable word has cost (R536), whose entries go when the table next changes (R288). -/
  lost : List (Nat × Nat)
deriving DecidableEq, Repr

end Sys2Proof.Machine
end

