-- ==== Sys2Proof/Machine/State.lean ====
section
/-!
DEFINITION. The state of the T8160 as plain data: every register, memory, queue, table and status
that the spec gives it, the always-on bank, the attached flash, the fuses, and the queue of commands
that wait.  Every sparse table is an `SMap`: sorted, without the entries that hold the default.
-/

namespace Sys2Proof.Machine

/-- Where the block stands between reset and its ticks (R457, R459, R396, R527, R461, R35, R36). -/
inductive Phase where
  /-- PGOOD or RESET_B is low. -/
  | held
  /-- A start waits at step 3 for REFCLK. -/
  | waitRef
  /-- A start waits at step 4 for a debug response. -/
  | waitDebug
  /-- Step 8 is done and the first tick edge is due. -/
  | waitFirst
  /-- Ticks run. -/
  | run
  /-- A fault or a command has called for a warm restart, which is due. -/
  | restarting
  /-- Tier T0. -/
  | dark
deriving DecidableEq, Repr

/-- The source from which TB advances (R421). -/
inductive TbSrc where
  | bus
  | refclk
  | slow
deriving DecidableEq, Repr

/-- What a write, or one word of a CLOSE, did to the shadow (R85, R89): the TB of its bus cycle, the address and the
bits written, and the word before.  A CLOSE notes itself with no bits as well. -/
structure Landing where
  tb : Nat
  addr : Nat
  mask : Word
  old : Word
deriving DecidableEq, Repr

/-- A bracket that has closed since the last commit (R88): its source, and the TB of its OPEN and of its end. -/
structure Shut where
  src : Src
  opened : Nat
  ended : Nat
deriving DecidableEq, Repr

/-- The register file (R14, R85 to R88).  `cur` holds what an immediate field is and what the shadow
of a tick-edge field is; `act` the values committed at the last edge; `prev` those of the edge
before, which govern the frame now read. -/
structure Regs where
  cur : SMap Word
  act : SMap Word
  prev : SMap Word
  /-- The staging set of each source while its bracket is open: address, mask, value. -/
  stgNlk : Option (List (Nat × Word × Word))
  stgMgb : Option (List (Nat × Word × Word))
  stgShp : Option (List (Nat × Word × Word))
  /-- Commits that have fallen inside each open bracket. -/
  cntNlk : Nat
  cntMgb : Nat
  cntShp : Nat
  /-- What has landed in the shadow and is in no commit yet, newest first (R85, R89). -/
  landed : List Landing
  /-- TB at which the open bracket of each source was opened, and the brackets that have ended since the last commit
  (R88). -/
  opNlk : Nat
  opMgb : Nat
  opShp : Nat
  shut : List Shut
  /-- The settings ID of the frame now exposing (R89). -/
  settingsId : Nat
  /-- The settings ID of the frame now read. -/
  prevId : Nat
  /-- The copies of KEN_CMD_HANDLE, KEN_CMD_GRP_LO, KEN_CMD_GRP_HI and LSH_CUE_ARG[n] of the
  management bus and of the Shepherd (R254, R338); the copy of Neleklink stands in `cur`. -/
  mgbCopy : SMap Word
  shpCopy : SMap Word
  /-- What the last read of a counter returned to its source (R11). -/
  lastRead : Word
deriving DecidableEq, Repr

/-- The timebase and the tick timer (R420, R421, R429, R430). -/
structure Time where
  tb : Nat
  /-- The fraction accumulator of R421, a numerator over the denominator of the REF_CODE row. -/
  frac : Nat
  src : TbSrc
  /-- A tick is open. -/
  tickOpen : Bool
  /-- Index of the open tick. -/
  k : Nat
  /-- TB at the edge that opened the tick. -/
  e : Nat
  /-- The next instant at which the device itself opens a tick. -/
  cmp : Nat
  /-- The period of the open tick: known in FREE and GENLOCK, T_min in EXTERNAL and GATED (R22). -/
  t : Nat
  /-- T_min in effect, with the readout floor (R75, R135). -/
  tmin : Nat
  /-- The mode that made the last edge (R99). -/
  madeBy : Nat
  /-- The open tick was opened by a synthetic edge; in GENLOCK holdover, slew, range. -/
  synth : Bool
  glHold : Bool
  glSlew : Bool
  glRange : Bool
  /-- The no-pulse condition of R78, and the pulse stamp when GENLOCK was entered. -/
  glWait : Bool
  glMark : Option Nat
  /-- Debug halt or standby (R431). -/
  slow : Bool
  /-- TB of the last write of TMR_TICK_INTERVAL, and the interval before that bus cycle (R424, R429). -/
  ivOld : Option (Nat × Nat)
deriving DecidableEq, Repr

/-- The last fire of a timer: its TB, and the timer, PEND bit, interrupt and MISSED before it (R426). -/
structure GtFire where
  tb : Nat
  compare : Nat
  armed : Bool
  pend : Bool
  irq : Bool
  missed : Word
deriving DecidableEq, Repr

/-- One general timer (R422 to R427). -/
structure Timer where
  presc : Nat
  compare : Nat
  heldHi : Option Word
  armed : Bool
  /-- TB of the last write of INTERVAL, and the interval before that bus cycle (R424). -/
  ivOld : Option (Nat × Nat)
  fired : Option GtFire
deriving DecidableEq, Repr

/-- One external output (R407 to R411). -/
structure ClkOut where
  running : Bool
  /-- Enabled and waiting for a SYNC reset; held low meanwhile, after a change of a running output (R410). -/
  waitSync : Bool
  low : Bool
  /-- The settings in effect: source, divider, source cycles high of each DIV, delay in steps modulo the
  output period as a numerator and its denominator, and format. -/
  src : Nat
  div : Nat
  high : Nat
  delay : Nat
  delayDen : Nat
  fmt : Nat
  /-- With source TICK, the pulse of the open tick in 1/64 bus counts, its rise and its fall, as far as the period of
  the tick is known, and the pulse of the tick before (R408). -/
  pulse : Option (Nat × Nat)
  lastPulse : Option (Nat × Nat)
  /-- TB of the last restart or SYNC reset of the divider; none when not aligned by SYNC. -/
  aligned : Option Nat
deriving DecidableEq, Repr

/-- Clock synthesis (R390 to R419). -/
structure Clk where
  refCode : Nat
  gUse : Nat
  /-- VCO band and charge-pump trims of PLL-C, PLL-S and PLL-G, and the slow-oscillator trim, as the fuse sense
  delivers them; none at mid-code (R509, R512). -/
  trims : List (Option Word)
  cLock : Bool
  sLock : Bool
  gLock : Bool
  cEnabled : Bool
  sEnabled : Bool
  gEnabled : Bool
  refLost : Bool
  /-- 0 PLL-C, 1 REFCLK, 2 PLL-C in holdover. -/
  busSrc : Nat
  gBypassed : Bool
  gHoldover : Bool
  gCfgErr : Bool
  /-- PLL-G slews its frequency back to a returned input (R399). -/
  gReacquire : Bool
  /-- The last qualified GENLOCK pulse, and the tracked phase and period, in 1/16 bus counts (R401). -/
  pulse16 : Option Nat
  period16 : Option Nat
  /-- PLL-G has locked since its acquisition began (R400). -/
  gEver : Bool
  /-- Frequency of the clock on GENLOCK in Hz, 0 for none (R400). -/
  genHz : Nat
  /-- Consecutive phase-detector cycles towards a change of lock, by loop (R405). -/
  ld : SMap Nat
  /-- General timers whose fire has interrupted the Shepherd, bit n, until PEND is cleared (R422). -/
  irq : Word
  outs : SMap ClkOut
  /-- TB of the last accepted SYNC edge (R412). -/
  lastSync : Option Nat
  timers : SMap Timer
deriving DecidableEq, Repr

/-- One entry of the event log (R545). -/
structure LogEntry where
  tb : Nat
  seq : Nat
  frame : Nat
  code : Nat
  sev : Nat
  start : Nat
  arg0 : Nat
  arg1 : Nat
  arg2 : Nat
deriving DecidableEq, Repr

/-- An event that is to be logged (R545). -/
structure LogItem where
  block : Nat
  kind : Nat
  sev : Nat
  uncorr : Bool
  arg0 : Nat
  arg1 : Nat
  arg2 : Nat
deriving DecidableEq, Repr

/-- The log RAM and its archive state (R545 to R547). -/
structure Log where
  ram : SMap LogEntry
  wr : Nat
  /-- SEQ of the newest entry. -/
  seq : Nat
  /-- Entries not yet archived. -/
  unarch : Nat
  /-- The current log second, and the entries of each CODE in it. -/
  sec : Nat
  codeCnt : SMap Nat
  /-- Corrections in SRAM and eDRAM in the current log second (R535). -/
  ceSram : Nat
  ceEdram : Nat
  /-- TB at which the last log second whose corrections have been summed up ended (R535). -/
  sumAt : Nat
  /-- The archive entry that the next flush writes, and the newest valid one. -/
  archWr : Nat
  archNewest : Nat
  /-- A flush is due (R546). -/
  flushDue : Bool
  lastFlush : Nat
  /-- The events of the bus cycle under way, kept to be written in order of BLOCK (R545): the model's own field, none
  between commands. -/
  batch : Option (List LogItem)
  /-- How many of the newest entries may still give place to one of their own bus cycle and a lower BLOCK (R545), and
  a start is under way, whose steps are cycles apart: the model's own fields. -/
  cycle : Nat
  inStart : Bool
deriving DecidableEq, Repr

/-- The always-on bank (R458) and the tier. -/
structure Sys where
  phase : Phase
  pgoodLow : Bool
  resetLow : Bool
  /-- Tier 1 to 3; 1 until step 8 (R558). -/
  tier : Nat
  fell : Bool
  /-- CAUSE of the start under way or due (R457), and the class of the event that has called for it: 0 a command,
  1 UT, 2 UE or LS (R535, R536). -/
  cause : Nat
  restartClass : Nat
  /-- VPLL is in its window (R406). -/
  vpllOk : Bool
  /-- A first tick edge has come since the supplies rose (R573). -/
  edgeSeen : Bool
  /-- The start that waits at step 3 or 4. -/
  waiting : Option StartEnv
  /-- TB at which the wait for a debug response began (R527). -/
  waitAt : Nat
  /-- Lockstep mismatches: n and the TB of the last (R539). -/
  lsN : Nat
  lsLast : Nat
  /-- TB of each fault restart (R540). -/
  rstTimes : List Nat
  /-- Restart-class values written since the last start began: address, mask, value (R14). -/
  held : List (Nat × Word × Word)
  /-- The held values that the start under way is to apply (R14, R475). -/
  applying : List (Nat × Word × Word)
  /-- Warm restarts since the last cold start (R559). -/
  startCount : Nat
  /-- Units out of service. -/
  failed : List UnitId
  /-- The readout sequencer has left service (R46, R47, R589). -/
  rdoStopped : Bool
  /-- An uncorrectable error since E0 (R535). -/
  uncorr : Bool
  /-- Consecutive edges with T_j at or above TRIP; the trip in force; its restart held back (R541). -/
  tripEdges : Nat
  tripped : Bool
  tripRestart : Bool
  /-- Thermal governor stage (R223). -/
  thermStage : Nat
  /-- Position of the eDRAM scrubber in 64-byte lines, TB of its last line, and TB of the last scrub of the SRAMs
  (R537). -/
  scrubPos : Nat
  scrubAt : Nat
  sramAt : Nat
  /-- Consecutive tick edges without service of the watchdog (R538). -/
  wdMissed : Nat
deriving DecidableEq, Repr

/-- A flash command that the hold-up check defers, named by its owner (R478). -/
inductive FlashJob where
  | logFlush
  | updBlock
  | mapErase
  | verifiedMarker
  | trialRecord
  | confirmedRecord
  | rollbackRecord
deriving DecidableEq, Repr

/-- The attached flash, and the boot state read from it (R464 to R485). -/
structure Boot where
  /-- Flash contents; an unlisted byte is erased (0xFF). -/
  flash : SMap Byte
  usable : Bool
  deferred : List FlashJob
  /-- PFW_B low, and the TB of its release (R479). -/
  pfwLow : Bool
  pfwRelease : Nat
  pfwHold : Bool
  romOnly : Bool
  /-- Copy in use: 0 none, 1 A, 2 B; its length. -/
  cfgCopy : Nat
  cfgLen : Nat
  fwBank : Nat
  trial : Bool
  prevBank : Nat
  /-- Boot record slot in use and its SEQ; none with no valid slot (R467). -/
  brec : Option (Nat × Nat)
  /-- Pointer control cores whose load failed (R477). -/
  coreFail : Nat
  /-- The pins MA2:MA0 of this start (R441). -/
  ma : Nat
  /-- The codes of the monitor converter at the coming hold-up checks of the command under way (R478): the
  model's own field, empty between commands. -/
  senses : List Nat
  /-- The flash commands that the block under way issues before one reports a failure, and that one has (R492):
  the model's own fields. -/
  failAt : Option Nat
  flashFailed : Bool
  /-- The next check is one more of a command already deferred (R478). -/
  recheck : Bool
  /-- Erases and programs that an operation has issued before the command it waits for: twice the address, plus
  1 for a program (R478). -/
  issued : List Nat
  /-- TB of the last check that deferred a flash command (R478). -/
  checkAt : Nat
  /-- What step 5 has loaded, by TARGET: 0 Shepherd code RAM, 1 Shepherd data RAM, 2 Pointer control cores, 3 Heel
  microcode, 4 aux receiver tables, 5 eDRAM staging (R459, R477, R486, R528). -/
  ram : SMap (List Byte)
  /-- The interface mode of the flash: 0 1-1-1, 1 1-4-4, 2 8D-8D-8D (R465, R579). -/
  flashMode : Nat
deriving DecidableEq, Repr

/-- A firmware block that waits on a deferred flash command (R492). -/
structure UpdPend where
  /-- 1 Neleklink, 2 management bus. -/
  path : Nat
  link : Nat
  tag : Nat
  offset : Nat
  data : List Byte
  since : Nat
  /-- The flash commands that it issues before one fails (R492). -/
  fail : Option Nat
deriving DecidableEq, Repr

/-- Firmware update (R486 to R507). -/
structure Upd where
  state : Nat
  owner : Nat
  imgLen : Nat
  version : Nat
  hdrErr : Nat
  last : Nat
  failSeg : Nat
  cmdResult : Nat
  verifyPos : Nat
  /-- TB at which the verification pass under way began (R498). -/
  verifySince : Option Nat
  /-- Header bytes held in RAM before the session opens, by offset. -/
  held : SMap Byte
  /-- Blocks that wait on a deferred flash command, in order of arrival. -/
  pend : List UpdPend
  mbCode : Nat
  /-- TB at which ACTIVATE began to wait (R497). -/
  actSince : Nat
  /-- The TRIAL record is written, and the ACTIVATED marker is due (R497, R499). -/
  trialWritten : Bool
  /-- CONFIRM: ticks left, and the WINDOW and HOST_CONFIRM of the trial start (R505). -/
  confirmLeft : Nat
  hostConfirm : Bool
  /-- The checks of R500 have held: tier 3 reached, and nothing failed since. -/
  checksOk : Bool
  /-- The CONFIRMED write has begun. -/
  confirming : Bool
deriving DecidableEq, Repr

/-- Fuses, keys and debug (R508 to R534). -/
structure Otp where
  /-- Per bit, the thresholds at which the fuse reads 1: 0 none, 1 LOW, 2 and NORMAL, 3 and HIGH. -/
  fuse : SMap Nat
  /-- Bits whose level at the last sense differs from `fuse` through drift (R515). -/
  drift : SMap Nat
  /-- Decided words of the start, 16·r + w (R516). -/
  data : SMap Word
  /-- Bits programmed OK since the start (R517). -/
  since : List Nat
  lifecycle : Nat
  keyKill : Bool
  keyOk : Bool
  dbgEn : Bool
  rngFail : Bool
  /-- Failures of the health tests in this start (R525). -/
  rngFails : Nat
  /-- The volatile key store; empty when it holds 0 (R523). -/
  keyStore : List Byte
  drbgSeeded : Bool
  drbgRequests : Nat
  progBusy : Bool
  progResult : Nat
  progReason : Nat
  progBit : Nat
  /-- SRC of the pulse under way: the internal pump (R518). -/
  progPump : Bool
  /-- The request latch (R526), the debug state, the nonce and whether it is spent. -/
  latch : Bool
  dbgState : Nat
  challenge : List Byte
  nonceUsed : Bool
deriving DecidableEq, Repr

/-- Management bus and Bark (R440 to R456). -/
structure Mgb where
  addr : Nat
  ptr : Nat
  /-- Occurrences pending and count last sent, by code − 1 (R449, R450). -/
  cnt : SMap Nat
  sent : SMap Nat
  /-- A Bark attempt or retry wait: the code, the count sent and the retries made (R451). -/
  attempt : Option (Nat × Nat × Nat)
  /-- Codes abandoned since their last occurrence (R451). -/
  abandoned : List Nat
  /-- The bytes that the device drove in the last read or Bark (R445, R450). -/
  wire : List Byte
  /-- The bit rate in Hz at which the device drove the last Bark, and the TB of its last attempt (R450, R451). -/
  rate : Nat
  tryAt : Nat
  /-- The TB of the last occurrence of a code, plus 1, by code − 1 (R449). -/
  seen : SMap Nat
  /-- A byte that was sent in a read waits for its ninth clock (R448). -/
  cut : Bool
  /-- A transfer is open on the bus, with no STOP yet; TB from which the bus is free where none is (R451). -/
  busy : Bool
  freeAt : Nat
  /-- SDA_TO as the last START took it, and the TB of the last transaction (R453). -/
  sdaTo : Nat
  lastAt : Nat
deriving DecidableEq, Repr

/-- A packet towards the host: queued, or kept for replay (R370, R371, R381). -/
structure Pkt where
  type : Nat
  /-- 0 IMG, 1 META, 2 RESP. -/
  cls : Nat
  stream : Nat
  /-- The frame data that a stream packet belongs to: the stream, 16 + pair for the pairs that share an
  auxiliary stream, 1024 + frame for stream 3; 0 in a response. -/
  key : Nat
  first : Bool
  last : Bool
  /-- TAG of a response, FRAME_NO of a stream packet. -/
  tag : Nat
  index : Nat
  /-- The link of a response, or of a stream packet in STRIPE (R378). -/
  link : Nat
  body : List Byte
deriving DecidableEq, Repr

/-- The data of one frame on one stream, for its END_OF_FRAME (R382). -/
structure StreamFrame where
  frame : Nat
  total : Nat
  bytes : Nat
  /-- A packet of the frame did not fit its queue (R381). -/
  trunc : Bool
  /-- A packet of the frame was lost in its queue to an uncorrectable word (R536). -/
  cut : Bool
  loss : Bool
  /-- The last packet, held back so that LAST can be set on it; the queue keeps its room. -/
  tail : Option Pkt
  /-- A packet has been made, so FIRST is spent. -/
  begun : Bool
deriving DecidableEq, Repr

/-- State of a Neleklink link (R365). -/
inductive LinkState where
  | off
  | training
  | up
  | down
deriving DecidableEq, Repr

/-- A part-executed BULK_RD (R375). -/
structure BulkJob where
  tag : Nat
  addr : Nat
  left : Nat
deriving DecidableEq, Repr

/-- One link (R365 to R374). -/
structure Link where
  state : LinkState
  rxOk : Nat
  txOk : Nat
  rxWidth : Nat
  txWidth : Nat
  creditSmall : Bool
  /-- This side sends FRESH, and has never reached UP (R365, R368). -/
  fresh : Bool
  everUp : Bool
  /-- The training began from DOWN (R365). -/
  retry : Bool
  /-- Sequence numbers: next to send, next expected. -/
  txNext : Nat
  rxNext : Nat
  /-- The SEQ after the newest packet acknowledged (R373). -/
  ackNext : Nat
  /-- NAK last sent and not yet answered, with its TB (R374). -/
  nak : Option (Nat × Nat)
  /-- Units sent since training and last received credit, by class 0 to 2 (R372). -/
  sent : List Nat
  credit : List Nat
  /-- Classes in a credit stall already counted (R384). -/
  stalled : List Nat
  /-- Units freed towards the adapter, CTL and DATA. -/
  freed : List Nat
  /-- Unacknowledged packets, oldest first, by SEQ (R373). -/
  replay : List (Nat × Pkt)
  /-- SEQ from which packets are being resent. -/
  resend : Option Nat
  /-- Consecutive replay timeouts. -/
  timeouts : Nat
  failedLanes : Nat
  /-- The delay that deskews each logical receive lane, in units, and the row count of the last ALIGN row
  (R362); none of it is known when the list is empty. -/
  deskew : List Nat
  alignRow : Nat
  /-- Order and polarity of the receive lanes, located in training (R362). -/
  lanes : List (Nat × Bool)
  /-- The adapter trains with FRESH (R368). -/
  peerFresh : Bool
  /-- The control unit of each kind that was sent last: by byte 0, with the class of a CREDIT unit times
  256 (R363). -/
  ctl : SMap (List Byte)
  /-- The last packet sent, with its SEQ. -/
  lastTx : Option (Nat × Pkt)
  /-- The unit stream towards the host (R362): TB at which the link came UP, the units that packets have taken it to,
  ALIGN rows not counted, and the number of the last SOP unit. -/
  upAt : Nat
  txIndex : Nat
  txUnit : Nat
  /-- TB from which REPLAY_TMO runs: of the last release, of the packet that an empty replay buffer took, or of the last
  replay timeout (R373, R386). -/
  relAt : Nat
  /-- TB from which CREDIT_TMO runs, by class: of the last packet sent or count received in it (R384, R386). -/
  creditAt : List Nat
  /-- The BULK_RD whose parts are being queued, and the accepted requests that wait behind it or for
  room in the response queue (R375). -/
  bulk : Option BulkJob
  waiting : List Instr
deriving DecidableEq, Repr

/-- The Neleklink controller (R359 to R389). -/
structure Nlk where
  mode : Nat
  links : SMap Link
  img : List Pkt
  meta_ : List Pkt
  resp : List Pkt
  /-- Frames under way on each stream. -/
  frames : SMap StreamFrame
  /-- Packets of a frame that links A and B have carried in STRIPE, until its END_OF_FRAME has gone (R382). -/
  carried : SMap (Nat × Nat)
  /-- The last IMG stream served, for the turn of R381. -/
  turn : Nat
  timeTb : Nat
  timeHost : BitVec 64
  /-- MIRROR shares the replay buffer and SEQ of link A's record (R376). -/
  down : Bool
deriving DecidableEq, Repr

/-- The Heel state of a port (R311). -/
inductive HeelState where
  | off
  | tracking
  | holding
  | parked
deriving DecidableEq, Repr

/-- A host override (R312): MODE, solves left (none until RELEASE), and its values. -/
structure Ovr where
  mode : Nat
  left : Option Nat
  mask : Nat
  px : Int
  py : Int
  pz : Int
  axes : List Nat
deriving DecidableEq, Repr

/-- A commanded pan and tilt output with its horizon (R304). -/
structure LeadPoint where
  horizon : Nat
  pan : Option Int
  tilt : Option Int
deriving DecidableEq, Repr

/-- The outputs of a record at a latch at which they changed, by axis (R300). -/
structure Pose where
  tb : Nat
  outs : SMap Int
deriving DecidableEq, Repr

/-- An axis velocity in counts per ms, exact as R309 leaves it (R313): num / den + sg·√rad / 16. -/
structure Vel where
  num : Int
  den : Nat
  sg : Int
  rad : Nat
deriving DecidableEq, Repr

/-- One port of the Heel (R301 to R316). -/
structure HeelPort where
  state : HeelState
  /-- Consecutive solves without a target (R316), and the no-target count of R311. -/
  noTarget : Nat
  hold : Nat
  flags : Nat
  /-- HOLDING has come to its end: the port parks (R311). -/
  parkDue : Bool
  ovr : Option Ovr
  /-- A commit named a handle that no solve has looked up; the handle was current at the last solve
  (R305). -/
  bindNew : Bool
  wasCur : Bool
  /-- Last output, last velocity, and deadband reference, by axis (R309). -/
  outs : SMap Int
  vels : SMap Vel
  refs : SMap Int
  /-- The lead correction in µs, its history, and the feedback that waits for the solve (R304, R333). -/
  lead : Int
  hist : List LeadPoint
  fb : List (Nat × SMap Nat)
  /-- The newest acknowledged feedback (R333). -/
  newest : SMap Nat
  poses : List Pose
  /-- A solution of the open tick stands; a solution has been made since the port left PARKED (R324). -/
  fresh : Bool
  solved : Bool
  handle : Nat
  /-- Target stage point of the last solution, Q24.8. -/
  point : Int × Int × Int
deriving DecidableEq, Repr

/-- The Heel: its ports, and the ports listed and held at the last S (R310). -/
structure Heel where
  ports : SMap HeelPort
  listed : List Nat
  held : List Nat
  /-- The H of the open tick is past. -/
  done : Bool
deriving DecidableEq, Repr

/-- An outstanding cue (R338 to R343): the TB of its queuing, the tick of its first transmission and the
frames that have carried it. -/
structure Cue where
  cseq : Nat
  op : Nat
  arg : Word
  tb : Nat
  first : Option Nat
  sends : Nat
deriving DecidableEq, Repr

/-- A frame sent (R332): its SEQ, its latch time, whether it has been acknowledged, and whether the port's next
latch is past. -/
structure SentFrame where
  seq : Nat
  tb : Nat
  acked : Bool
  met : Bool
deriving DecidableEq, Repr

/-- One Leash port (R318 to R357). -/
structure LshPort where
  /-- LSH_PORT_CFG in effect, 0 while the port acts as OFF (R321). -/
  cfg : Word
  /-- Next SEQ; the last eight frames, newest first. -/
  seq : Nat
  sent : List SentFrame
  /-- Consecutive frames that have incremented LSH_ACK_MISS, the last since any valid ACK; PARTNER_LOST (R334). -/
  missed : Nat
  missNew : Bool
  lost : Bool
  kind : Nat
  conflict : Bool
  unsent : Bool
  overlap : Bool
  cues : List Cue
  nextCseq : Nat
  newestSent : Option Nat
  /-- Channel values and flags of the last AIM frame; slots of the last DMX512-A packet. -/
  vals : List Nat
  flags : Nat
  slots : List Byte
  /-- Tick of the last refresh sent, and m as the last commit computed it (R347). -/
  refresh : Option Nat
  dmxM : Nat
  /-- TB of the last latch, its tick, and the end of the last transmission. -/
  latch : Option Nat
  latchTick : Option Nat
  busy : Nat
  /-- The bytes of the last transmission: a LEASH frame, or start code and slots. -/
  line : List Byte
deriving DecidableEq, Repr


/-- The machine. -/
structure State where
  ken : Ken
  ptr : Ptr
  sct : Sct
  heel : Heel
  lsh : SMap LshPort
  regs : Regs
  time : Time
  clk : Clk
  sys : Sys
  log : Log
  boot : Boot
  upd : Upd
  otp : Otp
  mgb : Mgb
  nlk : Nlk
  img : Img
  cnv : Cnv
  stat : Stat
  aux : Aux
  ae : Ae
  /-- Free values drawn so far: the model's own field, not the spec's. -/
  freeCtr : Nat
  /-- The commands that wait, first in, first out: the model's own field. -/
  pending : List Instr
deriving DecidableEq, Repr

/-- Why a step stops with a fault. -/
inductive Fault where
  /-- No command of the spec stops the block: no meaning raises this one, and it stands for a
  command whose effect the spec would call undefined as a command.  Safe. -/
  | undefinedCommand
deriving DecidableEq, Repr

/-- Why a step refuses a command. -/
inductive Refusal where
  /-- The dispatch has no meaning for the command yet: raised by `exec` alone.  Safe. -/
  | notModelled (mnemonic : String)
deriving DecidableEq, Repr

/-- An instant at which nothing has been planned. -/
def State.resetPlan : Plan :=
  { rows := [], lo := [], nCfg := 0, passes := [], accepted := [], shedTiles := [], refused := [],
    needRefused := [], obRun := false, endAt := 3000, floor := 33000, floorRaised := false, made := false }

/-- A frame before anything is known of it.
DESIGN CHOICE (log 57). -/
def State.resetFrame : Frame :=
  { k := 0, tb := 0, id := 0, period := 0, mode := 0, synth := false, glHold := false,
    glSlew := false, glRange := false, deferNlk := false, deferMgb := false, deferShp := false,
    therm := 0, collar := false, calGen := 0, tcWord := 0, tcAge := 0, tcValid := false,
    trig1 := none, plan := State.resetPlan, tiles := [], burstHeld := [], mainHeld := [], burst := [],
    main := [], burstOffs := [], burstZero := [], ready := [] }

/-- The Kennel, the Pointer array, the Scent table and the Heel, cleared (R234, R458, R544). -/
def State.resetKen : Ken :=
  { slots := [], albums := [], nextSubj := 0, nextFeat := 0, fresh := [], stable := false, cmds := [],
    cues := [], found := [], props := [], seedCell := 0, sixSeen := [], freed := [], broken := [] }

/-- The Pointer array with every lane in service (R281). -/
def State.resetPtr : Ptr :=
  { pyr := [], buf := [], present := [], retired := [], spareFor := none, shadow := none,
    lastShadow := none, cursorLo := 0, nextCursor := 0, running := [], started := [], featStarted := 0, outcome := [],
    journal := [], replay := [], badJournal := [], kat := false, cut := false, booked := false,
    solved := false, retiredNow := false, unfinished := false, healthy := true }

/-- Clock synthesis before a start: no loop runs (R411, R413). -/
def State.resetClk : Clk :=
  { refCode := 0, gUse := 0, trims := [none, none, none, none],
    cLock := false, sLock := false, gLock := false, cEnabled := false,
    sEnabled := false, gEnabled := false, refLost := false, busSrc := 0, gBypassed := false,
    gHoldover := false, gCfgErr := false, gReacquire := false, pulse16 := none, period16 := none,
    gEver := false, genHz := 0, ld := [], irq := 0, outs := [], lastSync := none, timers := [] }

/-- The timebase at the release of reset (R420, R434). -/
def State.resetTime : Time :=
  { tb := 0, frac := 0, src := .slow, tickOpen := false, k := 0, e := 0, cmp := 0, t := 0, tmin := 0,
    madeBy := 0, synth := false, glHold := false, glSlew := false, glRange := false, glWait := false,
    glMark := none, slow := false, ivOld := none }

/-- The always-on bank and the tier when the supplies come up (R458, R558). -/
def State.resetSys : Sys :=
  { phase := .held, pgoodLow := true, resetLow := false, tier := 1, fell := false, cause := 0, restartClass := 0,
    vpllOk := true, edgeSeen := false, waiting := none, waitAt := 0, lsN := 0, lsLast := 0, rstTimes := [],
    held := [], applying := [],
    startCount := 0, failed := [], rdoStopped := false, uncorr := false, tripEdges := 0, tripped := false,
    tripRestart := false, thermStage := 0, scrubPos := 0, scrubAt := 0, sramAt := 0, wdMissed := 0 }

/-- The log RAM that a cold start clears (R545). -/
def State.resetLog : Log :=
  { ram := [], wr := 0, seq := 0, unarch := 0, sec := 0, codeCnt := [], ceSram := 0, ceEdram := 0, sumAt := 0,
    archWr := 0, archNewest := 0, flushDue := false, lastFlush := 0, batch := none,
    cycle := 0, inStart := false }

/-- Fuses intact, nothing sensed (R508, R530 to R533).
DESIGN CHOICE (log 11). -/
def State.resetOtp : Otp :=
  { fuse := [], drift := [], data := [], since := [], lifecycle := 0, keyKill := false, keyOk := false, dbgEn := false,
    rngFail := false, rngFails := 0, keyStore := [], drbgSeeded := false, drbgRequests := 0, progBusy := false,
    progResult := 0, progReason := 0, progBit := 0, progPump := false, latch := false,
    dbgState := 0, challenge := [], nonceUsed := false }

/-- An erased flash that no start has looked at (R466, R481 to R484). -/
def State.resetBoot : Boot :=
  { flash := [], usable := false, deferred := [], pfwLow := false, pfwRelease := 0, pfwHold := false,
    romOnly := false, cfgCopy := 0, cfgLen := 0, fwBank := 0, trial := false, prevBank := 0, brec := none,
    coreFail := 0, ma := 0, senses := [], failAt := none, flashFailed := false, recheck := false,
    issued := [], checkAt := 0, ram := [], flashMode := 0 }

/-- The machine right after reset, before any start: the supplies have just come up, every register
holds its reset value, every memory is empty, and no command waits (R457, R458, R11).
DESIGN CHOICE (log 4). DESIGN CHOICE (log 7). DESIGN CHOICE (log 144). -/
def State.reset : State :=
  { ken := State.resetKen, ptr := State.resetPtr, 
    sct := { sets := [], probed := [], pairs := [], freeAt := 0, lost := [] },
    heel := { ports := [], listed := [], held := [], done := false }, lsh := [],
    regs := { cur := [], act := [], prev := [], stgNlk := none, stgMgb := none, stgShp := none,
              cntNlk := 0, cntMgb := 0, cntShp := 0, landed := [], opNlk := 0, opMgb := 0, opShp := 0, shut := [],
              settingsId := 0, prevId := 0,
              mgbCopy := [], shpCopy := [], lastRead := 0 },
    time := State.resetTime, clk := State.resetClk, sys := State.resetSys, log := State.resetLog,
    boot := State.resetBoot,
    upd := { state := 0, owner := 0, imgLen := 0, version := 0, hdrErr := 0, last := 0, failSeg := 0,
             cmdResult := 0, verifyPos := 0, verifySince := none, held := [], pend := [],
             mbCode := 0, actSince := 0, trialWritten := false,
             confirmLeft := 0, hostConfirm := false, checksOk := false, confirming := false },
    otp := State.resetOtp,
    mgb := { addr := 0, ptr := 0, cnt := [], sent := [], attempt := none, abandoned := [], wire := [],
             rate := 0, tryAt := 0, seen := [], cut := false, busy := false, freeAt := 0, sdaTo := 750000,
             lastAt := 0 },
    nlk := { mode := 0, links := [], img := [], meta_ := [], resp := [], frames := [], carried := [], turn := 0,
             timeTb := 0, timeHost := 0, down := false },
    img := { nodes := [], trig1 := false, hist := [],
             tc := { word := none, lastRate := 0, rate := 0 }, cur := State.resetFrame,
             prv := State.resetFrame, blocks := [], flushed := false, gateMiss := false, ended := false,
             lastFloor := 0, wait := [], subjRows := [], featRows := [] },
    cnv := { offs := [], rejects := [], fresh := none, due := none, passDone := false, nextGain := 0,
             ob := [], obTen := false, obPed := 0, obClear := 0, zeroed := [], unrepaired := [] },
    stat := { banks := [], defects := [], collars := [] },
    aux := { on := [], lanes := [], frames := [], fifo := [], quiet := [], missing := [], missPrv := [], missDue := [],
             nextBank := [], nextUid := 0 },
    ae := { running := none, waiting := none, cmd := [], newCmd := [] },
    freeCtr := 0, pending := [] }

end Sys2Proof.Machine
end

