-- ==== Sys2Proof/Machine/Ops.lean ====
section
/-!
DEFINITION. The named operations that the commands share: sparse maps, the register file, counters,
the event log, Bark occurrences, free values, the clock, and the stream queues.
-/

namespace Sys2Proof.Machine

/-- The stored value at an index, if one is listed. -/
def look {α : Type} : SMap α → Nat → Option α
  | [], _ => none
  | (k, v) :: t, i => if k = i then some v else look t i

/-- The value at an index, with the default of unlisted indexes. -/
def mget {α : Type} (d : α) (m : SMap α) (i : Nat) : α := (look m i).getD d

/-- A map with one value listed at an index. -/
def put {α : Type} : SMap α → Nat → α → SMap α
  | [], i, v => [(i, v)]
  | (k, w) :: t, i, v =>
    if i < k then (i, v) :: (k, w) :: t
    else if i = k then (i, v) :: t
    else (k, w) :: put t i v

/-- A map with nothing listed at an index. -/
def unput {α : Type} (m : SMap α) (i : Nat) : SMap α := m.filter (fun p => decide (p.1 ≠ i))

/-- A map with a value at an index, in canonical form: the default is not listed. -/
def mput {α : Type} [DecidableEq α] (d : α) (m : SMap α) (i : Nat) (v : α) : SMap α :=
  if v = d then unput m i else put m i v

/-- A value of a map changed in place. -/
def mmod {α : Type} [DecidableEq α] (d : α) (m : SMap α) (i : Nat) (f : α → α) : SMap α :=
  mput d m i (f (mget d m i))

/-- Canonical form: indexes strictly rise, and no entry holds the default. -/
def SMap.wf {α : Type} [DecidableEq α] (d : Nat → α) (m : SMap α) : Bool :=
  decide (m.Pairwise (fun p q => p.1 < q.1)) && m.all (fun p => decide (p.2 ≠ d p.1))

/-- The register at an address of a register set; unlisted registers hold their reset value. -/
def rget (m : SMap Word) (a : Nat) : Word := (look m a).getD (resetWord a)

/-- A register set with one register written. -/
def rput (m : SMap Word) (a : Nat) (w : Word) : SMap Word :=
  if w = resetWord a then unput m a else put m a w

/-- The present value: immediate fields, and the shadow of tick-edge fields. -/
def State.cur (s : State) (a : Nat) : Word := rget s.regs.cur a
/-- The value committed at the last edge. -/
def State.act (s : State) (a : Nat) : Word := rget s.regs.act a
/-- The value committed at the edge before, which governs the frame now read. -/
def State.prv (s : State) (a : Nat) : Word := rget s.regs.prev a

/-- A field of the present value. -/
def State.fc (s : State) (a lo n : Nat) : Nat := field (s.cur a) lo n
/-- A field of the committed value. -/
def State.fa (s : State) (a lo n : Nat) : Nat := field (s.act a) lo n
/-- A field of the value that governs the frame now read. -/
def State.fp (s : State) (a lo n : Nat) : Nat := field (s.prv a) lo n

/-- The device sets a register. -/
def setReg (s : State) (a : Nat) (w : Word) : State :=
  { s with regs := { s.regs with cur := rput s.regs.cur a w } }

/-- The device sets a register to a number. -/
def setRegN (s : State) (a v : Nat) : State := setReg s a (BitVec.ofNat 32 v)

/-- The device sets a field of a register. -/
def setFld (s : State) (a lo n v : Nat) : State := setReg s a (setField (s.cur a) lo n v)

/-- A counter rises by `n` and saturates (R7). -/
def bumpBy (s : State) (a n : Nat) : State :=
  setRegN s a (min 0xFFFFFFFF ((s.cur a).toNat + n))

/-- A counter rises by one (R7). -/
def bump (s : State) (a : Nat) : State := bumpBy s a 1

/-- A free value: what the spec leaves open, with no value that anyone can name.
DESIGN CHOICE (log 8). -/
def drawFree (s : State) : Nat × State :=
  (Config.freeValue s.freeCtr, { s with freeCtr := s.freeCtr + 1 })

/-- Bus counts per second. -/
def countsPerSec : Nat := 750000000

/-- The clock stands at least at an instant: an event happens there (R8).
DESIGN CHOICE (log 2). -/
def reach (s : State) (t : Nat) : State :=
  { s with time := { s.time with tb := max s.time.tb t } }

/-- Advance of TB per REFCLK cycle: numerator and denominator, by REF_CODE (R391, R421). -/
def refStep (code : Nat) : Nat × Nat :=
  match code with
  | 1 => (625, 16)
  | 2 => (30, 1)
  | 3 => (15, 1)
  | 4 => (15, 2)
  | 5 => (6, 1)
  | 6 => (24, 5)
  | 7 => (75, 1)
  | _ => (30, 1)

/-- The clock goes on to the first of its cycles at or after an instant (R421, R422, R431): a step of REFCLK or of the
slow clock may pass several counts. -/
def reachCycle (s : State) (t : Nat) : State :=
  if t ≤ s.time.tb then s
  else
    match s.time.src with
    | .bus => { s with time := { s.time with tb := t } }
    | .slow => { s with time := { s.time with tb := s.time.tb + ceilDiv (t - s.time.tb) 500 * 500 } }
    | .refclk =>
      let (n, d) := refStep s.clk.refCode
      let f := s.time.frac + ceilDiv ((t - s.time.tb) * d - s.time.frac) n * n
      { s with time := { s.time with tb := s.time.tb + f / d, frac := f % d } }

/-- One cycle of the clock that drives TB (R421, R431): what an idle step does.
DESIGN CHOICE (log 1). -/
def clockCycle (s : State) : State :=
  match s.sys.phase with
  | .held => s
  | _ =>
    match s.time.src with
    | .bus => { s with time := { s.time with tb := s.time.tb + 1 } }
    | .slow => { s with time := { s.time with tb := s.time.tb + 500 } }
    | .refclk =>
      let (n, d) := refStep s.clk.refCode
      let f := s.time.frac + n
      { s with time := { s.time with tb := s.time.tb + f / d, frac := f % d } }

/-- Packet length in 32-byte units (R370). -/
def Pkt.units (p : Pkt) : Nat := (p.body.length + 20 + 31) / 32

/-- Bytes that queued packets take. -/
def queueBytes (q : List Pkt) : Nat := (q.map (fun p => 32 * p.units)).sum

/-- Room of the stream queues, by class (R381). -/
def queueRoom (cls : Nat) : Nat :=
  match cls with
  | 0 => 32 * 1048576
  | 1 => 16 * 1048576
  | _ => 1048576

/-- The queue of a class. -/
def Nlk.queue (n : Nlk) (cls : Nat) : List Pkt :=
  match cls with
  | 0 => n.img
  | 1 => n.meta_
  | _ => n.resp

/-- The controller with the queue of a class replaced. -/
def Nlk.setQueue (n : Nlk) (cls : Nat) (q : List Pkt) : Nlk :=
  match cls with
  | 0 => { n with img := q }
  | 1 => { n with meta_ := q }
  | _ => { n with resp := q }

/-- The bytes of packets of a class that are held back, for which the queue keeps room (R381). -/
def heldBytes (s : State) (cls : Nat) : Nat :=
  queueBytes ((s.nlk.frames.filterMap (fun f => f.2.tail)).filter (fun p => decide (p.cls = cls)))

/-- Packets of a class fit its queue (R381). -/
def fits (s : State) (cls : Nat) (ps : List Pkt) : Bool :=
  decide (queueBytes (s.nlk.queue cls) + heldBytes s cls + queueBytes ps ≤ queueRoom cls)

/-- A packet put at the end of its queue. -/
def enqueue (s : State) (p : Pkt) : State :=
  { s with nlk := s.nlk.setQueue p.cls (s.nlk.queue p.cls ++ [p]) }

/-- The record of a link, before anything is known of it.
DEDUCED (log 133). -/
def Link.idle : Link :=
  { state := .off, rxOk := 0, txOk := 0, rxWidth := 0, txWidth := 0, creditSmall := false,
    fresh := true, everUp := false, retry := false, txNext := 0, rxNext := 0, ackNext := 0, nak := none,
    sent := [0, 0, 0], credit := [0, 0, 0], stalled := [], freed := [256, 1024], replay := [],
    resend := none, timeouts := 0, failedLanes := 0, deskew := [], alignRow := 0, lanes := [],
    peerFresh := false, ctl := [], lastTx := none, upAt := 0, txIndex := 0, txUnit := 0, relAt := 0,
    creditAt := [0, 0, 0], bulk := none, waiting := [] }

/-- The record of a link. -/
def State.link (s : State) (l : Nat) : Link := mget Link.idle s.nlk.links l

/-- A link's record changed. -/
def setLink (s : State) (l : Nat) (x : Link) : State :=
  { s with nlk := { s.nlk with links := mput Link.idle s.nlk.links l x } }

/-- The link is UP. -/
def State.isUp (s : State) (l : Nat) : Bool := decide ((s.link l).state = .up)

/-- The link that a stream's data takes in STRIPE, for a tile-row or tile number `j` (R378): 0 A, 1 B. -/
def stripeLink (s : State) (stream j : Nat) : Nat :=
  match s.fa 0x110008 (2 * stream) 2 with
  | 1 => 1
  | 2 => if stream ≤ 2 then j % 2 else 0
  | _ => 0

/-- The link on which a stream's packet is to go: 2 stands for every link (MIRROR). -/
def routeOf (s : State) (stream j : Nat) : Nat :=
  match s.nlk.mode with
  | 0 => 2
  | 2 => 0
  | 3 => 1
  | _ =>
    let l := stripeLink s stream j
    if s.isUp l || !s.isUp (1 - l) then l else 1 - l

/-- A stream without frame data under way. -/
def StreamFrame.none : StreamFrame :=
  { frame := 0, total := 0, bytes := 0, trunc := false, cut := false, loss := false,
    tail := Option.none, begun := false }

/-- The frame data under way on a stream. -/
def State.streamFrame (s : State) (stream : Nat) : StreamFrame :=
  mget StreamFrame.none s.nlk.frames stream

/-- The frame data of a stream changed. -/
def setStreamFrame (s : State) (stream : Nat) (f : StreamFrame) : State :=
  { s with nlk := { s.nlk with frames := mput StreamFrame.none s.nlk.frames stream f } }

/-- Register NLK_DROP[stream] (R389). -/
def nlkDrop (stream : Nat) : Nat := 0x110200 + 4 * stream

/-- The class of a stream (R371). -/
def streamClass (stream : Nat) : Nat := if stream ≤ 2 ∨ stream = 8 ∨ stream = 9 then 0 else 1

/-- A packet counted into the frame data of its stream. -/
def StreamFrame.count (f : StreamFrame) (p : Pkt) : StreamFrame :=
  { f with total := f.total + 1, bytes := f.bytes + p.body.length }

/-- The held-back packet of a frame goes to its queue; `last` marks it (R382).  `key` names the frame data: the
stream, 16 + pair for the pairs that share an auxiliary stream, or a frame of stream 3. -/
def pushTail (s : State) (key : Nat) (last : Bool) : State :=
  let f := s.streamFrame key
  match f.tail with
  | none => s
  | some p => setStreamFrame (enqueue s { p with last := last }) key { (f.count p) with tail := none }

/-- One image line of a frame is queued on its stream (R381, R382): STREAM_QUEUE.  Where it does not fit, it and the
rest of the frame's data on the stream are dropped. -/
def queueLineOf (s : State) (key stream frame j : Nat) (body : List Byte) : State :=
  let s := pushTail s key false
  let f := s.streamFrame key
  let f := if f.frame = frame ∧ f.begun = true then f
           else { StreamFrame.none with frame := frame }
  let p : Pkt :=
    { type := 0x01, cls := streamClass stream, stream := stream, key := key, first := !f.begun, last := false,
      tag := frame, index := f.total, link := routeOf s stream j, body := body }
  if f.trunc || !fits s p.cls [p] then
    setStreamFrame (bump s (nlkDrop stream)) key { f with begun := true, trunc := true }
  else setStreamFrame s key { f with begun := true, tail := some p }

/-- One image line of an array stream. -/
def queueLine (s : State) (stream frame j : Nat) (body : List Byte) : State :=
  queueLineOf s stream stream frame j body

/-- END_OF_FRAME of a frame's data on a stream (R382): in STRIPE one for each link, of which those for links that
carried none of its packets go no further. -/
def endFrameOf (s : State) (key stream frame : Nat) (num state : Nat) : State :=
  let s := pushTail s key true
  let f := s.streamFrame key
  let f := if f.begun = true ∧ f.frame = frame then f else { StreamFrame.none with frame := frame }
  let split := decide (s.nlk.mode = 1 ∧ stream ≤ 2 ∧ s.fa 0x110008 (2 * stream) 2 = 2)
  let flags := (if f.trunc || f.cut then 1 else 0) + (if f.loss then 2 else 0) + (if split then 4 else 0)
  let mk := fun (l carried : Nat) =>
    ({ type := 0x02, cls := streamClass stream, stream := stream, key := key, first := false, last := false,
       tag := frame, index := f.total, link := l,
       body := le 1 stream ++ le 1 flags ++ le 2 num ++ le 1 state ++ zeros 3 ++ le 4 f.total
               ++ le 4 carried ++ le 8 f.bytes } : Pkt)
  let ls := match s.nlk.mode with
    | 0 => [(2, f.total)]
    | 2 => [(0, f.total)]
    | 3 => [(1, f.total)]
    | _ => if f.total = 0 then [(routeOf s stream 0, 0)] else [(0, 0), (1, 0)]
  let s := (ls.map (fun q => mk q.1 q.2)).foldl enqueue s
  setStreamFrame s key StreamFrame.none

/-- END_OF_FRAME of a stream's frame (R382). -/
def endFrame (s : State) (stream frame : Nat) (num state : Nat) : State :=
  endFrameOf s stream stream frame num state

/-- The parts of a record, at most 16,384 bytes each, with their offsets (R382). -/
def recordParts (bytes : List Byte) : Nat → Nat → List (Nat × List Byte)
  | 0, _ => []
  | n + 1, ofs =>
    match bytes.drop ofs with
    | [] => []
    | rest => (ofs, rest.take 16384) :: recordParts bytes n (ofs + 16384)

/-- The frame data of a META stream: stream 3 keeps one for each frame, since its banks end in several ticks. -/
def metaKey (stream frame : Nat) : Nat := if stream = 3 then 1024 + frame else stream

/-- A frame ends on a META stream that has carried it: LAST on its last packet, then END_OF_FRAME (R382). -/
def endMeta (s : State) (stream frame : Nat) : State :=
  let key := metaKey stream frame
  let f := s.streamFrame key
  if f.begun = true ∧ f.frame = frame then endFrameOf s key stream frame 0 0 else s

/-- A record is queued whole on a META stream, or counted as dropped (R381, R382); its last packet is held back
until the next record of the frame, or the frame's end, shows whether it is LAST.
DEDUCED (log 54). DESIGN CHOICE (log 185). -/
def queueRecord (s : State) (stream frame sub : Nat) (bytes : List Byte) (eof : Bool) : State :=
  let key := metaKey stream frame
  let s := pushTail s key false
  let f := s.streamFrame key
  let f := if f.frame = frame ∧ f.begun = true then f
           else { StreamFrame.none with frame := frame }
  let parts := recordParts bytes (bytes.length / 16384 + 1) 0
  let link := routeOf s stream 0
  let ps : List Pkt := (parts.zipIdx).map (fun (q : (Nat × List Byte) × Nat) =>
    { type := 0x01, cls := 1, stream := stream, key := key, first := !f.begun && decide (q.2 = 0),
      last := false, tag := frame, index := f.total + q.2, link := link,
      body := le 4 q.1.1 ++ le 4 bytes.length ++ le 1 sub ++ zeros 7 ++ q.1.2 })
  let s :=
    if fits s 1 ps then
      let s := ps.dropLast.foldl enqueue s
      let f := ps.dropLast.foldl StreamFrame.count { f with begun := true }
      setStreamFrame s key { f with tail := ps.getLast? }
    else bump s (nlkDrop stream)
  if eof then endMeta s stream frame else s

/-- A response packet is queued under its request's TAG (R371, R375). -/
def queueResp (s : State) (type link tag : Nat) (body : List Byte) : State :=
  enqueue s { type := type, cls := 2, stream := 0, key := 0, first := false, last := false, tag := tag,
              index := 0, link := if s.nlk.mode = 0 then 2 else link, body := body }

/-- STATUS_RESP (R380). -/
def statusResp (s : State) (link tag req status detail tb : Nat) : State :=
  queueResp s 0x24 link tag
    (le 1 req ++ le 1 status ++ zeros 2 ++ le 4 detail ++ le 4 s.time.k ++ zeros 4 ++ le 8 tb)

/-- The bytes of a log entry (R545). -/
def LogEntry.bytes (x : LogEntry) : List Byte :=
  let b := le 8 x.tb ++ le 4 x.seq ++ le 4 x.frame ++ le 2 x.code ++ le 1 x.sev ++ le 1 x.start
    ++ le 4 x.arg0 ++ le 4 x.arg1 ++ le 2 x.arg2
  b ++ le 2 (crc16 b)

/-- An occurrence of a Bark code (R449): the PEND bit is set and the count rises, up to 255. -/
def barkEvent (s : State) (code : Nat) : State :=
  let i := code - 1
  let s := setReg s 0x120010 (s.cur 0x120010 ||| BitVec.ofNat 32 (2 ^ i))
  { s with mgb := { s.mgb with cnt := mput 0 s.mgb.cnt i (min 255 (mget 0 s.mgb.cnt i + 1)),
                               seen := mput 0 s.mgb.seen i (s.time.tb + 1),
                               abandoned := s.mgb.abandoned.filter (· ≠ code) } }

/-- An entry is written to the log RAM ring with the next SEQ (R545, R546): the oldest entry is
overwritten, and lost when it is not archived. -/
def logWrite (s : State) (x : LogEntry) : State :=
  let l := s.log
  let taken := (look l.ram l.wr).isSome
  let lost := decide (l.unarch = 4096)
  let s := if taken then bump s 0x1300A0 else s
  let s := if lost then bump s 0x1300A4 else s
  { s with log := { l with ram := put l.ram l.wr x, wr := (l.wr + 1) % 4096, seq := x.seq,
                           unarch := min 4096 (l.unarch + 1),
                           flushDue := l.flushDue || decide (x.sev % 4 = 2) } }

/-- BLOCK of a log entry (R545). -/
def LogEntry.block (x : LogEntry) : Nat := x.code / 256

/-- The entries that still may move and are of the bus cycle of an entry to come, newest first (R545). -/
def cycleOf (l : Log) (x : LogEntry) : List LogEntry :=
  ((upto (min l.cycle (min l.unarch 4095))).filterMap (fun i => look l.ram ((l.wr + 4095 - i) % 4096))).takeWhile
    (fun y => decide (y.tb = x.tb ∧ y.frame = x.frame))

/-- The entries of a bus cycle and one more of it: it stands behind those of its BLOCK and of lower ones, and each
takes the SEQ of its place (R545). -/
def inPlace (es : List LogEntry) (x : LogEntry) : List LogEntry :=
  let old := es.reverse
  let l := old.filter (fun y => decide (y.block ≤ x.block)) ++ x :: old.filter (fun y => decide (x.block < y.block))
  l.zipIdx.map (fun p => { p.1 with seq := (x.seq + 2 ^ 32 - es.length + p.2) % 2 ^ 32 })

/-- A packet that carries the log entry of a SEQ on stream 10, with the entry that now has this SEQ (R547). -/
def relogPkt (f : Nat → Option LogEntry) (p : Pkt) : Pkt :=
  if p.stream = 10 ∧ p.type = 0x01 then
    match f (leAt p.body 24 4) with
    | some x => { p with body := p.body.take 16 ++ x.bytes }
    | none => p
  else p

/-- Stream 10 carries the entries as the log RAM holds them, where they still wait (R547). -/
def relog (s : State) (f : Nat → Option LogEntry) : State :=
  { s with nlk := { s.nlk with
    meta_ := s.nlk.meta_.map (relogPkt f),
    frames := s.nlk.frames.map (fun q => (q.1, { q.2 with tail := q.2.tail.map (relogPkt f) })) } }

/-- Entries into the log RAM, the last of them at the newest place. -/
def placeEntries (s : State) (l : List LogEntry) : State :=
  let n := l.length
  { s with log := { s.log with
    ram := l.zipIdx.foldl (fun m p => put m ((s.log.wr + 4096 - n + p.2) % 4096) p.1) s.log.ram } }

/-- The entries of one bus cycle stand in ascending order of BLOCK (R545), now that `x` has come to `es`, those of
them before it.
DEDUCED (log 203). -/
def orderCycle (s : State) (es : List LogEntry) (x : LogEntry) : State :=
  let s := { s with log := { s.log with cycle := if s.log.inStart then 0 else es.length + 1 } }
  if es.all (fun y => decide (y.block ≤ x.block)) then s
  else
    let l := inPlace es x
    relog (placeEntries s l) (fun q => l.find? (fun y => decide (y.seq = q)))

/-- An event is written to the log, unless RATE_MAX of its CODE is reached in the log second (R545), and to stream 10
(R547): LOG_ENTRY. -/
def logItem (s : State) (i : LogItem) : State :=
  let sec := s.time.tb / countsPerSec
  let cnts := if sec = s.log.sec then s.log.codeCnt else []
  let code := i.block * 256 + i.kind
  let n := mget 0 cnts code
  if n < orIf (s.fc 0x130040 8 8) 1 then
    let s := { s with log := { s.log with sec := sec, codeCnt := mput 0 cnts code (n + 1) } }
    let x : LogEntry :=
      { tb := s.time.tb, seq := (s.log.seq + 1) % 2 ^ 32, frame := s.time.k % 2 ^ 32, code := code,
        sev := i.sev + (if i.uncorr then 4 else 0), start := s.sys.startCount % 256,
        arg0 := i.arg0, arg1 := i.arg1 % 2 ^ 32, arg2 := i.arg2 % 65536 }
    let es := cycleOf s.log x
    let s := orderCycle (queueRecord (logWrite s x) 10 x.frame 0 x.bytes false) es x
    if i.sev = 2 then barkEvent s 2 else s
  else
    bump { s with log := { s.log with sec := sec, codeCnt := cnts } } 0x1300A8

/-- An event is logged (R545), with the others of its bus cycle where they are being kept. `kind` and `sev` as R545
gives them; `uncorr` marks an uncorrectable error (R535).
DESIGN CHOICE (log 15). DEDUCED (log 148). -/
def logEvent (s : State) (block kind sev : Nat) (uncorr : Bool) (arg0 arg1 arg2 : Nat) : State :=
  let i : LogItem := { block := block, kind := kind, sev := sev, uncorr := uncorr, arg0 := arg0, arg1 := arg1,
                       arg2 := arg2 }
  let s := if uncorr then { s with sys := { s.sys with uncorr := true } } else s
  match s.log.batch with
  | some l => { s with log := { s.log with batch := some (l ++ [i]) } }
  | none => logItem s i

/-- An event put behind those of its BLOCK and of lower ones. -/
def insertItem (x : LogItem) : List LogItem → List LogItem
  | [] => [x]
  | y :: t => if x.block < y.block then x :: y :: t else y :: insertItem x t

/-- The effects of one bus cycle: the events that they log are written in ascending order of BLOCK (R545).
DEDUCED (log 203). -/
def inCycle (s : State) (f : State → State) : State :=
  match s.log.batch with
  | some _ => f s
  | none =>
    let t := f { s with log := { s.log with batch := some [] } }
    ((t.log.batch.getD []).foldl (fun l x => insertItem x l) []).foldl logItem
      { t with log := { t.log with batch := none } }

/-- The log BLOCK code of an address: the base of its block over 0x8000 (R545, R555). -/
def blockOf (a : Nat) : Nat :=
  let b := a / 0x8000
  if b = 3 then 3 else if 28 ≤ b ∧ b < 32 then 28 else b / 2 * 2

/-- An event logged against the register that it changes or counts (R590). -/
def logReg (s : State) (kind sev : Nat) (a arg1 arg2 : Nat) : State :=
  logEvent s (blockOf a) kind sev false a arg1 arg2

/-- The tier changes: TOP_STATUS, a TOP STATE entry and the TIER Bark (R38, R545).
DESIGN CHOICE (log 146). -/
def setTier (s : State) (t : Nat) : State :=
  if s.sys.tier = t then s
  else
    let fell := s.sys.fell || decide (t < s.sys.tier)
    let s := { s with sys := { s.sys with tier := t, fell := fell } }
    barkEvent (logEvent s 0x00 0x01 (if fell then 1 else 0) false 0x000004 t 0) 1

/-- A warm restart is called for, with its CAUSE (R457), by an event of a class: of the events that a start absorbs
the class with the larger effect governs, and the first among equals (R536).
DESIGN CHOICE (log 14). -/
def callRestartAs (s : State) (cause cls : Nat) : State :=
  if s.sys.phase = .restarting ∧ cls ≤ s.sys.restartClass then s
  else { s with sys := { s.sys with phase := .restarting, cause := cause, restartClass := cls },
                time := { s.time with tickOpen := false } }

/-- A warm restart for an event of class UE or LS. -/
def callRestart (s : State) (cause : Nat) : State := callRestartAs s cause 2

/-- The command acts only while the device runs: in reset, in T0 and while a restart is due it finds
nothing to act on.
DESIGN CHOICE (log 3). -/
def whenAwake (s : State) (f : State → State) : State :=
  match s.sys.phase with
  | .run => f s
  | .waitFirst => f s
  | _ => s

/-- Register accesses reach the device from the moment the ROM runs (R442, R459).
DESIGN CHOICE (log 3). -/
def whenReg (s : State) (f : State → State) : State :=
  match s.sys.phase with
  | .run => f s
  | .waitFirst => f s
  | .waitDebug => f s
  | _ => s

/-- A fault is classified and logged from the first start on, also while a restart is due (R536) and while a start
waits for a debug response. -/
def whenFault (s : State) (f : State → State) : State :=
  match s.sys.phase with
  | .run => f s
  | .waitFirst => f s
  | .waitDebug => f s
  | .restarting => f s
  | _ => s

/-- The command belongs to an open tick.
DESIGN CHOICE (log 3). -/
def whenTick (s : State) (f : State → State) : State :=
  if s.sys.phase = .run ∧ s.time.tickOpen = true then f s else s

/-- An event of the imaging units, which run in T2 and T3 only (R32).
DESIGN CHOICE (log 3). -/
def whenTier (n : Nat) (s : State) (f : State → State) : State :=
  if s.sys.phase = .run ∧ s.time.tickOpen = true ∧ n ≤ s.sys.tier then f s else s

end Sys2Proof.Machine
end

