-- ==== Sys2Proof/Machine/Flags.lean ====
section
/-!
DEFINITION. Status words: every register whose value is a view of other state is computed here, once,
from that state.  All other registers stand in the register file.
-/

namespace Sys2Proof.Machine

/-- A status bit as a number. -/
def bit (b : Bool) : Nat := if b then 1 else 0

/-- TOP_STATUS (R558): STARTED stands in the register file. -/
def topStatus (s : State) : Nat :=
  s.fc 0x000004 8 1 * 256 + bit s.nlk.down * 128 + bit s.sys.fell * 4 + s.sys.tier

/-- CLK_STATUS (R413). -/
def clkStatus (s : State) : Nat :=
  let c := s.clk
  bit c.gCfgErr * 1024 + bit c.gBypassed * 512 + bit c.gHoldover * 256 + bit c.refLost * 128
    + c.busSrc * 32 + bit c.gLock * 16 + bit c.sLock * 8 + bit c.cLock * 4

/-- The REF_CODE row of R391: R, N_INT, NUM, DEN. -/
def refRow (code : Nat) : Nat × Nat × Nat × Nat :=
  match code with
  | 1 => (1, 312, 1, 2)
  | 2 => (1, 240, 0, 1)
  | 3 => (1, 120, 0, 1)
  | 4 => (2, 120, 0, 1)
  | 5 => (3, 144, 0, 1)
  | 6 => (3, 115, 1, 5)
  | 7 => (1, 600, 0, 1)
  | _ => (1, 240, 0, 1)

/-- A general timer's record. -/
def Timer.idle : Timer :=
  { presc := 0, compare := 0, heldHi := none, armed := false, ivOld := none, fired := none }

/-- General timer n. -/
def State.timer (s : State) (n : Nat) : Timer := mget Timer.idle s.clk.timers n

/-- General timer n changed. -/
def setTimer (s : State) (n : Nat) (t : Timer) : State :=
  { s with clk := { s.clk with timers := mput Timer.idle s.clk.timers n t } }

/-- An external output that is disabled. -/
def ClkOut.off : ClkOut :=
  { running := false, waitSync := false, low := false, src := 0, div := 1, high := 1, delay := 0, delayDen := 1,
    fmt := 0, pulse := none, lastPulse := none, aligned := none }

/-- External output i. -/
def State.out (s : State) (i : Nat) : ClkOut := mget ClkOut.off s.clk.outs i

/-- External output i changed. -/
def setOut (s : State) (i : Nat) (o : ClkOut) : State :=
  { s with clk := { s.clk with outs := mput ClkOut.off s.clk.outs i o } }

/-- The FREE interval that an edge in this bus cycle uses: as it stood at the end of the cycle before (R424,
R429). -/
def tickInterval (s : State) : Nat :=
  match s.time.ivOld with
  | some (t, v) => if t = s.time.tb then v else (s.cur 0x018040).toNat
  | none => (s.cur 0x018040).toNat

/-- GL_LOCKED (R401): PLL-G locked, with pulse input in TRACK use. -/
def glLocked (s : State) : Bool :=
  let input := s.fc 0x010040 3 2
  s.clk.gLock && decide ((s.clk.gUse = 0 ∨ s.clk.gUse = 3) ∧ (input = 0 ∨ input = 3))

/-- The trigger mode in effect: GENLOCK in a CLEAN use ticks as FREE (R399).
DEDUCED (log 49). -/
def trigMode (s : State) : Nat := s.fa 0x04C200 0 2

/-- PLL-G runs as the legacy delay line (R403). -/
def legacyMode (s : State) : Bool := decide (s.fc 0x010040 1 2 = 1)

/-- GENLOCK ticks run as FREE: PLL-G in a CLEAN use or in legacy mode (R399, R403). -/
def genlockFree (s : State) : Bool :=
  decide (s.clk.gUse = 1 ∨ s.clk.gUse = 2) || (legacyMode s && s.clk.gEnabled)

/-- How the next edge is made (R74, R399, R403, R463): 0 as FREE, 1 as GENLOCK, 2 from TRIG0.
DEDUCED (log 49). -/
def edgeKind (s : State) : Nat :=
  if s.sys.tier ≤ 1 then 0
  else
    match trigMode s with
    | 0 => 0
    | 1 => if genlockFree s then 0 else 1
    | _ => 2

/-- T_plan under a trigger mode, a T_min and a tick ratio, as a numerator and its denominator (R214): the interval
where ticks run as FREE. -/
def planOf (s : State) (mode least ratio : Nat) : Nat × Nat :=
  let whole := fun (t : Nat) => (max t least, 1)
  match mode with
  | 0 => whole (s.cur 0x018040).toNat
  | 1 =>
    if genlockFree s then whole (s.cur 0x018040).toNat
    else
      match glLocked s, s.clk.period16 with
      | true, some p => let d := 16 * clamp 1 16 (orIf ratio 1); (max p (least * d), d)
      | _, _ => whole (s.cur 0x04C218).toNat
  | _ => (least, 1)

/-- TRIG_STATUS (R99): TC_VALID of the last edge stands in the register file; while no pulse period is
known GL_LOCKED is clear (R78). -/
def trigStatus (s : State) : Nat :=
  s.fc 0x04C214 6 1 * 64 + bit s.time.glRange * 32 + bit s.time.glSlew * 16
    + bit s.time.glHold * 8 + bit (glLocked s && !s.time.glWait) * 4 + s.time.madeBy

/-- The LTC rate in use (R83): 1 24, 2 25, 3 30; 0 none. -/
def ltcRate (s : State) : Nat := orIf (s.fc 0x04C300 1 2) s.img.tc.rate

/-- RST_HOUR of RAS_STATUS (R552): fault restarts in the last 3,600 s. -/
def rstHour (s : State) : Nat :=
  (s.sys.rstTimes.filter (fun t => decide (s.time.tb < t + 3600 * countsPerSec))).length

/-- RAS_STATUS (R552). -/
def rasStatus (s : State) : Nat :=
  s.sys.lsN % 4 * 64 + min 15 (rstHour s) * 4 + bit s.sys.tripped * 2 + bit s.sys.uncorr

/-- LOG_STATUS (R553). -/
def logStatus (s : State) : Nat := s.log.unarch * 65536 + s.log.wr

/-- The PFW condition of BOOT_HU_STATUS (R479): low, or within 10 ms of its release. -/
def pfwActive (s : State) : Bool :=
  s.boot.pfwLow || (s.boot.pfwHold && decide (s.time.tb < s.boot.pfwRelease + 7500000))

/-- HOST_ADDR disables Bark (R452). -/
def barkCfgErr (s : State) : Bool :=
  let h := s.fc 0x120008 0 7
  decide (h = s.mgb.addr ∨ h ≤ 7 ∨ 0x78 ≤ h)

/-- MGB_STATUS (R454): STRETCH_TO stands in the register file. -/
def mgbStatus (s : State) : Nat :=
  s.fc 0x120004 10 1 * 1024 + bit (barkCfgErr s) * 512 + bit s.mgb.attempt.isSome * 256 + s.mgb.addr

/-- The code of a link state (R387). -/
def LinkState.code : LinkState → Nat
  | .off => 0
  | .training => 1
  | .up => 2
  | .down => 3

/-- NLK_STATUS[l] (R387). -/
def linkStatus (x : Link) : Nat :=
  bit x.creditSmall * 8192 + x.txWidth * 256 + x.rxWidth * 8 + x.state.code

/-- The link whose record holds the sequence numbers and the replay buffer of a link: MIRROR shares
those of link A (R376, R377). -/
def seqLink (s : State) (l : Nat) : Nat := if s.nlk.mode = 0 then 0 else l

/-- UPD_STATUS (R504), with COMPLETE given; BANK reads 0 until a start has chosen a bank. -/
def updStatus (s : State) (complete : Bool) : Nat :=
  let u := s.upd
  u.cmdResult * 2 ^ 24 + u.failSeg * 2 ^ 16 + u.last * 2 ^ 12 + u.hdrErr * 2 ^ 8
    + bit complete * 64 + u.owner * 16 + bit (decide (s.boot.cfgCopy ≠ 0 ∧ s.boot.fwBank = 0)) * 8 + u.state

/-- OTP_STATUS (R530): MARGIN_ANY and INVALID_ANY stand in the register file. -/
def otpStatus (s : State) : Nat :=
  bit s.otp.dbgEn * 128 + bit s.otp.rngFail * 64 + s.fc 0x020000 4 2 * 16 + bit s.otp.keyOk * 8
    + bit s.otp.keyKill * 4 + s.otp.lifecycle

/-- OTP_PROG_STATUS (R532). -/
def progStatus (s : State) : Nat :=
  bit s.otp.progBusy * 2 ^ 31 + s.otp.progResult * 256 + s.otp.progReason

/-- EXP_SET_STATUS (R95). -/
def setStatus (s : State) : Nat :=
  bit s.regs.stgShp.isSome * 4 + bit s.regs.stgMgb.isSome * 2 + bit s.regs.stgNlk.isSome

/-- A half of a 64-bit value: 0 the low word, 1 the high word.
DESIGN CHOICE (log 5). -/
def half (v i : Nat) : Nat := v / 2 ^ (32 * i) % 2 ^ 32

/-- The address of an element of a register array, as its index. -/
def elem (a base stride n : Nat) : Option Nat :=
  if base ≤ a ∧ (a - base) % stride = 0 ∧ (a - base) / stride < n then some ((a - base) / stride)
  else none

/-- TOP, CLK and TMR words that are views of other state.
DEDUCED (log 138). DEDUCED (log 139). -/
def dynTop (s : State) (a : Nat) : Option Nat :=
  match a with
  | 0x000004 => some (topStatus s)
  | 0x00000C => some s.sys.startCount
  | 0x010000 => some (s.clk.gUse * 16 + s.clk.refCode)
  | 0x010004 => some (clkStatus s)
  | 0x018000 => some (half s.time.tb 1)
  | 0x018004 => some (half s.time.tb 0)
  | 0x018008 => some (half s.time.tb 1)
  | 0x01800C => some (s.fc 0x01800C 2 1 * 4 +
      (match s.time.src with | .bus => 0 | .refclk => 1 | .slow => 2))
  | 0x018044 => some (half s.time.cmp 1)
  | 0x018048 => some (half s.time.cmp 0)
  | 0x01804C => some (half s.time.cmp 1)
  | _ =>
    match elem a 0x018100 0x20 8 with
    | some n => some ((s.cur a).toNat + bit ((s.timer n).armed && decide (s.fc a 0 1 = 1)) * 4)
    | none =>
      match elem a 0x018108 0x20 8 with
      | some n => some (half (s.timer n).compare 1)
      | none =>
        match elem a 0x01810C 0x20 8 with
        | some n => some (half (s.timer n).compare 0)
        | none =>
          match elem a 0x018110 0x20 8 with
          | some n => some (half (s.timer n).compare 1)
          | none =>
            match elem a 0x010080 4 4 with
            | some i => some ((s.cur a).toNat + bit (if i < 3 then
                s.clk.cLock || decide (s.clk.busSrc = 2) else s.clk.sLock) * 2 ^ 31)
            | none => (elem a 0x010100 0x10 4).map (fun i =>
                (s.cur a).toNat + bit (s.out i).running * 2 ^ 28)

/-- OTP, BOOT, UPD, EXP, NLK, MGB, LOG and RAS words that are views of other state.
DEDUCED (log 138). -/
def dynSys (s : State) (a : Nat) : Option Nat :=
  match a with
  | 0x020000 => some (otpStatus s)
  | 0x020048 => some (progStatus s)
  | 0x020084 => some (bit s.otp.latch * 4 + s.otp.dbgState)
  | 0x030108 => some s.upd.imgLen
  | 0x03010C => some s.upd.version
  | 0x03011C => some s.upd.confirmLeft
  | 0x03020C => some (bit (s.upd.pend.any (fun p => decide (p.path = 2))) * 2 ^ 31 + s.upd.mbCode)
  | 0x04C104 => some (setStatus s)
  | 0x04C10C => some s.regs.settingsId
  | 0x04C110 => some (s.time.k % 2 ^ 32)
  | 0x04C214 => some (trigStatus s)
  | 0x04C300 => some (ltcRate s * 8 + s.fc a 0 3)
  | 0x110010 => some (linkStatus (s.link 0))
  | 0x110014 => some (linkStatus (s.link 1))
  | 0x110020 => some ((s.link 0).txOk * 65536 + (s.link 0).rxOk)
  | 0x110024 => some ((s.link 1).txOk * 65536 + (s.link 1).rxOk)
  | 0x110028 => some ((s.link (seqLink s 0)).txNext * 65536 + (s.link (seqLink s 0)).rxNext)
  | 0x11002C => some ((s.link (seqLink s 1)).txNext * 65536 + (s.link (seqLink s 1)).rxNext)
  | 0x110030 => some Config.rxLat.toNat
  | 0x110040 => some (half s.nlk.timeTb 1)
  | 0x110044 => some (half s.nlk.timeTb 0)
  | 0x110048 => some (half s.nlk.timeTb 1)
  | 0x11004C => some (half s.nlk.timeHost.toNat 1)
  | 0x110050 => some (half s.nlk.timeHost.toNat 0)
  | 0x120004 => some (mgbStatus s)
  | 0x130008 => some (rasStatus s)
  | 0x130044 => some (logStatus s)
  | 0x130048 => some s.log.seq
  | 0x130054 => some s.log.archNewest
  | _ => none

end Sys2Proof.Machine
end

