-- ==== Sys2Proof/Machine/Flash.lean ====
section
/-!
DEFINITION. The attached flash: erase and program under the hold-up check (R478 to R480), boot records
(R467), the log archive (R546, R547, R553), and PFW_B (R479).
-/

namespace Sys2Proof.Machine

/-- One byte of the flash; an erased byte reads 0xFF.
DESIGN CHOICE (log 10). -/
def flashByte (s : State) (a : Nat) : Byte := mget 0xFF s.boot.flash a

/-- The canonical form of the flash: addresses strictly rise, and no entry reads as an erased byte. -/
def Memory.wf (m : SMap Byte) : Bool := SMap.wf (fun _ => 0xFF) m

/-- `n` bytes of the flash. -/
def flashBytes (s : State) (a n : Nat) : List Byte := (rangeFrom a n).map (flashByte s)

/-- Flash contents after a 4 KiB erase at a sector address. -/
def eraseSector (m : SMap Byte) (a : Nat) : SMap Byte :=
  m.filter (fun p => decide (p.1 < a ∨ a + 4096 ≤ p.1))

/-- Flash contents after programming bytes: bits move only from 1 to 0 (R489). -/
def programBytes (m : SMap Byte) (a : Nat) : List Byte → SMap Byte
  | [] => m
  | b :: t => programBytes (mput 0xFF m a (mget 0xFF m a &&& b)) (a + 1) t

/-- The command under way with the codes of the monitor converter at its checks (R478): none is left behind. -/
def withSense (s : State) (l : List Nat) (f : State → State) : State :=
  let t := f { s with boot := { s.boot with senses := l } }
  { t with boot := { t.boot with senses := [] } }

/-- The code of the monitor converter at a hold-up check, 12 bits (R478): as the command gives it, or free where
it gives none.
DESIGN CHOICE (log 8). -/
def readSns (s : State) : Nat × State :=
  match s.boot.senses with
  | c :: l => (c % 4096, { s with boot := { s.boot with senses := l } })
  | [] => let (v, s) := drawFree s; (v % 4096, s)

/-- The reading of a code in mV: 0 to 1.800 V over 12 bits (R478).
DESIGN CHOICE (log 195). -/
def snsMv (code : Nat) : Nat := code * 1800 / 4095

/-- The energy of the hold-up store in mJ, and whether it covers a command (R478), with the reading of a code:
v is 0.99 · v_sns · k in mV over `d`; VMIN is in mV, K is UQ8.8 and C in µF.
DEDUCED (log 150). -/
def holdupEnergy (s : State) (code : Nat) (erase : Bool) : Nat × Bool :=
  let c := (s.cur 0x030020).toNat
  let k := orIf (s.fc 0x030024 16 16) 0x100
  let eop := (s.cur (if erase then 0x030028 else 0x03002C)).toNat
  let m := s.fc 0x030030 0 8
  let d := 100 * 256 * 4095
  let v := 99 * k * (code * 1800)
  let vmin := s.fc 0x030024 0 16 * d
  let e := c * (v * v - vmin * vmin)
  let q := 2 * d * d * 1000000000
  (e / q, decide (eop * (100 + m) * q ≤ e * 100))

/-- HOLDUP_CHECK: a flash command is issued, or deferred and counted once; without C no energy is measured and the
command is UNCHECKED (R478 to R480, R484).
DEDUCED (log 150). DESIGN CHOICE (log 196). -/
def holdupCheck (s : State) (erase : Bool) : Bool × State :=
  let pfw := pfwActive s
  let off := decide (s.cur 0x030020 = 0)
  let (enough, s) :=
    if off then (true, s)
    else
      let (c, s) := readSns s
      let (e, enough) := holdupEnergy s c erase
      (enough, setRegN (setFld s 0x030034 0 16 (snsMv c)) 0x030038 (min 0xFFFFFFFF e))
  let s := setFld s 0x030034 16 2 (2 * bit off + bit pfw)
  if !pfw && enough then (true, { s with boot := { s.boot with recheck := false } })
  else
    let s := if s.boot.recheck then s else bump s 0x03008C
    (false, { s with boot := { s.boot with checkAt := s.time.tb } })

/-- A flash command goes to the flash, which takes it or reports a failure and keeps what it held (R492).
DEDUCED (log 154). DESIGN CHOICE (log 197). -/
def flashTake (s : State) (m : SMap Byte) : Bool × State :=
  match s.boot.failAt with
  | some 0 => (false, { s with boot := { s.boot with failAt := none, flashFailed := true } })
  | some (n + 1) => (true, { s with boot := { s.boot with failAt := some n, flash := m } })
  | none => (true, { s with boot := { s.boot with flash := m } })

/-- A 4 KiB erase under the hold-up check. -/
def flashErase (s : State) (a : Nat) : Bool × State :=
  match holdupCheck s true with
  | (true, s) => flashTake s (eraseSector s.boot.flash a)
  | (false, s) => (false, s)

/-- A program under the hold-up check. -/
def flashProgram (s : State) (a : Nat) (bs : List Byte) : Bool × State :=
  match holdupCheck s false with
  | (true, s) => flashTake s (programBytes s.boot.flash a bs)
  | (false, s) => (false, s)

/-- An operation is over: what it has issued in a range of the flash is forgotten.
DESIGN CHOICE (log 216). -/
def forgetIssued (s : State) (a n : Nat) : State :=
  { s with boot := { s.boot with
    issued := s.boot.issued.filter (fun k => decide (k / 2 < a ∨ a + n ≤ k / 2)) } }

/-- A command that an operation makes once, though a later one of its commands has to wait (R478).
DESIGN CHOICE (log 216). -/
def issueOnce (s : State) (key : Nat) (f : State → Bool × State) : Bool × State :=
  if key ∈ s.boot.issued then (true, s)
  else
    match f s with
    | (true, s) => (true, { s with boot := { s.boot with issued := key :: s.boot.issued } })
    | (false, s) => (false, s)

/-- A sector holds nothing. -/
def blankSector (m : SMap Byte) (a : Nat) : Bool := m.all (fun p => decide (p.1 < a ∨ a + 0x1000 ≤ p.1))

/-- An erase that an operation makes once, while the sector stays erased. -/
def eraseOnce (s : State) (a : Nat) : Bool × State :=
  issueOnce (if blankSector s.boot.flash a then s else forgetIssued s a 1) (2 * a) (fun s => flashErase s a)

/-- A program that an operation makes once. -/
def programOnce (s : State) (a : Nat) (bs : List Byte) : Bool × State :=
  issueOnce s (2 * a + 1) (fun s => flashProgram s a bs)

/-- A flash job waits for its next check in 1 ms (R478). -/
def deferJob (s : State) (j : FlashJob) : State :=
  { s with boot := { s.boot with deferred := s.boot.deferred.filter (· ≠ j) ++ [j] } }

/-- A flash job waits no longer. -/
def dropJob (s : State) (j : FlashJob) : State :=
  { s with boot := { s.boot with deferred := s.boot.deferred.filter (· ≠ j) } }

/-- A boot record (R467). -/
structure BootRec where
  seq : Nat
  bank : Nat
  trial : Bool
  attempts : Nat
  reverted : Bool
  prevBank : Nat
  version : Nat
deriving DecidableEq, Repr

/-- A boot record that is yet to be written: its SEQ is given at the write. -/
def BootRec.new (bank : Nat) (trial reverted : Bool) (prev version : Nat) : BootRec :=
  { seq := 0, bank := bank, trial := trial, attempts := 0, reverted := reverted, prevBank := prev,
    version := version }

/-- The 64 bytes of a boot record (R467). -/
def BootRec.bytes (r : BootRec) : List Byte :=
  let b := le 4 0x43455242 ++ le 4 r.seq ++ le 1 r.bank ++ le 1 (bit r.trial) ++ le 1 r.attempts
    ++ le 1 (bit r.reverted) ++ le 1 r.prevBank ++ zeros 3 ++ le 4 r.version ++ zeros 40
  b ++ le 4 (crc32c b)

/-- The boot record of a slot (0 A, 1 B), when MAGIC and CRC hold (R467). -/
def readBootRec (s : State) (slot : Nat) : Option BootRec :=
  let b := flashBytes s (slot * 0x1000) 64
  if leAt b 0 4 = 0x43455242 ∧ leAt b 60 4 = crc32c (b.take 60) then
    some { seq := leAt b 4 4, bank := leAt b 8 1 % 2, trial := decide (leAt b 9 1 = 1),
           attempts := leAt b 10 1, reverted := decide (leAt b 11 1 % 2 = 1),
           prevBank := leAt b 12 1 % 2, version := leAt b 16 4 }
  else none

/-- BOOT_RECORD_SELECT: the valid slot with the newer SEQ (R467). -/
def selectBootRec (s : State) : Option (Nat × BootRec) :=
  match readBootRec s 0, readBootRec s 1 with
  | some a, some b => if newer32 b.seq a.seq then some (1, b) else some (0, a)
  | some a, none => some (0, a)
  | none, some b => some (1, b)
  | none, none => none

/-- A boot record is written to the slot not holding the record in use, with SEQ + 1 (R467).
DEDUCED (log 151). -/
def writeBootRec (s : State) (r : BootRec) : Bool × State :=
  let (slot, seq) := match s.boot.brec with
    | some (sl, q) => (1 - sl, (q + 1) % 2 ^ 32)
    | none => (0, 1)
  match eraseOnce s (slot * 0x1000) with
  | (false, s) => (false, s)
  | (true, s) =>
    match flashProgram s (slot * 0x1000) ({ r with seq := seq }).bytes with
    | (false, s) => (false, s)
    | (true, s) =>
      (true, forgetIssued { s with boot := { s.boot with brec := some (slot, seq) } } (slot * 0x1000) 0x1000)

/-- Flash address of an archive entry (R466, R546). -/
def archAddr (i : Nat) : Nat := 0x300000 + 32 * i

/-- The bytes of `k` entries of the log RAM, from the oldest one that is not archived. -/
def pageBytes (s : State) (k : Nat) : List Byte :=
  (upto k).flatMap (fun j =>
    match look s.log.ram ((s.log.wr + 4096 - s.log.unarch + j) % 4096) with
    | some x => x.bytes
    | none => List.replicate 32 0xFF)

/-- Unarchived entries, oldest first, are programmed, eight to a page, while the hold-up check passes; the answer
tells whether all were (R546). -/
def flushEntries : Nat → State → Bool × State
  | 0, s => (true, s)
  | n + 1, s =>
    let i := s.log.archWr
    let k := min (8 - i % 8) s.log.unarch
    if k = 0 then (true, s)
    else
      match (if i % 128 = 0 then eraseOnce s (archAddr i) else (true, s)) with
      | (false, s) => (false, s)
      | (true, s) =>
        match flashProgram s (archAddr i) (pageBytes s k) with
        | (false, s) => (false, s)
        | (true, s) =>
          let s := forgetIssued s (archAddr i) 256
          flushEntries n { s with log := { s.log with
            archWr := (i + k) % 131072, archNewest := i + k - 1, unarch := s.log.unarch - k } }

/-- A log flush (R546): LOG_ARCH_DEFER counts a deferral, and the flush is retried. -/
def flushLog (s : State) : State :=
  if s.boot.usable && decide (s.fc 0x130040 16 1 = 1) then
    match flushEntries s.log.unarch s with
    | (true, s) =>
      dropJob { s with log := { s.log with flushDue := false, lastFlush := s.time.tb } } .logFlush
    | (false, s) => deferJob (if s.boot.recheck then s else bump s 0x1300AC) .logFlush
  else { s with log := { s.log with flushDue := false } }

/-- The SEQ of an archive entry, when its CRC holds and it is not erased (R547). -/
def archSeq (s : State) (i : Nat) : Option Nat :=
  if (rangeFrom (archAddr i) 32).all (fun a => (look s.boot.flash a).isNone) then none
  else
    let b := flashBytes s (archAddr i) 32
    if leAt b 30 2 = crc16 (b.take 30) then some (leAt b 8 4) else none

/-- The archive entries that hold any programmed byte, by index. -/
def archCandidates (s : State) : List Nat :=
  ((s.boot.flash.filterMap (fun p =>
    if 0x300000 ≤ p.1 ∧ p.1 < 0x700000 then some ((p.1 - 0x300000) / 32) else none))).eraseDups

/-- LOG_ARCHIVE_SCAN: the newest valid entry by serial SEQ (R547). -/
def scanArchive (s : State) : Option (Nat × Nat) :=
  (archCandidates s).foldl (fun best i =>
    match archSeq s i, best with
    | some q, some (j, b) => if newer32 q b then some (i, q) else some (j, b)
    | some q, none => some (i, q)
    | none, b => b) none

/-- ARCHIVE_READ: one archive entry into LOG_ARCH_DATA (R553).
DEDUCED (log 149). -/
def archiveRead (s : State) (idx : Nat) : State :=
  let idx := idx % 131072
  let b := if s.boot.usable then flashBytes s (archAddr idx) 32 else zeros 32
  let s := setRegN s 0x130050 idx
  (upto 8).foldl (fun s i => setRegN s (0x130060 + 4 * i) (leAt b (4 * i) 4)) s

/-- The instant at which a flush is due: at once after an ERROR entry, else FLUSH_S after the last (R546, R553). -/
def flushAt (s : State) : Nat :=
  if s.log.flushDue then s.time.tb else s.log.lastFlush + orIf (s.fc 0x130040 0 8) 1 * countsPerSec

/-- A flash job is begun, unless it waits for its next check already (R478).
DEDUCED (log 150). -/
def beginJob (s : State) (j : FlashJob) (f : State → State) : State := if j ∈ s.boot.deferred then s else f s

/-- LOG_FLUSH (R546). -/
def execLogFlush (senses : List Nat) (s : State) : Host.Outcome State Fault Refusal :=
  .next (whenAwake s fun s => beginJob s .logFlush fun s => withSense (reach s (flushAt s)) senses flushLog)

/-- ARCHIVE_READ (R553). -/
def execArchiveRead (_src : Src) (idx : Nat) (s : State) : Host.Outcome State Fault Refusal :=
  .next (whenReg s fun s => archiveRead s idx)

/-- PFW_ASSERT (R479): new erase and program commands stop; where registers are served, the assertion is
counted and Barked.
DEDUCED (log 191). -/
def execPfwAssert (s : State) : Host.Outcome State Fault Refusal :=
  .next (if s.boot.pfwLow then s
    else whenReg { s with boot := { s.boot with pfwLow := true } } fun s => barkEvent (bump s 0x030090) 7)

/-- PFW_RELEASE (R479): PFW_B returns high; commands are allowed again 10 ms later, and the assertion
is logged.
DEDUCED (log 191). -/
def execPfwRelease (s : State) : Host.Outcome State Fault Refusal :=
  .next (if s.boot.pfwLow then
      whenReg { s with boot := { s.boot with pfwLow := false, pfwHold := true, pfwRelease := s.time.tb } }
        fun s => logReg s 0x01 0 0x030090 (s.cur 0x030090).toNat 0
    else s)

end Sys2Proof.Machine
end

