-- ==== Sys2Proof/Machine/Update.lean ====
section
/-!
DEFINITION. Firmware update (R486 to R507): the image header, the download map in flash, blocks, the
stages, confirmation and reverting.
-/

namespace Sys2Proof.Machine

/-- Flash address of a firmware bank (R466). -/
def bankBase (bank : Nat) : Nat := if bank = 0 then 0x1000000 else 0x2000000

/-- The target bank: the one not running. -/
def targetBank (s : State) : Nat := 1 - s.boot.fwBank

/-- Flash address of the target bank's download map (R489). -/
def mapBase (s : State) : Nat := bankBase (targetBank s) + 0xFF0000

/-- A segment of an image (R486). -/
structure Seg where
  offset : Nat
  length : Nat
  target : Nat
  load : Bool
  tag : List Byte
  hash : List Byte
deriving DecidableEq, Repr

/-- Segment i of a header (R486). -/
def segAt (h : List Byte) (i : Nat) : Seg :=
  let b := (h.drop (128 + 80 * i)).take 80
  { offset := leAt b 0 4, length := leAt b 4 4, target := leAt b 8 1,
    load := decide (leAt b 9 1 % 2 = 1), tag := (b.drop 16).take 16, hash := (b.drop 32).take 48 }

/-- The segments of a header. -/
def segsOf (h : List Byte) : List Seg := (upto (leAt h 10 2)).map (segAt h)

/-- No two segments overlap. -/
def segsApart : List Seg → Bool
  | [] => true
  | a :: t =>
    t.all (fun b => decide (a.offset + a.length ≤ b.offset ∨ b.offset + b.length ≤ a.offset))
      && segsApart t

/-- A KEY_ID is accepted (R524). -/
def keyAccepted (s : State) (id : Nat) : Bool :=
  s.otp.keyOk && decide (s.otp.lifecycle ≠ 2 ∧ id ≤ 255)

/-- The first check of R488 that a header fails, or 0. -/
def hdrCheck (s : State) (h : List Byte) : Nat :=
  let hl := leAt h 6 2
  let n := leAt h 10 2
  let il := leAt h 16 4
  let segs := segsOf h
  if ¬(leAt h 0 4 = 0x57465A51 ∧ leAt h 4 2 = 1 ∧ leAt h 8 2 = 0x8160) then 1
  else if ¬(1 ≤ n ∧ n ≤ 48 ∧ hl = 128 + 80 * n + 96) then 2
  else if ¬(il % 16 = 0 ∧ hl + 16 ≤ il ∧ il ≤ 16711680) then 3
  else if ¬(segs.all (fun g => decide (hl ≤ g.offset ∧ g.offset + g.length ≤ il ∧ g.target ≤ 5))
      && segsApart segs
      && decide (leAt h 32 4 = ((segs.filter (·.load)).map (·.length)).sum)
      && decide (((segs.filter (fun g => g.load && decide (g.target = 5))).map (·.length)).sum
          ≤ 4 * 1048576)) then 4
  else if !ecdsaVerify Config.updateKey (h.take (hl - 96)) ((h.drop (hl - 96)).take 96) then 5
  else if !keyAccepted s (leAt h 20 4) then 6
  else 0

/-- The AAD of R487: SHA-384 of the whole header. -/
def hdrHash (h : List Byte) : List Byte := sha384 (h.take (leAt h 6 2))

/-- The image key of R524. -/
def imageKey (s : State) (keyId : Nat) : List Byte :=
  let msg : List Byte := [0, 0, 0, 1] ++ [0x46, 0x57, 0x49, 0x4D, 0x47] ++ [0] ++ le 4 keyId
    ++ [0, 0, 1, 0]
  (hmacSha384 s.otp.keyStore msg).take 32

/-- The plaintext of segment i of the image at a flash address, when its tag holds (R487). -/
def openTag (s : State) (base : Nat) (h : List Byte) (i : Nat) : Option (List Byte) :=
  let g := segAt h i
  gcmOpen (imageKey s (leAt h 20 4)) ((h.drop 24).take 8 ++ le 4 i) (hdrHash h)
    (flashBytes s (base + g.offset) g.length) g.tag

/-- The plaintext of segment i of the image at a flash address, when its tag and hash hold (R486, R487). -/
def openSeg (s : State) (base : Nat) (h : List Byte) (i : Nat) : Option (List Byte) :=
  (openTag s base h i).filter (fun pt => decide (sha384 pt = (segAt h i).hash))

/-- The target of a segment is loaded in step 6, where its hash decides on that load alone (R477). -/
def Seg.late (g : Seg) : Bool := decide (2 ≤ g.target ∧ g.target ≤ 4)

/-- The header stored at a flash address: HDR_LEN bytes, and at least its fixed part. -/
def flashHeader (s : State) (base : Nat) : List Byte :=
  flashBytes s base (max 128 (leAt (flashBytes s base 8) 6 2))

/-- VERSION of the image in a bank: that of a boot record that names it (R467, R486).
DEDUCED (log 193). -/
def headerVersion (s : State) (bank : Nat) : Nat := leAt (flashBytes s (bankBase bank) 16) 12 4

/-- An image offset lies in a segment. -/
def inSegs (segs : List Seg) (o : Nat) : Bool :=
  segs.any (fun g => decide (g.offset ≤ o ∧ o < g.offset + g.length))

/-- Every byte of the image outside its header and segments is 0 (R487). -/
def gapsZero (s : State) (base : Nat) (h : List Byte) : Bool :=
  let segs := segsOf h
  (rangeFrom (leAt h 6 2) (leAt h 16 4 - leAt h 6 2)).all (fun o =>
    inSegs segs o || decide (flashByte s (base + o) = 0))

/-- The bank at a flash address authenticates: its header passes R488 and the segments that are
loaded decrypt (R469); those loaded in step 6 by their tag alone (R477).
DESIGN CHOICE (log 234). -/
def bankAuthentic (s : State) (base : Nat) : Bool :=
  let h := flashHeader s base
  decide (hdrCheck s h = 0)
    && (upto (leAt h 10 2)).all (fun i => !(segAt h i).load
      || (if (segAt h i).late then openTag s base h i else openSeg s base h i).isSome)

/-- A load of step 6 fails: a segment of its TARGET does not match its hash (R477). -/
def loadFails (s : State) (base target : Nat) : Bool :=
  let h := flashHeader s base
  (upto (leAt h 10 2)).any (fun i =>
    (segAt h i).load && decide ((segAt h i).target = target) && (openSeg s base h i).isNone)

/-- The session record of the target bank: IMG_LEN and HDR_HASH, when present (R489). -/
def sessionRec (s : State) : Option (Nat × List Byte) :=
  let b := flashBytes s (mapBase s) 128
  if leAt b 0 4 = 0x53534655 ∧ leAt b 124 4 = crc32c (b.take 124) then
    some (leAt b 4 4, (b.drop 8).take 48)
  else none

/-- A marker at a map offset is present: MAGIC, CRC and HDR_HASH match the session record (R489). -/
def markerAt (s : State) (off magic : Nat) : Bool :=
  match sessionRec s with
  | none => false
  | some (_, hash) =>
    let b := flashBytes s (mapBase s + off) 64
    decide (leAt b 0 4 = magic ∧ leAt b 60 4 = crc32c (b.take 60) ∧ (b.drop 12).take 48 = hash)

/-- The bytes of a marker (R489). -/
def markerBytes (magic seq : Nat) (hash : List Byte) : List Byte :=
  let b := le 4 magic ++ le 4 seq ++ zeros 4 ++ hash
  b ++ le 4 (crc32c b)

/-- Sector j of the image area has been erased (R489). -/
def sectorErased (s : State) (j : Nat) : Bool :=
  decide ((flashByte s (mapBase s + 0x1000 + j / 8)).toNat / 2 ^ (j % 8) % 2 = 0)

/-- Unit u has been programmed (R489). -/
def unitMarked (s : State) (u : Nat) : Bool :=
  decide ((flashByte s (mapBase s + 0x2000 + u / 8)).toNat / 2 ^ (u % 8) % 2 = 0)

/-- Units of the session's image (R489). -/
def unitCount (s : State) : Nat := ceilDiv s.upd.imgLen 128

/-- UPD_UNITS: the units marked (R495). -/
def markedUnits (s : State) : Nat := ((upto (unitCount s)).filter (unitMarked s)).length

/-- A session is open. -/
def sessionOpen (s : State) : Bool := decide (1 ≤ s.upd.state ∧ s.upd.state ≠ 5)

/-- UPD_STATUS.COMPLETE (R495). -/
def updComplete (s : State) : Bool :=
  sessionOpen s && decide (0 < unitCount s ∧ markedUnits s = unitCount s)

/-- UPD_BITMAP[n] (R495). -/
def updBitmap (s : State) (n : Nat) : Nat :=
  ((upto 32).map (fun i =>
    if sessionOpen s && decide (32 * n + i < unitCount s) && unitMarked s (32 * n + i)
    then 2 ^ i else 0)).sum

/-- A change of the update state: logged, and the UPDATE Bark (R496). -/
def setUpdState (s : State) (st : Nat) : State :=
  if s.upd.state = st then s
  else barkEvent (logReg { s with upd := { s.upd with state := st } } 0x01 0 0x030104 st 0) 6

/-- A command sets CMD_RESULT; a refused one is counted (R496). -/
def cmdResult (s : State) (r : Nat) : State :=
  let s := { s with upd := { s.upd with cmdResult := r } }
  if r = 0 then s else bump s 0x030188

/-- A bit of a map in flash is programmed to 0. -/
def markBit (s : State) (a j : Nat) : Bool × State :=
  flashProgram s (a + j / 8) [BitVec.ofNat 8 (255 - 2 ^ (j % 8))]

/-- Unit u, with its bytes, is erased if needed, programmed and marked (R494); answers whether every
flash command was issued. -/
def writeUnit (s : State) (u : Nat) (bs : List Byte) : Bool × State :=
  let base := bankBase (targetBank s)
  let j := u / 32
  let er : Bool × State :=
    if sectorErased s j then (true, s)
    else match eraseOnce s (base + 4096 * j) with
      | (true, s) => markBit s (mapBase s + 0x1000) j
      | r => r
  match er with
  | (false, s) => (false, s)
  | (true, s) =>
    match programOnce s (base + 128 * u) bs with
    | (false, s) => (false, s)
    | (true, s) =>
      match markBit s (mapBase s + 0x2000) u with
      | (false, s) => (false, s)
      | (true, s) => (true, forgetIssued s (base + 4096 * j) 4096)

/-- Bytes at an image offset are written unit by unit, in ascending order, marked units passed over
(R494): UPDATE_UNIT_WRITE. -/
def writeUnits : Nat → State → Nat → List Byte → Bool × State
  | 0, s, _, _ => (true, s)
  | n + 1, s, u, bs =>
    match bs with
    | [] => (true, s)
    | _ =>
      match (if unitMarked s u then (true, s) else writeUnit s u (bs.take 128)) with
      | (false, s) => (false, s)
      | (true, s) => writeUnits n s (u + 1) (bs.drop 128)

/-- A unit already marked reads back different from the block (R492). -/
def unitConflict (s : State) (offset : Nat) (bs : List Byte) : Bool :=
  (upto (ceilDiv bs.length 128)).any (fun i =>
    let u := offset / 128 + i
    let part := (bs.drop (128 * i)).take 128
    unitMarked s u && decide (flashBytes s (bankBase (targetBank s) + 128 * u) part.length ≠ part))

/-- The header bytes held in RAM, without gaps from offset 0. -/
def heldPrefix : SMap Byte → Nat → List Byte
  | [], _ => []
  | (k, b) :: t, i => if k = i then b :: heldPrefix t (i + 1) else []

/-- The sectors of the download map are erased, map sector 0 first (R493). -/
def eraseMap : Nat → Nat → State → Bool × State
  | 0, _, s => (true, s)
  | n + 1, i, s =>
    match eraseOnce s (mapBase s + 4096 * i) with
    | (true, s) => eraseMap n (i + 1) s
    | r => r

/-- UPDATE_SESSION_OPEN (R493): the map is erased, the session record programmed last, and then the
held header blocks are written.
DEDUCED (log 152). -/
def openSession (s : State) (held : List Byte) : Bool × State :=
  match eraseMap 6 0 s with
  | (false, s) => (false, s)
  | (true, s) =>
    let b := le 4 0x53534655 ++ le 4 (leAt held 16 4) ++ hdrHash held ++ zeros 68
    match programOnce s (mapBase s) (b ++ le 4 (crc32c b)) with
    | (false, s) => (false, s)
    | (true, s) =>
      match writeUnits (held.length / 128 + 1) s 0 held with
      | (false, s) => (false, s)
      | (true, s) => (true, forgetIssued s (mapBase s) 0x10000)

/-- A flash command of a block was not taken (R492): the flash has failed, or the command is deferred.
DEDUCED (log 154). -/
def stopBlock (s : State) : Option Nat × State :=
  if s.boot.flashFailed then (some 10, { s with boot := { s.boot with flashFailed := false } }) else (none, s)

/-- A block is processed (R492): its result code, or none while a flash command is deferred.
DEDUCED (log 152). -/
def procBlock (s : State) (p : UpdPend) : Option Nat × State :=
  let len := p.data.length
  let u := s.upd
  let idle := decide (u.state = 0)
  let endsAt := !idle && decide (p.offset + len = u.imgLen)
  let lenBad := if p.path = 1 then
      !(decide (128 ≤ len ∧ len ≤ 4096) && (decide (len % 128 = 0) || endsAt))
    else !(decide (len = 128) || (endsAt && decide (1 ≤ len ∧ len ≤ 128)))
  let align := if p.path = 1 then 256 else 128
  if lenBad then (some 4, s)
  else if p.offset % align ≠ 0 then (some 5, s)
  else if 2 ≤ u.state then (some 7, s)
  else if u.state = 1 ∧ u.owner ≠ p.path then (some 11, s)
  else if u.state = 0 then
    let before := heldPrefix u.held 0
    if before.length < 8 ∧ p.offset ≠ 0 then (some 2, s)
    else if 8 ≤ before.length ∧ p.offset ≠ 0 ∧ leAt before 6 2 ≤ p.offset then (some 2, s)
    else
      let held := (p.data.zipIdx).foldl (fun m (q : Byte × Nat) => put m (p.offset + q.2) q.1) u.held
      let h := heldPrefix held 0
      let s := { s with upd := { s.upd with held := held } }
      if h.length < leAt h 6 2 then (some 0, s)
      else
        match hdrCheck s h with
        | 0 =>
          match openSession s h with
          | (false, s) => stopBlock s
          | (true, s) =>
            (some 0, setUpdState { s with upd := { s.upd with
              hdrErr := 0, owner := p.path, imgLen := leAt h 16 4, version := leAt h 12 4,
              held := [], last := 0 } } 1)
        | e => (some 6, { s with upd := { s.upd with hdrErr := e, held := [], last := 5 } })
  else if u.imgLen < p.offset + len then (some 3, s)
  else if unitConflict s p.offset p.data then (some 9, s)
  else match writeUnits (len / 128 + 1) s (p.offset / 128) p.data with
    | (false, s) => stopBlock s
    | (true, s) => (some 0, s)

/-- A block is answered with its result code and counted (R492). -/
def answerBlock (s : State) (p : UpdPend) (c : Nat) : State :=
  let s := forgetIssued s (bankBase (targetBank s)) 0x1000000
  let s := bump { s with boot := { s.boot with failAt := none } } (if c = 0 then 0x030180 else 0x030184)
  let s := if c = 10 then logReg s 0x02 1 0x030184 p.offset 0 else s
  if p.path = 1 then statusResp s p.link p.tag 0x45 0 c s.time.tb
  else { s with upd := { s.upd with mbCode := c } }

/-- Waiting blocks are processed in order until one is deferred. -/
def runBlocks : List UpdPend → State → State
  | [], s => dropJob { s with upd := { s.upd with pend := [] } } .updBlock
  | p :: t, s =>
    match procBlock { s with boot := { s.boot with failAt := p.fail } } p with
    | (some c, s) => runBlocks t (answerBlock s p c)
    | (none, s) =>
      deferJob { s with
        upd := { s.upd with pend := { p with fail := s.boot.failAt } :: t },
        boot := { s.boot with failAt := none } } .updBlock

/-- A block arrives (R490, R492): behind one that is deferred, it waits, and the check of that one stays due when it
was (R478).
DEDUCED (log 150). -/
def blockArrives (s : State) (p : UpdPend) : State :=
  if s.upd.pend = [] then runBlocks [p] s
  else { s with upd := { s.upd with pend := s.upd.pend ++ [p] } }

/-- Map sector 0 is erased and the session ends (ABORT, R497). -/
def abortSession (s : State) : State :=
  match flashErase s (mapBase s) with
  | (true, s) =>
    setUpdState (dropJob { s with upd := { s.upd with
      last := 4, owner := 0, imgLen := 0, version := 0, held := [] } } .mapErase) 0
  | (false, s) => deferJob s .mapErase

/-- The VERIFIED marker is programmed, or waits (R498). -/
def putVerified (s : State) : State :=
  match sessionRec s with
  | none => s
  | some (_, hash) =>
    match flashProgram s (mapBase s + 0x80) (markerBytes 0x44564655 0 hash) with
    | (true, s) => setUpdState (dropJob s .verifiedMarker) 3
    | (false, s) => deferJob s .verifiedMarker

/-- What a verification pass finds (R488, R498): FAIL_SEG where it fails, the bytes that it has checked, and the
check of R488 that the header fails. -/
structure PassResult where
  fail : Option Nat
  bytes : Nat
  hdrErr : Nat
deriving DecidableEq, Repr

/-- The verification pass over the target bank (R498): the header, each segment in turn, and every other byte.
DESIGN CHOICE (log 198). -/
def verifyPass (s : State) : PassResult :=
  let base := bankBase (targetBank s)
  let h := flashHeader s base
  let hl := leAt h 6 2
  let segs := segsOf h
  match sessionRec s with
  | none => { fail := some 0xFF, bytes := 0, hdrErr := 0 }
  | some (_, hash) =>
    if hdrCheck s h ≠ 0 then { fail := some 0xFF, bytes := min hl s.upd.imgLen, hdrErr := hdrCheck s h }
    else if hdrHash h ≠ hash then { fail := some 0xFF, bytes := hl, hdrErr := 0 }
    else
      match (upto (leAt h 10 2)).find? (fun i => (openSeg s base h i).isNone) with
      | some i => { fail := some i, bytes := hl + ((segs.take (i + 1)).map (·.length)).sum, hdrErr := 0 }
      | none =>
        if gapsZero s base h then { fail := none, bytes := s.upd.imgLen, hdrErr := 0 }
        else
          let gaps := (rangeFrom hl (leAt h 16 4 - hl)).filter (fun o => !inSegs segs o)
          { fail := some 0xFF, hdrErr := 0,
            bytes := hl + (segs.map (·.length)).sum
              + (gaps.takeWhile (fun o => decide (flashByte s (base + o) = 0))).length + 1 }

/-- UPD_VERIFY_POS (R498, R504): the bytes checked by the last pass; while one runs, as far as it has come at
16 MB/s or faster. -/
def verifyPos (s : State) : Nat :=
  match s.upd.verifySince with
  | some t => min s.upd.imgLen (max ((s.time.tb - t) * 16 / 750) (Config.verifyPace t s.time.tb))
  | none => s.upd.verifyPos

/-- The TRIAL record and then the ACTIVATED marker are written, and the restart follows (R499). -/
def writeTrial (s : State) : State :=
  let r := BootRec.new (targetBank s) true false s.boot.fwBank s.upd.version
  match (if s.upd.trialWritten then (true, s) else writeBootRec s r) with
  | (false, s) => deferJob s .trialRecord
  | (true, s) =>
    let s := { s with upd := { s.upd with trialWritten := true } }
    let seq := match s.boot.brec with | some (_, q) => q | none => 0
    let hash := match sessionRec s with | some (_, h) => h | none => zeros 48
    match flashProgram s (mapBase s + 0xC0) (markerBytes 0x43544655 seq hash) with
    | (false, s) => deferJob s .trialRecord
    | (true, s) => callRestartAs (bump (dropJob s .trialRecord) 0x03018C) 2 0

/-- The CONFIRMED record of the running bank (R500). -/
def writeConfirmed (s : State) : State :=
  let s := { s with upd := { s.upd with confirming := true } }
  let version := match selectBootRec s with | some (_, r) => r.version | none => 0
  match writeBootRec s (BootRec.new (s.boot.fwBank) false false (s.boot.fwBank) (version)) with
  | (false, s) => deferJob s .confirmedRecord
  | (true, s) =>
    setUpdState (dropJob { s with upd := { s.upd with
      last := 1, confirming := false, confirmLeft := 0 } } .confirmedRecord) 0

/-- UPDATE_REVERT (R501): a CONFIRMED record for PREV_BANK with REVERTED, and a warm restart; a
deferred write is left to R468. -/
def revert (s : State) : State :=
  let s := (writeBootRec s (BootRec.new s.boot.prevBank false true s.boot.prevBank
    (headerVersion s s.boot.prevBank))).2
  callRestartAs (bump s 0x030190) 2 0

/-- A check of R500 has failed: in CONFIRM the bank reverts, though the CONFIRMED write may wait (R501). -/
def confirmFails (s : State) : State :=
  let s := { s with upd := { s.upd with checksOk := false } }
  if s.upd.state = 5 ∧ s.sys.phase = .run then revert s else s

/-- The checks of R500 hold now. -/
def checksHold (s : State) : Bool :=
  s.upd.checksOk && decide (s.sys.tier = 3) && !s.sys.fell && !s.sys.uncorr

/-- A Heel port is TRACKING or HOLDING (R499). -/
def portsActive (s : State) : Bool :=
  s.heel.ports.any (fun p => decide (p.2.state = .tracking ∨ p.2.state = .holding))

/-- ABORT (R497). -/
def cmdAbort (s : State) : State :=
  if s.upd.state = 1 ∨ s.upd.state = 3 ∨ s.upd.state = 6 then beginJob (cmdResult s 0) .mapErase abortSession
  else cmdResult s 1

/-- VERIFY (R497). -/
def cmdVerify (s : State) : State :=
  if s.upd.state = 1 then
    if updComplete s then
      setUpdState { (cmdResult s 0) with upd := { (cmdResult s 0).upd with
        verifyPos := 0, verifySince := some s.time.tb } } 2
    else cmdResult s 2
  else cmdResult s 1

/-- ACTIVATE (R499). -/
def cmdActivate (s : State) (force : Bool) : State :=
  if s.upd.state = 3 then
    if portsActive s && !force then cmdResult s 4
    else
      let s := setUpdState (cmdResult s 0) 4
      writeTrial { s with upd := { s.upd with actSince := s.time.tb, trialWritten := false } }
  else cmdResult s 1

/-- The confirmation window is open: it runs from E₀ (R500). -/
def inWindow (s : State) : Bool := decide (s.sys.phase = .run ∧ 0 < s.upd.confirmLeft)

/-- CONFIRM (R500).
DESIGN CHOICE (log 199). -/
def cmdConfirm (s : State) : State :=
  if s.upd.state = 5 then
    if !checksHold s then cmdResult s 5
    else if s.upd.hostConfirm && inWindow s then beginJob (cmdResult s 0) .confirmedRecord writeConfirmed
    else cmdResult s 1
  else cmdResult s 1

/-- REJECT (R501). -/
def cmdReject (s : State) : State :=
  if s.upd.state = 5 then revert (cmdResult s 0) else cmdResult s 1

/-- The CONFIRMED record of the target bank and the restart (R502): a deferred write is tried again (R478), as
long as the state is IDLE.
DEDUCED (log 153). -/
def writeRollback (s : State) : State :=
  let bank := targetBank s
  if s.upd.state ≠ 0 then dropJob s .rollbackRecord
  else
    match writeBootRec s (BootRec.new bank false false bank (headerVersion s bank)) with
    | (true, s) => callRestartAs (dropJob s .rollbackRecord) 2 0
    | (false, s) => deferJob s .rollbackRecord

/-- ROLLBACK (R502): the target bank's header must pass R488.
DEDUCED (log 153). -/
def cmdRollback (s : State) (force : Bool) : State :=
  if s.upd.state = 0 ∧ force = true then
    if hdrCheck s (flashHeader s (bankBase (targetBank s))) = 0 then
      beginJob (cmdResult s 0) .rollbackRecord writeRollback
    else cmdResult s 5
  else cmdResult s 1

/-- A write of CMD to UPD_CTRL (R504).
DESIGN CHOICE (log 136). -/
def updCommand (s : State) (v : Word) : State :=
  let force := decide (field v 4 1 = 1)
  match field v 0 4 with
  | 1 => cmdAbort s
  | 2 => cmdVerify s
  | 3 => cmdActivate s force
  | 4 => cmdConfirm s
  | 5 => cmdReject s
  | 6 => cmdRollback s force
  | _ => s

/-- UPD_MB_GO: the block of the management bus registers, or ignored while BUSY (R490). -/
def mbGo (s : State) (fail : Option Nat) : State :=
  if s.upd.pend.any (fun p => decide (p.path = 2)) then bump s 0x030194
  else
    let len := s.fc 0x030204 0 8
    let bytes := ((upto 32).map (fun i => le 4 (s.cur (0x030280 + 4 * i)).toNat)).flatten
    blockArrives s { path := 2, link := 0, tag := 0, offset := (s.cur 0x030200).toNat,
                     data := if len ≤ 128 then bytes.take len else zeros len, since := s.time.tb,
                     fail := fail }

/-- UPD_ABORT (R497). -/
def execUpdAbort (senses : List Nat) (s : State) : Host.Outcome State Fault Refusal :=
  .next (whenReg s fun s => withSense s senses cmdAbort)

/-- UPD_VERIFY (R498). -/
def execUpdVerify (s : State) : Host.Outcome State Fault Refusal :=
  .next (whenReg s cmdVerify)

/-- VERIFY_PASS_DONE (R498). -/
def execVerifyPassDone (senses : List Nat) (s : State) : Host.Outcome State Fault Refusal :=
  .next (whenAwake s fun s =>
    if s.upd.state = 2 ∧ s.upd.verifySince.isSome then
      let r := verifyPass s
      let s := { s with upd := { s.upd with
        verifyPos := r.bytes, verifySince := none,
        hdrErr := if r.hdrErr = 0 then s.upd.hdrErr else r.hdrErr } }
      match r.fail with
      | none => withSense s senses putVerified
      | some g => setUpdState { s with upd := { s.upd with failSeg := g, last := 3 } } 6
    else s)

/-- UPD_ACTIVATE (R499). -/
def execUpdActivate (force : Bool) (senses : List Nat) (s : State) : Host.Outcome State Fault Refusal :=
  .next (whenReg s fun s => withSense s senses fun s => cmdActivate s force)

/-- ACTIVATE_TIMEOUT (R497): the TRIAL record has been deferred for 1 s; once it is written, its marker is tried
on.
DEDUCED (log 192). -/
def execActivateTimeout (s : State) : Host.Outcome State Fault Refusal :=
  .next (whenAwake s fun s =>
    if s.upd.state = 4 ∧ s.upd.trialWritten = false then
      let s := reach s (s.upd.actSince + countsPerSec)
      let s := forgetIssued s 0 0x2000
      setUpdState (dropJob { s with upd := { s.upd with cmdResult := 3 } } .trialRecord) 3
    else s)

/-- UPD_CONFIRM (R500). -/
def execUpdConfirm (senses : List Nat) (s : State) : Host.Outcome State Fault Refusal :=
  .next (whenReg s fun s => withSense s senses cmdConfirm)

/-- UPD_REJECT (R501). -/
def execUpdReject (senses : List Nat) (s : State) : Host.Outcome State Fault Refusal :=
  .next (whenReg s fun s => withSense s senses cmdReject)

/-- UPD_ROLLBACK (R502). -/
def execUpdRollback (force : Bool) (senses : List Nat) (s : State) : Host.Outcome State Fault Refusal :=
  .next (whenReg s fun s => withSense s senses fun s => cmdRollback s force)

/-- CONFIRM_WINDOW_END (R500, R501): the last tick of the window is over. -/
def execConfirmWindowEnd (senses : List Nat) (s : State) : Host.Outcome State Fault Refusal :=
  .next (whenAwake s fun s =>
    if s.upd.state = 5 ∧ s.upd.confirming = false ∧ s.upd.confirmLeft = 0 then
      if s.upd.hostConfirm = false ∧ checksHold s = true then withSense s senses writeConfirmed
      else withSense s senses revert
    else s)

/-- One deferred flash job is tried again (R478), its first command as one already deferred. -/
def retryJob (s : State) (j : FlashJob) : State :=
  let s := { s with boot := { s.boot with recheck := true } }
  match j with
  | .logFlush => flushLog s
  | .updBlock => runBlocks s.upd.pend s
  | .mapErase => abortSession s
  | .verifiedMarker => putVerified s
  | .trialRecord => writeTrial s
  | .confirmedRecord => writeConfirmed s
  | .rollbackRecord => writeRollback s

/-- Every deferred command is tried again, in the order of deferral (R478). -/
def retryJobs (s : State) : State :=
  let s := (s.boot.deferred).foldl (fun s j => if j ∈ s.boot.deferred then retryJob s j else s) s
  { s with boot := { s.boot with recheck := false } }

end Sys2Proof.Machine
end

