-- ==== Sys2Proof/Machine/Otp.lean ====
section
/-!
DEFINITION. Fuses, lifecycle, keys and fuse programming (R508 to R526).
-/

namespace Sys2Proof.Machine

/-- The level of a fuse bit: how many thresholds read it as 1 (R508).
DESIGN CHOICE (log 11). -/
def fuseLevel (s : State) (b : Nat) : Nat := mget 0 s.otp.fuse b

/-- A bit is marginal: its LOW and HIGH reads differ (R508). -/
def marginal (lvl : Nat) : Bool := decide (lvl = 1 ∨ lvl = 2)

/-- The level at which the last sense read a bit (R515): its own, or one to which it has drifted. -/
def senseLevel (s : State) (b : Nat) : Nat := (look s.otp.drift b).getD (fuseLevel s b)

/-- A bit drifts by the next sense (R515): from a start to the next it goes to a marginal level or from one, since it
is marginal before it changes between intact and blown.  `old` is the state as the last sense left it. -/
def driftBit (old s : State) (p : Nat × Nat) : State :=
  let l := min 3 p.2
  let was := senseLevel old p.1
  if (was = 0 ∧ l = 3) ∨ (was = 3 ∧ l = 0) then s
  else { s with otp := { s.otp with
    drift := if l = fuseLevel s p.1 then unput s.otp.drift p.1 else put s.otp.drift p.1 l } }

/-- The bits that the last sense may read above 0. -/
def sensedBits (s : State) : List Nat :=
  (s.otp.fuse.map (fun p => p.1)) ++ (s.otp.drift.map (fun p => p.1)).filter (fun b => !(look s.otp.fuse b).isSome)

/-- The class of a bit (R516): 0 fail-secure, 1 triplicated, 2 single. -/
def fuseClass (b : Nat) : Nat :=
  let r := b / 512
  let w := b % 512 / 32
  if (r = 0 ∧ w < 12) ∨ (r = 1 ∧ w < 3) then 0 else if r = 1 ∧ w < 6 then 1 else 2

/-- The value of one bit before the vote of its copies (R516). -/
def senseBit (s : State) (majority : List Nat) (b : Nat) : Bool :=
  let l := senseLevel s b
  if marginal l then
    match fuseClass b with
    | 0 => true
    | 1 => decide (l = 2)
    | _ => decide (b ∈ majority)
  else decide (l = 3)

/-- The bits of the fuse map that lie in a word, as their sensed value. -/
def senseWord (s : State) (majority : List Nat) (r w : Nat) : Nat :=
  let base := 512 * r + 32 * w
  (((sensedBits s).filter (fun b => decide (base ≤ b ∧ b < base + 32))).map (fun b =>
    if senseBit s majority b then 2 ^ (b - base) else 0)).sum

/-- Bitwise majority of three words. -/
def majority3 (a b c : Nat) : Nat := (a &&& b) ||| (a &&& c) ||| (b &&& c)

/-- A decided word: the vote of three copies where R509 and R513 keep three (R516). -/
def decideWord (s : State) (majority : List Nat) (r w : Nat) : Nat :=
  let f := senseWord s majority r
  if r = 0 ∧ w < 12 then majority3 (f (w % 4)) (f (w % 4 + 4)) (f (w % 4 + 8))
  else if r = 1 ∧ w < 3 then majority3 (f 0) (f 1) (f 2)
  else if r = 1 ∧ w < 6 then majority3 (f 3) (f 4) (f 5)
  else f w

/-- FUSE_SENSE: every word of the array (R515). -/
def senseAll (s : State) (majority : List Nat) : SMap Word :=
  (upto 1024).foldl (fun m i =>
    mput 0 m i (BitVec.ofNat 32 (decideWord s majority (i / 16) (i % 16)))) []

/-- A decided word of the start. -/
def otpWord (s : State) (r w : Nat) : Word := mget 0 s.otp.data (16 * r + w)

/-- The lock bits of a region's pair that are exempt from the check of region 0 (R510): those of
regions 40 to 63. -/
def exemptMask (w : Nat) : Nat :=
  if w < 12 then (if w % 4 = 2 then 0xFFFF0000 else if w % 4 = 3 then 0xFFFFFFFF else 0) else 0

/-- The expected check C of a region (R510). -/
def expectedCheck (s : State) (r : Nat) : Nat :=
  let word := fun (w : Nat) =>
    let v := (otpWord s r w).toNat
    if r = 0 then v - (v &&& exemptMask w) else if r = 1 ∧ w < 3 then 0 else v
  crc32c (le 1 r ++ ((upto 15).map (fun w => le 4 (word w))).flatten)

/-- A lock of a region as the start decided it, with some bits programmed since: the majority of its three copies
(R513, R517); `k` is 0 for the write lock and 1 for the read lock. -/
def lockWith (s : State) (since : List Nat) (r k : Nat) : Bool :=
  let b := 2 * (r % 16) + k
  let copy := fun (c : Nat) =>
    let w := 4 * c + r / 16
    (otpWord s 0 w).toNat / 2 ^ b % 2 = 1 ∨ (32 * w + b) ∈ since
  decide ((copy 0 ∧ copy 1) ∨ (copy 0 ∧ copy 2) ∨ (copy 1 ∧ copy 2))

/-- A lock as it acts for programming and for reads (R517). -/
def lockBit (s : State) (r k : Nat) : Bool := lockWith s s.otp.since r k

/-- REGION_STATE_DECIDE (R511): 0 BLANK, 1 PARTIAL, 2 OPEN, 3 LOCKED, 4 INVALID. -/
def regionState (s : State) (r : Nat) : Nat :=
  let chk := (otpWord s r 15).toNat
  let c := expectedCheck s r
  let valid := decide (chk = c ∨ (chk = 0xFFFFFFFF ∧ c = 0))
  let data := (upto 15).any (fun w => decide (otpWord s r w ≠ 0))
  let wl := lockWith s [] r 0
  if wl then (if valid then 3 else 4)
  else if chk = 0 then (if data then (if valid then 2 else 1) else 0)
  else if valid then 2 else 4

/-- The contents of a region are used (R512). -/
def regionUsable (s : State) (r : Nat) : Bool := decide (regionState s r = 2 ∨ regionState s r = 3)

/-- The boot options word: 0 when region 1 is neither OPEN nor LOCKED (R509, R512). -/
def bootOptions (s : State) : Nat := if regionUsable s 1 then (otpWord s 1 3).toNat else 0

/-- A 16-bit entry of the trim and repair regions (R509). -/
def otpEntry (s : State) (base k : Nat) : Nat :=
  let r := base + k / 30
  let i := k % 30
  (otpWord s r (i / 2)).toNat / 2 ^ (16 * (i % 2)) % 65536

/-- The device key DK (R523). -/
def deviceKey (s : State) : List Byte := ((upto 8).map (fun w => le 4 (otpWord s 2 w).toNat)).flatten

/-- LIFECYCLE_DECIDE (R521): 0 FACTORY, 1 FIELD, 2 OPENED. -/
def decideLifecycle (s : State) : Nat :=
  let w := (otpWord s 1 0).toNat
  if w / 2 % 2 = 1 then 2 else if w % 2 = 1 then 1 else 0

/-- The bits of a word that have been programmed OK since the start (R517). -/
def sinceWord (s : State) (r w : Nat) : Nat :=
  s.otp.since.foldl (fun m b => if b / 32 = 16 * r + w then m ||| 2 ^ (b % 32) else m) 0

/-- OTP_DATA as a source reads it (R514, R517): region 2 reads 0 to every source. -/
def otpData (s : State) (src : Src) (r w : Nat) : Nat :=
  if r = 2 then 0
  else if lockBit s r 1 && decide (src ≠ .shp) then 0
  else (otpWord s r w).toNat ||| sinceWord s r w

/-- The programmed bits are the lock bits of regions 40 to 63 (R514). -/
def ownerLockBit (r b : Nat) : Bool :=
  decide (r = 0) && decide (exemptMask (b / 32) / 2 ^ (b % 32) % 2 = 1)

/-- The supplies as the monitors find them before a pulse (R519): VCORE, VPP or the pump, as SRC says. -/
structure PulseSupply where
  vcore : Bool
  source : Bool
deriving DecidableEq, Repr

/-- The supplies for a GO (R519): as its command gives them. Where it gives none, VCORE is in its window, or the
device would be in reset (R570), and VPP or the pump is free.
DEDUCED (log 200). -/
def pulseSupply (s : State) (pump : Bool) (env : Option PulseEnv) : PulseSupply × State :=
  match env with
  | some e => ({ vcore := e.vcoreOk, source := if pump then e.pumpOk else e.vppOk }, s)
  | none => let (v, s) := drawFree s; ({ vcore := true, source := decide (v % 2 = 1) }, s)

/-- The first reason of R519 that refuses a GO, or 0. -/
def progReason (s : State) (bitNo : Nat) (pump : Bool) (u : PulseSupply) : Nat :=
  let r := bitNo / 512
  let b := bitNo % 512
  if s.otp.progBusy then 1
  else if lockBit s r 0 && !ownerLockBit r b then 2
  else if s.otp.lifecycle ≠ 0 ∧ r < 40 ∧ ownerLockBit r b = false then 3
  else if pfwActive s then 4
  else if !u.vcore then 5
  else if !pump && !u.source then 6
  else if pump && !u.source then 7
  else if fuseLevel s bitNo = 3 then 8
  else 0

/-- A write to OTP_PROG_CTRL (R518, R519).
DESIGN CHOICE (log 136). -/
def progGo (s : State) (v : Word) (env : Option PulseEnv) : State :=
  if field v 0 1 = 0 then s
  else if field v 16 16 ≠ 0x0F5E then bump s 0x020094
  else
    let bitNo := s.fc 0x020040 9 6 * 512 + s.fc 0x020040 0 9
    let pump := decide (field v 1 1 = 1)
    let (u, s) := pulseSupply s pump env
    match progReason s bitNo pump u with
    | 0 => { s with otp := { s.otp with
        progBusy := true, progResult := 0, progReason := 0, progBit := bitNo, progPump := pump } }
    | e => bump { s with otp := { s.otp with progResult := 4, progReason := e } } 0x020094

/-- A fuse is left at a level: it never falls (R508). -/
def blow (s : State) (b lvl : Nat) : State :=
  { s with otp := { s.otp with
    fuse := mput 0 s.otp.fuse b (max (fuseLevel s b) (min 3 lvl)), drift := unput s.otp.drift b } }

/-- The pulses at a bit are over (R519, R520): RESULT from its LOW and HIGH reads, or ABORTED with the supply that has
left its window, VCORE or the source of the pulse. -/
def pulseEnd (s : State) (b : Nat) (pump : Bool) (r : PulseResult) : State :=
  match r with
  | .aborted vcore lvl =>
    let reason := if vcore then 5 else if pump then 7 else 6
    blow { s with otp := { s.otp with progBusy := false, progResult := 5, progReason := reason } } b lvl
  | .done lvl =>
    let s := blow s b lvl
    let now := fuseLevel s b
    let res := if now = 3 then 1 else if now = 0 then 3 else 2
    let s := { s with otp := { s.otp with progBusy := false, progResult := res, progReason := 0 } }
    if res = 1 then { s with otp := { s.otp with since := b :: s.otp.since } } else bump s 0x020098

/-- OTP_PROG_GO (R518). -/
def execOtpProgGo (_src : Src) (v : Word) (env : PulseEnv) (s : State) :
    Host.Outcome State Fault Refusal :=
  .next (whenReg s fun s => progGo s v (some env))

/-- OTP_PULSE_DONE (R519, R520): RESULT from the HIGH and LOW reads, or ABORTED. -/
def execOtpPulseDone (r : PulseResult) (s : State) : Host.Outcome State Fault Refusal :=
  .next (whenReg s fun s =>
    if s.otp.progBusy then pulseEnd s s.otp.progBit s.otp.progPump r else s)

/-- DEBUG_REQUEST (R36, R526): the request latch is set, in every state in which the device has its supplies, T0
among them. -/
def execDebugRequest (s : State) : Host.Outcome State Fault Refusal :=
  .next (if s.sys.pgoodLow then s else { s with otp := { s.otp with latch := true } })

/-- The health tests have failed three times in a start (R339, R525): RNG_FAIL, its entry in the log, and EPOCH from
TB. -/
def failRng (s : State) : State :=
  let s := logReg { s with otp := { s.otp with rngFail := true } } 0x01 2 0x020000 1 0
  setRegN s 0x108008 (1 + s.time.tb % 65535)

/-- DRBG_RESEED (R525): after 2^20 requests the source reseeds the DRBG; a source whose health tests fail leaves it
as it is, and the third failure of the start sets RNG_FAIL. -/
def execDrbgReseed (healthy : Bool) (s : State) : Host.Outcome State Fault Refusal :=
  .next (whenAwake s fun s =>
    if 1048576 ≤ s.otp.drbgRequests then
      if healthy then { s with otp := { s.otp with drbgRequests := 0, drbgSeeded := true } }
      else
        let s := { s with otp := { s.otp with rngFails := s.otp.rngFails + 1 } }
        if s.otp.rngFails = 3 then failRng s else s
    else s)

end Sys2Proof.Machine
end

