-- ==== Sys2Proof/Machine/Readout.lean ====
section
/-!
DEFINITION. The readout plan (R129 to R142, R591): tile-table entries, windows, the main-pass set,
burst tiles and passes, shedding, and the floor, from the settings committed at an edge.
-/

namespace Sys2Proof.Machine

/-- A tile-table entry as written (R67). -/
structure Entry where
  start1 : Nat
  len1 : Nat
  start2 : Nat
  len2 : Nat
  rstart : Nat
  mode : Nat
  cgA : Nat
  cgB : Nat
  again : Nat
  burst : Bool
  rep : Nat
  gated : Bool
deriving DecidableEq, Repr

/-- EXP_TILE[t] in a register set (R67). -/
def entryOf (m : SMap Word) (t : Nat) : Entry :=
  let a := 0x040000 + 16 * t
  let w0 := (rget m a).toNat
  let w1 := (rget m (a + 4)).toNat
  let w2 := (rget m (a + 8)).toNat
  let c := rget m (a + 12)
  { start1 := w0 % 2 ^ 24, len1 := w0 / 2 ^ 24 + w1 % 65536 * 256,
    start2 := w1 / 65536 + w2 % 256 * 65536, len2 := w2 / 256,
    rstart := field c 0 20, mode := field c 20 2, cgA := field c 22 1, cgB := field c 23 1,
    again := field c 24 2, burst := decide (field c 26 1 = 1), rep := field c 27 2,
    gated := decide (field c 29 1 = 1) }

/-- The tiles whose control word is not its reset value: every other tile is OFF, without BURST. -/
def tileList (m : SMap Word) : List Nat :=
  m.filterMap (fun (a, _) =>
    if 0x040000 ≤ a ∧ a < 0x04C000 ∧ a % 16 = 12 then some ((a - 0x040000) / 16) else none)

/-- The exposures of an entry: exists, start, length, by number (R68). -/
def Entry.exposures (x : Entry) (burst : Bool) : List (Bool × Nat × Nat) :=
  let d := max (x.start2 - x.start1) x.len1
  [(decide (x.mode ≠ 0), x.start1, x.len1),
   (decide (x.mode = 3), x.start2, x.len2),
   (burst && decide (x.rep % 2 = 1), 16 * x.rstart, x.len1),
   (burst && decide (x.rep / 2 = 1),
     if x.rep = 3 then 16 * x.rstart + d else 16 * x.rstart, x.len2)]

/-- The node of exposure n: 0 SN-A, 1 SN-B (R68). -/
def expNode (mode n : Nat) : Nat :=
  match n with
  | 1 => if mode = 2 then 1 else 0
  | 3 => 0
  | _ => 1

/-- The stream delivers image data (R151). -/
def streamEn (m : SMap Word) (s : Nat) : Bool :=
  decide (field (rget m (0x060040 + 4 * s)) 31 1 = 1)

/-- The binning mode of a stream as delivered (R145, R146, R155).
DEDUCED (log 51). -/
def binOf (m : SMap Word) (therm s : Nat) : Nat :=
  let b := field (rget m (0x060040 + 4 * s)) 16 3
  let b := if 4 ≤ b ∨ field (rget m 0x070000) 6 1 = 1 then 0 else b
  if therm = 2 ∧ b = 0 ∧ s ≤ 1 ∧ streamEn m s = true then 1 else b

/-- Granularity of a binning mode (R142). -/
def binGran (b : Nat) : Nat :=
  match b with
  | 1 => 4
  | 2 => 8
  | _ => 2

/-- Reduction of a binning mode (R145). -/
def binFactor (b : Nat) : Nat :=
  match b with
  | 1 => 2
  | 2 => 4
  | 3 => 2
  | _ => 1

/-- The least multiple of `g` that is not below `v`. -/
def ceilTo (v g : Nat) : Nat := (v + g - 1) / g * g

/-- A normalised window (R142). -/
structure Win where
  x0 : Nat
  y0 : Nat
  x1 : Nat
  y1 : Nat
  empty : Bool
  clipped : Bool
deriving DecidableEq, Repr

/-- Window w of stream s, when it is enabled (R142).
DEDUCED (log 51). -/
def winOf (m : SMap Word) (therm s w : Nat) : Option Win :=
  if streamEn m s && decide (field (rget m (0x060040 + 4 * s)) w 1 = 1) then
    let xy := rget m (0x060100 + 0x80 * s + 8 * w)
    let wh := rget m (0x060104 + 0x80 * s + 8 * w)
    let X := field xy 0 16
    let Y := field xy 16 16
    let W := field wh 0 16
    let H := field wh 16 16
    let g := binGran (binOf m therm s)
    let x0 := X - X % g
    let y0 := Y - Y % g
    let x1 := min (ceilTo (X + W) g) 8192
    let y1 := min (ceilTo (Y + H) g) 6144
    let empty := decide (W = 0 ∨ H = 0 ∨ 8192 ≤ x0 ∨ 6144 ≤ y0)
    some { x0 := x0, y0 := y0, x1 := x1, y1 := y1, empty := empty,
           clipped := !empty && decide ((x0, y0, x1, y1) ≠ (X, Y, X + W, Y + H)) }
  else none

/-- The enabled windows of a stream that are not empty, ascending. -/
def liveWins (m : SMap Word) (therm s : Nat) : List (Nat × Win) :=
  (upto 16).filterMap (fun w =>
    match winOf m therm s w with
    | some x => if x.empty then none else some (w, x)
    | none => none)

/-- Tile-row j is configured (R131). -/
def rowConfigured (m : SMap Word) (burstTiles : List Nat) (j : Nat) : Bool :=
  (if j < 32 then decide (field (rget m 0x060004) j 1 = 1)
   else decide (field (rget m 0x060008) (j - 32) 1 = 1))
  || (liveWins m 0 0 ++ liveWins m 0 1).any (fun (_, x) => decide (x.y0 < 128 * (j + 1) ∧ 128 * j < x.y1))
  || burstTiles.any (fun t => decide (t / 64 = j))

/-- Bus counts of a row slot at a depth (R134). -/
def slotCounts (m : SMap Word) : Nat := if field (rget m 0x050000) 0 1 = 1 then 432 else 1200

/-- Tracking-need tile-rows admitted to the set, with those refused (R133).
DEDUCED (log 52). -/
def admitRows (tm limit : Nat) : List Nat → List Nat → List Nat → List Nat × List Nat
  | [], rows, refused => (rows, refused)
  | j :: t, rows, refused =>
    if rows.contains j then admitRows tm limit t rows refused
    else if 3000 + 32 * tm * (rows.length + 1) ≤ limit then admitRows tm limit t (rows ++ [j]) refused
    else admitRows tm limit t rows (if refused.contains j then refused else refused ++ [j])

/-- What the simulation of the passes carries (R138). -/
structure Sim where
  now : Nat
  lo : SMap Nat
  pend : List Nat
  passes : List Pass
deriving DecidableEq, Repr

/-- The ready time of a tile-row, when its main-pass read has an end (R138). -/
def readyAt (lo : SMap Nat) (wr : SMap Nat) (i : Nat) : Option Nat :=
  (look lo i).map (fun l => max (l + 64) (mget 0 wr i))

/-- The tile-rows of `pend` that are ready at a time. -/
def dueRows (x : Sim) (wr : SMap Nat) (at_ : Nat) : List Nat :=
  x.pend.filter (fun i => (readyAt x.lo wr i).any (fun r => decide (r ≤ at_)))

/-- A pass over some tile-rows. -/
def Sim.pass (x : Sim) (tb start : Nat) (rows : List Nat) : Sim :=
  { x with now := start + 32 * tb * rows.length,
           pend := x.pend.filter (fun i => !rows.contains i),
           passes := x.passes ++ [{ start := start, rows := rows, shed := false }] }

/-- The main pass, with the burst passes inserted in it (R138). -/
def simMain (tm tb mx : Nat) (wr : SMap Nat) : List Nat → Sim → Sim
  | [], x => x
  | j :: t, x =>
    let now := x.now + 32 * tm
    let x := { x with now := now, lo := put x.lo j now }
    let due := dueRows x wr now
    simMain tm tb mx wr t (if due ≠ [] ∧ x.passes.length + 1 < mx then x.pass tb now due else x)

/-- The burst passes after the main pass (R138). -/
def simAfter (tb mx : Nat) (wr : SMap Nat) : Nat → Sim → Sim
  | 0, x => x
  | n + 1, x =>
    match x.pend.filterMap (readyAt x.lo wr) with
    | [] => x
    | r :: rs =>
      if x.passes.length + 1 = mx then
        simAfter tb mx wr n (x.pass tb (max x.now (rs.foldl max r)) x.pend)
      else
        let start := max x.now (rs.foldl min r)
        simAfter tb mx wr n (x.pass tb start (dueRows x wr start))

/-- The tile-rows of a list of tiles, ascending. -/
def rowsOf (tiles : List Nat) : List Nat := (upto 48).filter (fun j => tiles.any (fun t => decide (t / 64 = j)))

/-- simulate of R138. -/
def simulate (tm tb mx : Nat) (rows tiles : List Nat) (wr : SMap Nat) : Sim :=
  let pend := rowsOf tiles
  let lo := (pend.filter (fun i => !rows.contains i)).foldl (fun m i => put m i 2250) []
  simAfter tb mx wr 48 (simMain tm tb mx wr rows { now := 3000, lo := lo, pend := pend, passes := [] })

/-- The shedding loop of R140: the simulation that fits, the tiles left, and the passes and tiles shed. -/
def shedLoop (tm tb mx obNeed limit : Nat) (rows : List Nat) (wr : SMap Nat) :
    Nat → List Nat → List Pass → List Nat → Sim × List Nat × List Pass × List Nat
  | 0, tiles, shed, gone => (simulate tm tb mx rows tiles wr, tiles, shed, gone)
  | n + 1, tiles, shed, gone =>
    let x := simulate tm tb mx rows tiles wr
    match x.passes.getLast? with
    | none => (x, tiles, shed, gone)
    | some p =>
      if x.now + obNeed ≤ limit then (x, tiles, shed, gone)
      else
        let out := fun t => p.rows.contains (t / 64)
        shedLoop tm tb mx obNeed limit rows wr n (tiles.filter (fun t => !out t))
          (shed ++ [{ p with shed := true }]) (gone ++ tiles.filter out)

/-- A tick without a plan, with the sequencer out of service or in T1 (R47).
DEDUCED (log 48). -/
def Plan.idle : Plan := State.resetPlan

/-- Burst tiles accepted and refused at a commit (R137). -/
def acceptTiles (m : SMap Word) : List Nat × List Nat :=
  let c := rget m 0x06000C
  let want := (tileList m).filter (fun t => (entryOf m t).burst)
  let fit := want.filter (fun t => ((entryOf m t).exposures true).any (fun e => e.1))
  let n := if field c 0 5 = 0 then 0 else min 256 (field c 16 9)
  let acc := fit.take n
  (acc, want.filter (fun t => !acc.contains t))

/-- The largest written end of exposures 1 and 2 of the burst tiles of each tile-row, in bus counts
(R138). -/
def writtenEnds (m : SMap Word) (tiles : List Nat) : SMap Nat :=
  tiles.foldl (fun w t =>
    ((((entryOf m t).exposures true).take 2).filter (fun e => e.1)).foldl (fun w (_, a, l) =>
      put w (t / 64) (max (mget 0 w (t / 64)) (32 * (a + l)))) w) []

/-- The configured tile-rows of a tick, from the settings of the edge before and its burst tiles. -/
def configuredRows (m : SMap Word) (burstTiles : List Nat) : List Nat :=
  (upto 48).filter (rowConfigured m burstTiles)

/-- The readout floor (R135). -/
def floorOf (tm nCfg : Nat) : Nat := 3000 + 32 * tm * nCfg + 30000

/-- plan of R140: settings of this edge and of the edge before, the configured tile-rows, the
tracking-need masks, a refresh due with its patience used up or not, and the limit of R134.  The passes are
those that run, in order, and then those shed, the last shed first as the loop removes them.
DESIGN CHOICE (log 172). -/
def makePlan (act prev : SMap Word) (first : Bool) (cfg subj feat : List Nat)
    (obDue obFirst : Bool) (limit : Nat) : Plan :=
  let tm := if first then slotCounts act else slotCounts prev
  let tb := slotCounts act
  let track := !first && decide (field (rget prev 0x060000) 0 1 = 1)
  let (rows, refusedRows) :=
    if track then admitRows tm limit (subj ++ feat) cfg [] else (cfg, [])
  let rows := (upto 48).filter (fun j => rows.contains j)
  let (acc, refused) := acceptTiles act
  let wr := writtenEnds act acc
  let mx := min 16 (field (rget act 0x06000C) 0 5)
  let (x, tiles, shed, gone) :=
    shedLoop tm tb mx (if obFirst then 8 * tm else 0) limit rows wr 17 acc [] []
  let obRun := obDue && decide (x.now + 8 * tm ≤ limit)
  { rows := rows, lo := x.lo, nCfg := cfg.length, passes := x.passes ++ shed, accepted := tiles,
    shedTiles := gone, refused := refused, needRefused := refusedRows, obRun := obRun,
    endAt := if obRun then x.now + 8 * tm else x.now, floor := floorOf tm cfg.length,
    floorRaised := false, made := true }

/-- Insertion of a block by its start. -/
def insertBlock (b : Block) : List Block → List Block
  | [] => [b]
  | c :: t => if b.start < c.start then b :: c :: t else c :: insertBlock b t

/-- The slots of a tick in the order they are read (R129, R138, R140). -/
def Plan.blocks (p : Plan) (tm tb : Nat) : List Block :=
  let main := p.rows.map (fun j =>
    { kind := 0, row := j, start := mget 0 p.lo j - 32 * tm, slotTime := tm, slots := 32, next := 0 })
  let burst := (p.passes.filter (fun q => !q.shed)).flatMap (fun q =>
    (q.rows.zipIdx).map (fun (x : Nat × Nat) =>
      { kind := 1, row := x.1, start := q.start + 32 * tb * x.2, slotTime := tb, slots := 32, next := 0 }))
  let ob := if p.obRun then
    [{ kind := 2, row := 48, start := p.endAt - 8 * tm, slotTime := tm, slots := 8, next := 0 }] else []
  (main ++ burst ++ ob).foldl (fun l b => insertBlock b l) []

/-- The end of the main-pass read of a tile-row, or E + 3 µs (R71). -/
def Plan.loOf (p : Plan) (j : Nat) : Nat := if p.rows.contains j then mget 2250 p.lo j else 2250

/-- B0 and B1 of a tile-row in the burst passes that run (R138), in bus counts. -/
def Plan.burstOf (p : Plan) (tb j : Nat) : Option (Nat × Nat) :=
  match p.passes.find? (fun q => !q.shed && q.rows.contains j) with
  | some q =>
    let i := (q.rows.filter (fun r => decide (r < j))).length
    some (q.start + 32 * tb * i, q.start + 32 * tb * (i + 1))
  | none => none

/-- A set of tile-rows as a mask. -/
def rowMask (rows : List Nat) : Nat := (rows.map (fun j => 2 ^ j)).sum

end Sys2Proof.Machine
end

