-- ==== Sys2Proof/Machine/Exposure.lean ====
section
/-!
DEFINITION. Exposure timing and the commit rule (R39 to R101): clipping, brackets, the period of a
tick, TRIG1 gating, the storage nodes and timecode.
-/

namespace Sys2Proof.Machine

/-- The largest time of the exposure map, in EQ (R66). -/
def eqMax : Nat := 16777215

/-- place of R72: the placed start and length, and whether the exposure was altered. -/
def place (start len sMin lo hi : Int) : Option (Int × Int × Bool) :=
  let (len, c) := if len < 1 then (1, true) else (len, false)
  let (start, c) := if start < sMin then (sMin, true) else (start, c)
  let (start, c) := if start + len < lo then (lo - len, true) else (start, c)
  let (start, len, c) :=
    if hi < start + len then
      (if hi - len < sMin then (sMin, hi - sMin, true) else (hi - len, len, true))
    else (start, len, c)
  if len < 1 ∨ hi < lo then none else some (start, len, c)

/-- An exposure that an entry does not define. -/
def Expo.none : Expo :=
  { exists_ := false, start := 0, len := 0, dropped := false, started := false, done := false }

/-- clip_tile of R72 on a list of exposures with their bounds: the exposures as applied, and how
many were altered and placed. -/
def clipList : List ((Bool × Nat × Nat) × Int × Int) → Int → List Expo × Nat
  | [], _ => ([], 0)
  | ((false, _, _), _, _) :: t, sMin =>
    let (l, n) := clipList t sMin
    (Expo.none :: l, n)
  | ((true, a, len), lo, hi) :: t, sMin =>
    match place a len sMin lo hi with
    | some (b, m, c) =>
      let (l, n) := clipList t (b + m)
      ({ exists_ := true, start := b.toNat, len := m.toNat, dropped := false, started := false,
         done := false } :: l, if c then n + 1 else n)
    | none =>
      let (l, n) := clipList t sMin
      ({ exists_ := true, start := a, len := len, dropped := true, started := false, done := false } :: l, n)

/-- A tile that is OFF. -/
def TileExp.off : TileExp :=
  { exps := [], clipped := false, gate := none, gateEmpty := false, blockedA := false,
    blockedB := false, burst := 0 }

/-- Exposure n (1 to 4) of a tile. -/
def TileExp.exp (x : TileExp) (n : Nat) : Expo := if n = 0 then Expo.none else x.exps.getD (n - 1) Expo.none

/-- A tile with exposure n replaced. -/
def TileExp.setExp (x : TileExp) (n : Nat) (e : Expo) : TileExp :=
  { x with exps := x.exps.set (n - 1) e }

/-- The code of a tile in the BURST field of its flags (R179). -/
def Plan.burstCode (p : Plan) (t : Nat) : Nat :=
  if p.accepted.contains t then 1 else if p.shedTiles.contains t then 2
  else if p.refused.contains t then 3 else 0

/-- The clipped entry of a tile, from the plan of its tick (R66, R71, R72): the tile, the exposures
clipped, and the exposures left out. -/
def clipTile (act : SMap Word) (p : Plan) (t limitT : Nat) : TileExp × Nat × Nat :=
  let x := entryOf act t
  let b := p.burstOf (slotCounts act) (t / 64)
  let inEffect := p.accepted.contains t
  let lo : Int := (ceilDiv (p.loOf (t / 64)) 32 : Nat)
  let hi : Int := (min eqMax ((limitT - 1500) / 32) : Nat)
  let b0 : Int := ((b.map (fun q => q.1 / 32)).getD 0 : Nat)
  let b1 : Int := ((b.map (fun q => ceilDiv q.2 32)).getD 0 : Nat)
  let top := if inEffect then min (eqMax : Int) b0 else hi
  let bounds : List (Int × Int) := [(lo, top), (lo, top), (b1, hi), (b1, hi)]
  let (l, n) := clipList ((x.exposures inEffect).zip bounds) 0
  let l := if l.any (fun e => e.exists_) then l else []
  ({ TileExp.off with exps := l, clipped := decide (0 < n), burst := p.burstCode t }, n,
   (l.filter (fun e => e.dropped)).length)

/-- Every tile of a commit, clipped, with the two counts (R73). -/
def clipAll (act : SMap Word) (p : Plan) (limitT : Nat) : SMap TileExp × Nat × Nat :=
  (tileList act).foldl (fun (acc : SMap TileExp × Nat × Nat) t =>
    let (x, n, d) := clipTile act p t limitT
    (mput TileExp.off acc.1 t x, acc.2.1 + n, acc.2.2 + d)) ([], 0, 0)

/-- The staging set of a source. -/
def Regs.staged (r : Regs) : Src → Option (List (Nat × Word × Word))
  | .nlk => r.stgNlk
  | .mgb => r.stgMgb
  | .shp => r.stgShp

/-- The staging set of a source replaced, with its commits counted again. -/
def Regs.setStaged (r : Regs) (src : Src) (g : Option (List (Nat × Word × Word))) (n : Nat) : Regs :=
  match src with
  | .nlk => { r with stgNlk := g, cntNlk := n }
  | .mgb => { r with stgMgb := g, cntMgb := n }
  | .shp => { r with stgShp := g, cntShp := n }

/-- TB at which the open bracket of a source was opened (R88). -/
def Regs.opened (r : Regs) : Src → Nat
  | .nlk => r.opNlk
  | .mgb => r.opMgb
  | .shp => r.opShp

/-- A bracket of a source opens: its staging set is empty (R88). -/
def Regs.open_ (r : Regs) (src : Src) (tb : Nat) : Regs :=
  match src with
  | .nlk => { r.setStaged .nlk (some []) 0 with opNlk := tb }
  | .mgb => { r.setStaged .mgb (some []) 0 with opMgb := tb }
  | .shp => { r.setStaged .shp (some []) 0 with opShp := tb }

/-- The open bracket of a source ends, by CLOSE or ABORT (R88). -/
def Regs.end_ (r : Regs) (src : Src) (tb : Nat) : Regs :=
  { r.setStaged src none 0 with shut := { src := src, opened := r.opened src, ended := tb } :: r.shut }

/-- Commits inside the bracket of a source. -/
def Regs.commits (r : Regs) : Src → Nat
  | .nlk => r.cntNlk
  | .mgb => r.cntMgb
  | .shp => r.cntShp

/-- The number of a source in a log entry (R590). -/
def srcCode : Src → Nat
  | .nlk => 0
  | .mgb => 1
  | .shp => 2

/-- Some bits of a register written. -/
def maskWrite (m : SMap Word) (a : Nat) (mask v : Word) : SMap Word :=
  rput m a ((rget m a &&& ~~~mask) ||| (v &&& mask))

/-- Some bits of a word land in the shadow in this bus cycle, with the word before (R85, R89). -/
def landWord (s : State) (x : Nat × Word × Word) : State :=
  { s with regs := { s.regs with
    cur := maskWrite s.regs.cur x.1 x.2.1 x.2.2,
    landed := { tb := s.time.tb, addr := x.1, mask := x.2.1, old := s.cur x.1 } :: s.regs.landed } }

/-- The words of a staging set land in the shadow, in one step, and the CLOSE itself (R86, R89). -/
def landSet (s : State) (g : List (Nat × Word × Word)) : State :=
  g.foldl landWord { s with regs := { s.regs with
    landed := { tb := s.time.tb, addr := 0x04C100, mask := 0, old := 0 } :: s.regs.landed } }

/-- A word put into a staging set: it replaces the staged value of the word (R86). -/
def stageWord (g : List (Nat × Word × Word)) (a : Nat) (mask v : Word) : List (Nat × Word × Word) :=
  g.filter (fun x => decide (x.1 ≠ a)) ++ [(a, mask, v)]

/-- The Shepherd bracket of an AE run is aborted: the run ends at once without a CLOSE, and every
commanded value stands (R222). -/
def aeStop (s : State) : State :=
  if s.ae.running.isSome then
    bump { s with ae := { s.ae with running := none, newCmd := [] } } 0x0A0088
  else s

/-- The bracket of a source is discarded and counted (R88). -/
def abortBracket (s : State) (src : Src) : State :=
  let s := bump { s with regs := s.regs.end_ src s.time.tb } 0x04C12C
  if src = .shp then aeStop s else s

/-- A write to EXP_SET (R88, R94). -/
def expSet (s : State) (src : Src) (v : Word) : State :=
  let misuse := bump s 0x04C130
  match field v 0 3, s.regs.staged src with
  | 0, _ => s
  | 1, none => { s with regs := s.regs.open_ src s.time.tb }
  | 2, some g => landSet { s with regs := s.regs.end_ src s.time.tb } g
  | 4, some _ => abortBracket s src
  | _, _ => misuse

/-- EXP_SET_OPEN (R88). -/
def execExpSetOpen (src : Src) (s : State) : Host.Outcome State Fault Refusal :=
  .next (whenReg s fun s => expSet s src 1)

/-- EXP_SET_CLOSE (R88). -/
def execExpSetClose (src : Src) (s : State) : Host.Outcome State Fault Refusal :=
  .next (whenReg s fun s => expSet s src 2)

/-- EXP_SET_ABORT (R88). -/
def execExpSetAbort (src : Src) (s : State) : Host.Outcome State Fault Refusal :=
  .next (whenReg s fun s => expSet s src 4)

/-- BRACKET_MAX (R95). -/
def bracketMax (s : State) : Nat := orIf (s.fc 0x04C108 0 8) 1

/-- A bracket of a source was open at the end of the bus cycle before an edge and has ended since (R85, R88). -/
def Regs.shutLate (r : Regs) (src : Src) (at_ : Nat) : Bool :=
  r.shut.any (fun x => decide (x.src = src ∧ x.opened < at_ ∧ at_ ≤ x.ended))

/-- A commit inside the bracket of a source, as it stood at the end of the bus cycle before the edge (R85, R88): its
deferral bit, counted. -/
def deferOne (at_ : Nat) (s : State) (src : Src) : Bool × State :=
  match s.regs.staged src with
  | none => if s.regs.shutLate src at_ then (true, bump s 0x04C128) else (false, s)
  | some g =>
    if s.regs.opened src < at_ then
      (true, bump { s with regs := s.regs.setStaged src (some g) (s.regs.commits src + 1) } 0x04C128)
    else if s.regs.shutLate src at_ then (true, bump s 0x04C128) else (false, s)

/-- What has landed in the cycle of an edge or later, newest first (R85). -/
def Regs.late (r : Regs) (at_ : Nat) : List Landing := r.landed.filter (fun x => decide (at_ ≤ x.tb))

/-- The shadow as it stood at the end of the bus cycle before an edge (R85): without what has landed since. -/
def Regs.shadowAt (r : Regs) (at_ : Nat) : SMap Word :=
  (r.late at_).foldl (fun m x => maskWrite m x.addr x.mask x.old) r.cur

/-- The settings ID of the frame that an edge opens (R89): it advances when something had landed by the end of the bus
cycle before. -/
def Regs.nextId (r : Regs) (at_ : Nat) : Nat :=
  if r.landed.any (fun x => decide (x.tb < at_)) then (r.settingsId + 1) % 65536 else r.settingsId

/-- The commit of an edge (R85): every shadow value becomes the active value, as it stood at the end of the bus cycle
before, and the active values of the frame before govern the frame now read.
DEDUCED (log 160). -/
def commitRegs (s : State) (first : Bool) (at_ : Nat) : State :=
  { s with regs := { s.regs with
    prev := s.regs.act, act := s.regs.shadowAt at_, landed := s.regs.late at_,
    shut := s.regs.shut.filter (fun x => decide (at_ ≤ x.ended)),
    prevId := s.regs.settingsId, settingsId := if first then 1 else s.regs.nextId at_ } }

/-- The period of a tick and the GENLOCK flags at its opening edge. -/
structure Period where
  t : Nat
  cmp : Nat
  clip : Bool
  hold : Bool
  slew : Bool
  range : Bool
  wait : Bool
deriving DecidableEq, Repr

/-- The mode that MODE_ACTIVE and the Collar give for the next edge.
DEDUCED (log 49). -/
def tickMode (s : State) : Nat := if s.sys.tier ≤ 1 then 0 else trigMode s

/-- The period that opens at E in GENLOCK mode (R77, R78), with T_min, the FREE period and the period
of the tick before. -/
def genlockPeriod (s : State) (e tmin free last : Nat) (first : Bool) : Period :=
  let known := s.clk.period16.isSome && decide (s.clk.pulse16 ≠ s.time.glMark)
  match s.clk.pulse16, s.clk.period16, known with
  | some p16, some per16, true =>
    let r := clamp 1 16 (orIf (s.fa 0x04C210 0 5) 1)
    let base := (roundDiv per16 (16 * r)).toNat
    let bad := decide (per16 < 16 * 375000 ∨ 16 * countsPerSec < per16 ∨ per16 < 16 * r * tmin)
    let regained := s.time.glWait || (s.time.glHold && glLocked s)
    if bad then
      let t := if first then free else max tmin last
      { t := t, cmp := e + t, clip := decide ((if first then tickInterval s else last) < tmin), hold := true,
        slew := false, range := true, wait := false }
    else if s.time.glHold && !regained then
      { t := max tmin last, cmp := e + max tmin last, clip := decide (last < tmin), hold := true,
        slew := false, range := false, wait := false }
    else
      let phi := min (s.fa 0x04C210 8 24) (base - 1)
      let x : Int := 16 * ((e : Int) + base - phi) - p16
      let n := roundDiv (x * r) per16
      let target := roundDiv p16 16 + phi + roundDiv (n * per16) (16 * r)
      let err := target - ((e : Int) + base)
      let lim : Int := max 1 (base / 1000)
      let slewing := regained || s.time.glSlew
      let adj := if slewing then clampI (-lim) lim err else err
      let want := ((base : Int) + adj).toNat
      { t := max tmin want, cmp := e + max tmin want, clip := decide (want < tmin), hold := false,
        slew := slewing && decide (adj ≠ err), range := false, wait := false }
  | _, _, _ =>
    { t := free, cmp := e + free, clip := false, hold := true, slew := false, range := false, wait := true }

/-- The period of the tick that opens at E (R75, R76, R80, R429, R430). -/
def periodAt (s : State) (e tmin last : Nat) (first : Bool) : Period :=
  let interval := tickInterval s
  let free := min (max interval tmin) countsPerSec
  match edgeKind s with
  | 0 => { t := free, cmp := e + free, clip := decide (interval < tmin), hold := false, slew := false,
           range := false, wait := false }
  | 1 =>
    let p := genlockPeriod s e tmin free last first
    if p.wait then { p with clip := decide (interval < tmin) } else p
  | _ => { t := tmin, cmp := e + max tmin (s.act 0x04C208).toNat, clip := false, hold := false,
           slew := false, range := false, wait := false }

/-- T_min as stored, within its limits (R75). -/
def tminSet (s : State) : Nat := clamp 375000 countsPerSec (s.act 0x04C204).toNat

/-- The TRIG1 level at an instant, by its changes (R81). -/
def levelAt (hist : List (Nat × Bool)) (at_ : Nat) : Bool :=
  match (hist.filter (fun h => decide (h.1 ≤ at_))).getLast? with
  | some h => h.2
  | none => false

/-- The first EQ boundary from `a` to before `b` at which the TRIG1 level is `want`; `hist` holds the
changes, oldest first, and times are EQ after E. -/
def firstAt (e : Nat) (hist : List (Nat × Bool)) (want : Bool) (a b : Nat) : Option Nat :=
  let cands := a :: hist.map (fun h => max a (ceilDiv (h.1 - e) 32))
  let good := cands.filter (fun n => decide (n < b) && (levelAt hist (e + 32 * n) == want))
  match good with
  | [] => none
  | x :: t => some (t.foldl min x)

/-- The active level of TRIG1 under the committed polarity (R81). -/
def trig1Want (s : State) : Bool := decide (s.fa 0x04C200 3 1 = 0)

/-- The gated interval of a window in EQ (R81): start and length.
DEDUCED (log 58). -/
def gateOf (s : State) (a b : Nat) : Option (Nat × Nat) :=
  let e := s.time.e
  match firstAt e s.img.hist (trig1Want s) a b with
  | none => none
  | some x => some (x, (firstAt e s.img.hist (!trig1Want s) x b).getD b - x)

/-- An empty storage node. -/
def Node.empty : Node := { phase := .empty, frame := 0, n := 0 }

/-- The storage node of a tile: 0 SN-A, 1 SN-B. -/
def State.node (s : State) (t n : Nat) : Node := mget Node.empty s.img.nodes (2 * t + n)

/-- A storage node changed. -/
def setNode (s : State) (t n : Nat) (x : Node) : State :=
  { s with img := { s.img with nodes := mput Node.empty s.img.nodes (2 * t + n) x } }

/-- A tile of the frame now exposing. -/
def State.tile (s : State) (t : Nat) : TileExp := mget TileExp.off s.img.cur.tiles t

/-- A tile of the frame now exposing changed. -/
def setTile (s : State) (t : Nat) (x : TileExp) : State :=
  { s with img := { s.img with cur := { s.img.cur with tiles := mput TileExp.off s.img.cur.tiles t x } } }

/-- Exposure n of the tile is gated by TRIG1 (R81, R82). -/
def isGated (s : State) (t n : Nat) : Bool :=
  decide (n = 1 ∧ trigMode s = 3) && (entryOf s.regs.act t).gated

/-- EXPOSURE_START (R39, R81): the drain gate is released at the scheduled boundary. -/
def execExposureStart (t n : Nat) (s : State) : Host.Outcome State Fault Refusal :=
  .next (whenTick s fun s =>
    let x := s.tile t
    let e := x.exp n
    if e.exists_ = true ∧ e.dropped = false ∧ e.started = false ∧ e.done = false then
      if isGated s t n then
        match firstAt s.time.e s.img.hist (trig1Want s) e.start (e.start + e.len) with
        | none => s
        | some a => setTile (reach s (s.time.e + 32 * a)) t (x.setExp n { e with started := true })
      else setTile (reach s (s.time.e + 32 * e.start)) t (x.setExp n { e with started := true })
    else s)

/-- A transfer pulse into a node (R45, R46): suppressed when the node holds charge. -/
def pulseNode (s : State) (t n : Nat) : State :=
  let node := expNode (entryOf s.regs.act t).mode n
  match (s.node t node).phase with
  | .empty => setNode s t node { phase := .held, frame := s.time.k, n := n }
  | _ =>
    let x := s.tile t
    setTile (bump s 0x04C010) t
      (if node = 0 then { x with blockedA := true } else { x with blockedB := true })

/-- TRANSFER (R45, R46, R81, R82): the falling edge of the pulse is the scheduled end; a gated exposure
without an active interval makes no pulse. -/
def execTransfer (t n : Nat) (s : State) : Host.Outcome State Fault Refusal :=
  .next (whenTick s fun s =>
    let x := s.tile t
    let e := x.exp n
    if e.exists_ = true ∧ e.dropped = false ∧ e.done = false then
      let s := reach s (s.time.e + 32 * (e.start + e.len))
      let x := x.setExp n { e with started := true, done := true }
      if isGated s t n then
        match gateOf s e.start (e.start + e.len) with
        | some g => pulseNode (setTile s t { x with gate := some g }) t n
        | none =>
          let s := if s.img.gateMiss then s else bump s 0x04C228
          setTile { s with img := { s.img with gateMiss := true } } t { x with gateEmpty := true }
      else pulseNode (setTile s t x) t n
    else s)

/-- TILE_ROW_FLUSH (R47, R114): the nodes of every tile-row that the main pass skips are emptied, all
of them without a plan; those of the OB rows too, from E + 3 µs, in a tick with an optical-black pass and in
every tick that opened without a plan. -/
def execTileRowFlush (s : State) : Host.Outcome State Fault Refusal :=
  .next (whenTick s fun s =>
    if s.img.flushed then s
    else
      let s := reach s (s.time.e + 2250)
      let keep := s.img.nodes.filter (fun (i, _) => s.img.cur.plan.rows.contains (i / 128))
      let ob := s.img.cur.plan.obRun || !s.img.cur.plan.made
      { s with
        img := { s.img with nodes := keep, flushed := true },
        cnv := { s.cnv with obClear := if ob then s.time.e + 2250 else s.cnv.obClear } })

/-- The path delay of a trigger pin with its filter (R79, R81): filter + 24 ± 1 bus counts.
DESIGN CHOICE (log 168). -/
def trigDelay (filt slip : Nat) : Nat := filt + 23 + min slip 2

/-- TRIG1_LEVEL_CHANGE (R81): the pin changes and stays; the filtered level follows after the path delay,
with the filter that stands at the change. -/
def execTrig1LevelChange (at_ : Nat) (level : PinLevel) (s : State) : Host.Outcome State Fault Refusal :=
  .next (whenAwake s fun s =>
    let s := reach s at_
    let filt := s.fc 0x04C20C 16 10
    if s.img.trig1 = level.high ∨ level.held < filt then s
    else { s with img := { s.img with
      trig1 := level.high, hist := s.img.hist ++ [(s.time.tb + trigDelay filt level.slip, level.high)] } })

/-- The nominal rate whose word period lies nearest to a period, the slower of two as near (R83).
DESIGN CHOICE (log 215). -/
def nearestRate (p : Nat) : Nat :=
  let d := fun (q : Nat) => if p < q then q - p else p - q
  if d 31250000 ≤ d 30000000 ∧ d 31250000 ≤ d 25000000 then 1
  else if d 30000000 ≤ d 25000000 then 2 else 3

/-- The LTC frame period of a rate (R83). -/
def ratePeriod (r : Nat) : Nat :=
  match r with
  | 1 => 31250000
  | 2 => 30000000
  | _ => 25000000

/-- LTC_WORD (R83): a complete word is kept and its own period gives its nominal rate; two in a row that
agree give the rate in use; a bad one is discarded and counted.  A detected rate is kept while RATE is set
or the decoder is off, and is in use again afterwards.  A word read outright counts at any speed.
DEDUCED (log 56). DESIGN CHOICE (log 169). DESIGN CHOICE (log 213). -/
def execLtcWord (at_ : Nat) (word : LtcRx) (ok : Bool) (s : State) : Host.Outcome State Fault Refusal :=
  .next (whenAwake s fun s =>
    let s := reach s at_
    let tc := s.img.tc
    if s.fc 0x04C300 0 1 = 0 then s
    else if ok then
      let now := nearestRate word.period
      let rate := if s.fc 0x04C300 1 2 = 0 ∧ now = tc.lastRate then now else tc.rate
      { s with img := { s.img with tc := { word := some (word.bits.toNat, at_), lastRate := now, rate := rate } } }
    else bump { s with img := { s.img with tc := { tc with lastRate := 0 } } } 0x04C310)

/-- The timecode at an edge (R84): word, age and validity, in the frame and in the registers; the age
saturates at 32 bits.
DESIGN CHOICE (log 170). -/
def stampTc (s : State) (e : Nat) : State :=
  let r := ltcRate s
  let (w, age, ok) := match s.img.tc.word with
    | some (w, t) =>
      (w, e - t, decide (s.fc 0x04C300 0 1 = 1 ∧ r ≠ 0 ∧ 2 * (e - t) ≤ 3 * ratePeriod r))
    | none => (0, 0, false)
  let age := min 0xFFFFFFFF age
  let s := setRegN (setRegN (setRegN s 0x04C304 (half w 0)) 0x04C308 (half w 1)) 0x04C30C age
  let s := setFld s 0x04C214 6 1 (bit ok)
  { s with img := { s.img with cur := { s.img.cur with tcWord := w, tcAge := age, tcValid := ok } } }

/-- BRACKET_MAX_ABORT (R88): a bracket that the BRACKET_MAX-th commit has met is discarded.
DEDUCED (log 46). DEDUCED (log 47). -/
def execBracketMaxAbort (src : Src) (s : State) : Host.Outcome State Fault Refusal :=
  .next (whenAwake s fun s =>
    if (s.regs.staged src).isSome ∧ bracketMax s ≤ s.regs.commits src then
      logReg (abortBracket s src) 0x02 1 0x04C12C (srcCode src) 0
    else s)

end Sys2Proof.Machine
end

