-- ==== Sys2Proof/Machine/Pipe.lean ====
section
/-!
DEFINITION. From latches to pixel values (R103 to R109, R112, R120) and the eight stages of the image
pipeline with the output formats (R155 to R171).  Values are integers in 1/16 of their unit.
-/

namespace Sys2Proof.Machine

/-- The binary count of a 13-bit Gray code (R103): the exclusive or of all its right shifts. -/
def grayDecode (g : Nat) : Nat := (upto 13).foldl (fun b i => b ^^^ (g % 8192 / 2 ^ i)) 0

/-- The code of a comparator (R106, R107): `ten` is the 10-bit depth. -/
def cdsCode (ten : Bool) (ped : Nat) (reset signal : Option Nat) : Nat :=
  let top := if ten then 1023 else 4095
  match reset with
  | none => top
  | some r =>
    let cr : Int := grayDecode r
    let cs : Int := match signal with
      | some g => grayDecode g
      | none => if ten then 1567 else 4639
    (clampI 0 top (cs - cr - 448 + ped)).toNat

/-- The latches of a comparator in a slot: reset and signal. -/
def slotLatches (c : SlotCap) (bank col node : Nat) : Option Nat × Option Nat :=
  match c.caps.find? (fun x => decide (x.row = bank ∧ x.col = col ∧ x.node = node)) with
  | some x => (x.reset, x.signal)
  | none => (c.reset, c.signal)

/-- Forced reset latches of a slot, over 8,256 columns, four banks and two nodes (R107). -/
def slotForced (c : SlotCap) : Nat :=
  let listed : List (Nat × Nat × Nat) :=
    ((c.caps.map (fun (x : Capture) => (x.row, x.col, x.node))).eraseDups).filter
      (fun x => decide (x.1 < 4 ∧ x.2.1 < 8256 ∧ x.2.2 < 2))
  let own := (listed.filter (fun x => (slotLatches c x.1 x.2.1 x.2.2).1.isNone)).length
  own + (if c.reset.isNone then 66048 - listed.length else 0)

/-- One read of the array: its latches by row / 4, the settings of its frame, its tile-rows in order,
and the calibration in effect. -/
structure ReadCtx where
  caps : SMap SlotCap
  set : SMap Word
  rows : List Nat
  ten : Bool
  cnv : Cnv
  defects : SMap Nat

/-- The pedestal of a read (R106). -/
def ReadCtx.ped (c : ReadCtx) : Nat :=
  let w := rget c.set 0x050004
  if c.ten then field w 16 10 else field w 0 12

/-- The greatest code of a read. -/
def ReadCtx.top (c : ReadCtx) : Nat := if c.ten then 1023 else 4095

/-- Stage n is bypassed (R155). -/
def ReadCtx.off (c : ReadCtx) (n : Nat) : Bool := decide (field (rget c.set 0x070000) (n - 1) 1 = 1)

/-- The converter code of a pixel or OB column, before substitution; free in a row not read yet.
DESIGN CHOICE (log 190). -/
def ReadCtx.rawCode (c : ReadCtx) (y x node : Nat) : Nat :=
  match look c.caps (y / 4) with
  | some cap =>
    let l := slotLatches cap (y % 4) x node
    cdsCode c.ten c.ped l.1 l.2
  | none => Config.unreadCode y x node % (c.top + 1)

/-- The converter of a column in a bank is unrepaired. -/
def ReadCtx.bad (c : ReadCtx) (y x : Nat) : Bool := c.cnv.unrepaired.contains (8256 * (y % 4) + x)

/-- The converter code of a pixel, with substitution (R120); its own code where neither neighbour serves.
DESIGN CHOICE (log 205). -/
def ReadCtx.code (c : ReadCtx) (y x node : Nat) : Nat :=
  if c.bad y x && decide (x < 8192) then
    let left := decide (2 ≤ x) && !c.bad y (x - 2)
    let right := decide (x + 2 < 8192) && !c.bad y (x + 2)
    match left, right with
    | true, true => (c.rawCode y (x - 2) node + c.rawCode y (x + 2) node) / 2
    | true, false => c.rawCode y (x - 2) node
    | false, true => c.rawCode y (x + 2) node
    | false, false => c.rawCode y x node
  else c.rawCode y x node

/-- The rows of the pass up to a row, newest first, at most `n` (R158). -/
def ReadCtx.recent (c : ReadCtx) (y n : Nat) : List Nat :=
  let prior := (c.rows.filter (fun j => decide (j < y / 128))).flatMap (fun j => rangeFrom (128 * j) 128)
  ((prior ++ rangeFrom (128 * (y / 128)) (y % 128 + 1)).reverse).take n

/-- The gain code and conversion gain (0 HCG, 1 LCG) at which a node of a tile is read. -/
def gainOf (set : SMap Word) (t node : Nat) : Nat × Nat :=
  let x := entryOf set t
  (x.again, if node = 0 then x.cgA else x.cgB)

/-- The tile of a pixel (R56). -/
def tileAt (y x : Nat) : Nat := 64 * (y / 128) + x / 128

/-- Stage 1 (R158): code less the black reference, or less PED where no converter of the gain block works.
DESIGN CHOICE (log 171). -/
def ReadCtx.v1 (c : ReadCtx) (y x node : Nat) : Int :=
  let k := c.code y x node
  let (a, cg) := gainOf c.set (tileAt y x) node
  let rows := c.recent y (2 ^ min 5 (field (rget c.set 0x070004) 0 3))
  let cells := rows.flatMap (fun r =>
    ((rangeFrom (8192 + 16 * a) 16).filter (fun q => !c.bad r q)).map (fun q => c.rawCode r q cg))
  if c.off 1 || cells.isEmpty then 16 * ((k : Int) - c.ped)
  else roundDiv (16 * ((k : Int) * cells.length - (cells.sum : Nat))) cells.length

/-- The number of an offset-table entry (R112). -/
def offEntry (a bank x line : Nat) : Nat := ((4 * a + bank) * 8192 + x) * 2 + line

/-- The value of an offset-table entry in 1/16 DN. -/
def Cnv.entry (v : Cnv) (i : Nat) : Int := if v.zeroed.contains i then 0 else sgn 16 (mget 0 v.offs i)

/-- The sum of the entries of one gain, bank and line, as they took effect (R159). -/
def Cnv.sum (v : Cnv) (a bank line : Nat) : Int :=
  ((v.offs.filter (fun p => decide (p.1 % 2 = line ∧ p.1 / 16384 = 4 * a + bank))).map
    (fun p => sgn 16 p.2)).sum

/-- Stage 2 (R159): the column offset less its mean.
DEDUCED (log 72). -/
def ReadCtx.v2 (c : ReadCtx) (y x node : Nat) : Int :=
  let v := c.v1 y x node
  if c.off 2 then v
  else
    let (a, _) := gainOf c.set (tileAt y x) node
    let e := c.cnv.entry (offEntry a (y % 4) x node)
    let m := c.cnv.sum a (y % 4) node
    let q : Int := if c.ten then 4 else 1
    roundDiv (v * 8192 * q - (8192 * e - m)) (8192 * q)

/-- A pixel can serve as a neighbour (R161): inside the array, in a tile-row that the pass reads, and not in
the list. -/
def ReadCtx.usable (c : ReadCtx) (y x : Int) : Bool :=
  decide (0 ≤ x ∧ x < 8192 ∧ 0 ≤ y ∧ y < 6144) && c.rows.contains (y.toNat / 128)
    && (look c.defects (8192 * y.toNat + x.toNat)).isNone

/-- The neighbours of a METHOD (R160). -/
def methodCells (m : Nat) (y x : Int) : List (Int × Int) :=
  match m with
  | 0 => [(y, x - 2), (y, x + 2)]
  | 1 => [(y - 2, x), (y + 2, x)]
  | _ => [(y, x - 2), (y, x + 2), (y - 2, x), (y + 2, x)]

/-- Insertion into an ascending list. -/
def insertInt (v : Int) : List Int → List Int
  | [] => [v]
  | a :: t => if v ≤ a then v :: a :: t else a :: insertInt v t

/-- The median of a list: the mean of the middle two for an even count.
DESIGN CHOICE (log 68). -/
def medianOf (l : List Int) : Int :=
  let s := l.foldr insertInt []
  let n := s.length
  if n % 2 = 1 then s.getD (n / 2) 0 else roundDiv (s.getD (n / 2 - 1) 0 + s.getD (n / 2) 0) 2

/-- The correction of a listed pixel on a node; none when no neighbour remains (R161). -/
def ReadCtx.fixed (c : ReadCtx) (m y x node : Nat) : Option Int :=
  let vs := ((methodCells m y x).filter (fun p => c.usable p.1 p.2)).map
    (fun p => c.v2 p.1.toNat p.2.toNat node)
  if vs.isEmpty then none
  else if m = 3 then some (medianOf vs) else some (roundDiv vs.sum vs.length)

/-- Stage 3 uses the list (R155, R183). -/
def ReadCtx.dpc (c : ReadCtx) : Bool := !c.off 3 && decide (field (rget c.set 0x070008) 0 1 = 1)

/-- Stage 3 (R161). -/
def ReadCtx.v3 (c : ReadCtx) (y x node : Nat) : Int :=
  match look c.defects (8192 * y + x), c.dpc with
  | some m, true => (c.fixed m y x node).getD (c.v2 y x node)
  | _, _ => c.v2 y x node

/-- Listed pixels of a tile-row left uncorrected, each with its node (R161). -/
def ReadCtx.unfixed (c : ReadCtx) (j : Nat) : List (Nat × Nat) :=
  if c.dpc then
    (c.defects.filter (fun p => decide (p.1 / 8192 / 128 = j))).flatMap (fun p =>
      ([0, 1].filter (fun n => (c.fixed p.2 (p.1 / 8192) (p.1 % 8192) n).isNone)).map (fun n => (p.1, n)))
  else []

/-- The governing read of a tile (R162): the read, its entry, what each node holds with the length of
that exposure, and whether the burst read governs. -/
structure Gov where
  ctx : ReadCtx
  entry : Entry
  holdA : Option Nat
  holdB : Option Nat
  subst : Bool

/-- The sensitivity of a node that holds an exposure of some length, over 1/4,096 (R162). -/
def Gov.sens (g : Gov) (node len : Nat) : Nat :=
  let cg := if node = 0 then g.entry.cgA else g.entry.cgB
  let ratio := orIf (field (rget g.ctx.set 0x070010) 0 16) 0x1000
  len * 2 ^ g.entry.again * (if cg = 0 then ratio else 4096)

/-- No node of the governing read holds an exposure. -/
def Gov.nothing (g : Gov) : Bool := g.holdA.isNone && g.holdB.isNone

/-- The value of a node at stage 3, at 12-bit scale. -/
def Gov.v (g : Gov) (y x node : Nat) : Int := (if g.ctx.ten then 4 else 1) * g.ctx.v3 y x node

/-- A node is saturated for the statistics (R172). -/
def Gov.sat (g : Gov) (y x node : Nat) : Bool :=
  decide (g.ctx.code y x node = g.ctx.top) ||
    decide (16 * ((field (rget g.ctx.set 0x080004) 0 12 : Nat) : Int)
      ≤ (if g.ctx.ten then 4 else 1) * g.ctx.v2 y x node)

/-- Stage 4 (R163): the merged value, the sensitivity used, and whether the pixel is clipped (R172). -/
def Gov.merge (g : Gov) (y x : Nat) : Int × Nat × Bool :=
  let single := fun (node len : Nat) => (g.v y x node, g.sens node len, g.sat y x node)
  if g.ctx.off 4 then
    match g.entry.mode with
    | 0 => (0, 0, false)
    | 2 => match g.holdB with
      | some l => single 1 l
      | none => (0, 0, false)
    | _ => match g.holdA with
      | some l => single 0 l
      | none => (0, 0, false)
  else
    match g.holdA, g.holdB with
    | none, none => (0, 0, false)
    | some l, none => single 0 l
    | none, some l => single 1 l
    | some la, some lb =>
      let sa := g.sens 0 la
      let sb := g.sens 1 lb
      let (l, s, sl, ss) := if sb ≤ sa then (0, 1, sa, sb) else (1, 0, sb, sa)
      let w := rget g.ctx.set 0x07000C
      let wd : Int := 16 * (orIf (field w 16 12) 1 : Nat)
      let wn0 := clampI 0 wd (g.v y x l - 16 * (field w 0 12 : Nat))
      let wn := if g.ctx.code y x l = g.ctx.top then wd else wn0
      (roundDiv ((wd - wn) * g.v y x l * ss + wn * sl * g.v y x s) (wd * (max 1 ss : Nat)), sl,
       if 0 < wn then g.sat y x s else g.sat y x l)

/-- Stage 5 (R164): radiometric units, rounded to 1/16.
DESIGN CHOICE (log 207). -/
def Gov.v5 (g : Gov) (y x : Nat) : Int :=
  let (m, s, _) := g.merge y x
  if g.ctx.off 5 then m
  else if s = 0 then 0
  else
    let ref := orIf (field (rget g.ctx.set 0x070014) 0 24) 1
    max 0 (roundDiv (m * ref * 4096) s + sgn 16 (field (rget g.ctx.set 0x070018) 0 16))

/-- The Bayer channel of a pixel: 0 R, 1 Gr, 2 Gb, 3 B (R50). -/
def bayer (y x : Nat) : Nat := 2 * (y % 2) + x % 2

/-- Stage 6 (R165). -/
def Gov.v6 (g : Gov) (y x : Nat) : Int :=
  let v := g.v5 y x
  if g.ctx.off 6 then v
  else
    let wb := field (rget g.ctx.set (0x070020 + 4 * bayer y x)) 0 16
    roundDiv (v * wb * field (rget g.ctx.set 0x070030) 0 16) 16777216

/-- The curve of PIPE_CMP in use: breakpoint, base code and shift of each segment (R168). -/
def curveSegs (set : SMap Word) : Nat → Nat → Nat → Nat → List (Nat × Nat × Nat)
  | 0, _, _, _ => []
  | n + 1, i, x, y =>
    let s := min 24 (field (rget set (0x070084 + 8 * i)) 0 5)
    let nx := (rget set (0x070080 + 8 * (i + 1))).toNat
    (x, y, s) :: (if i < 7 ∧ x < nx then curveSegs set n (i + 1) nx (y + (nx - x) / 2 ^ s) else [])

/-- The NORM16 code of a value in 1/16 RU (R168).
DEDUCED (log 69). -/
def norm16 (set : SMap Word) (v : Int) : Nat :=
  let x := v.toNat
  match ((curveSegs set 8 0 0 0).filter (fun q => decide (q.1 ≤ x))).getLast? with
  | some (x0, y0, s) => min 65535 (y0 + (x - x0) / 2 ^ s)
  | none => 0

/-- The LIN24 code of a value in 1/16 RU (R169).
DEDUCED (log 69). -/
def lin24 (v : Int) : Nat :=
  let x := v.toNat
  let (e, m) :=
    if x < 2 ^ 20 then (0, x)
    else
      let e := Nat.log2 x - 19
      let m := (roundDiv x (2 ^ e : Nat)).toNat
      if m = 2 ^ 20 then (e + 1, 2 ^ 19) else (e, m)
  if 15 < e then 15 * 2 ^ 20 + (2 ^ 20 - 1) else e * 2 ^ 20 + m

/-- The inputs of output pixel (X, Y) of a binned block, as offsets (R145). -/
def binInputs (b X Y : Nat) : List (Nat × Nat) :=
  match b with
  | 1 => (upto 2).flatMap (fun j => (upto 2).map (fun i =>
      (4 * (X / 2) + X % 2 + 2 * i, 4 * (Y / 2) + Y % 2 + 2 * j)))
  | 2 => (upto 4).flatMap (fun j => (upto 4).map (fun i =>
      (8 * (X / 2) + X % 2 + 2 * i, 8 * (Y / 2) + Y % 2 + 2 * j)))
  | 3 => (upto 2).flatMap (fun j => (upto 2).map (fun i => (2 * X + i, 2 * Y + j)))
  | _ => [(X, Y)]

/-- Mean of a binned block, rounded as R145 gives it. -/
def binMean (l : List Int) : Int := roundDiv l.sum l.length

/-- A RAW sample of format depth 12 or 10 (R167, R171). -/
def rawSample (c : ReadCtx) (ten : Bool) (cells : List (Nat × Nat)) (node : Nat) : Nat :=
  let top := if ten then 1023 else 4095
  let ped := let w := rget c.set 0x050004; if ten then field w 16 10 else field w 0 12
  if cells.any (fun p => decide (c.code p.2 p.1 node = c.top)) then top
  else
    let scale : Int := match c.ten, ten with
      | true, false => 16
      | false, true => 1
      | _, _ => 4
    let q := roundDiv ((cells.map (fun p => scale * c.v3 p.2 p.1 node)).sum) (64 * cells.length)
    (clampI 0 top (q + ped)).toNat

/-- Samples packed in groups of `n` of `w` bits (R170); a group that the line leaves short is filled with zeros.
PRESUMED (log 67). DESIGN CHOICE (log 212). -/
def packGroups (w n : Nat) (bytes : Nat) : Nat → List Nat → List Byte
  | 0, _ => []
  | f + 1, l =>
    match l with
    | [] => []
    | _ =>
      let g := l.take n
      le bytes (g.foldr (fun v acc => v + acc * 2 ^ w) 0) ++ packGroups w n bytes f (l.drop n)

/-- A line packed in a format: 0 RAW12, 1 RAW10, 2 NORM16, 3 LIN24 (R170).
PRESUMED (log 67). -/
def packLine (fmt : Nat) (l : List Nat) : List Byte :=
  match fmt with
  | 0 => packGroups 12 2 3 l.length l
  | 1 => packGroups 10 4 5 l.length l
  | 2 => packGroups 16 1 2 l.length l
  | _ => packGroups 24 1 3 l.length l

/-- The read of the main pass of the open tick (R105).
DEDUCED (log 50). -/
def mainCtx (s : State) : ReadCtx :=
  let p := s.img.cur.plan
  let tm := slotCounts s.regs.prev
  { caps := s.img.prv.main, set := s.regs.prev, rows := p.rows,
    ten := decide (tm = 432), cnv := s.cnv, defects := s.stat.defects }

/-- The tile-rows of the burst pass that holds a tile-row. -/
def passRows (p : Plan) (j : Nat) : List Nat :=
  match p.passes.find? (fun q => !q.shed && q.rows.contains j) with
  | some q => q.rows
  | none => []

/-- The burst read of a tile-row of a frame, under the settings of that frame and the offsets in effect at
the read (R116, R162).
DEDUCED (log 50). -/
def burstCtx (s : State) (f : Frame) (set : SMap Word) (j : Nat) : ReadCtx :=
  { caps := f.burst, set := set, rows := passRows f.plan j, ten := decide (slotCounts set = 432),
    cnv := { s.cnv with offs := f.burstOffs, zeroed := f.burstZero }, defects := s.stat.defects }

/-- Listed pixels of a tile-row that the burst pass of a frame left uncorrected (R161). -/
def burstUnfixed (s : State) (f : Frame) (set : SMap Word) (j : Nat) : List (Nat × Nat) :=
  if passRows f.plan j = [] then [] else (burstCtx s f set j).unfixed j

/-- The length of an exposure of a tile as applied, with gating (R162). -/
def lenOf (x : TileExp) (n : Nat) : Option Nat :=
  if n = 0 then none
  else if n = 1 then some ((x.gate.map (fun g => g.2)).getD (x.exp 1).len)
  else some (x.exp n).len

/-- The burst read governs a tile (R162). -/
def isSubst (f : Frame) (set : SMap Word) (t : Nat) : Bool :=
  f.plan.accepted.contains t && decide ((entryOf set t).rep = 0)

/-- The governing read of a tile of the frame now read (R162). -/
def govOf (s : State) (main : ReadCtx) (t : Nat) : Gov :=
  let f := s.img.prv
  let x := mget TileExp.off f.tiles t
  let sub := isSubst f s.regs.prev t
  let held := if sub then f.burstHeld else f.mainHeld
  { ctx := if sub then burstCtx s f s.regs.prev (t / 64) else main, entry := entryOf s.regs.prev t,
    holdA := lenOf x (mget 0 held (2 * t)), holdB := lenOf x (mget 0 held (2 * t + 1)), subst := sub }

/-- The burst read of a tile of the frame now exposing, for stream 2 (R144). -/
def burstGov (s : State) (t : Nat) : Gov :=
  let f := s.img.cur
  let x := mget TileExp.off f.tiles t
  { ctx := burstCtx s f s.regs.act (t / 64), entry := entryOf s.regs.act t,
    holdA := lenOf x (mget 0 f.burstHeld (2 * t)), holdB := lenOf x (mget 0 f.burstHeld (2 * t + 1)),
    subst := false }

/-- The NODES selection of a stream: the nodes that RAW lines are made of (R166). -/
def rawNodes (set : SMap Word) (st : Nat) : List Nat :=
  match field (rget set (0x070040 + 4 * st)) 4 2 with
  | 1 => [0]
  | 2 => [1]
  | _ => [0, 1]

/-- The lines of an image region that lies in one tile-row (R143, R144, R166 to R171): the region's
left column and width, the first row and the rows, the output line of the first, and how a pixel's
governing read is found. Each line is its number, NODE, and packed bytes with its sample count.
DEDUCED (log 66). DESIGN CHOICE (log 224). -/
def regionLines (c : ReadCtx) (gov : Nat → Gov) (st bin x0 w y0 h line0 : Nat) :
    List (Nat × Nat × Nat × List Byte) :=
  let fmt := field (rget c.set (0x070040 + 4 * st)) 0 2
  let f := binFactor bin
  (upto (h / f)).flatMap (fun Y =>
    let cells := fun X => (binInputs bin X Y).map (fun p => (x0 + p.1, y0 + p.2))
    if fmt < 2 then
      (rawNodes c.set st).map (fun n =>
        (line0 + Y, n + 1, w / f,
          packLine fmt ((upto (w / f)).map (fun X => rawSample c (decide (fmt = 1)) (cells X) n))))
    else
      [(line0 + Y, 0, w / f, packLine fmt ((upto (w / f)).map (fun X =>
        let v := binMean ((cells X).map (fun p => (gov (tileAt p.2 p.1)).v6 p.2 p.1))
        if fmt = 2 then norm16 c.set v else lin24 v)))])

/-- The body of an image line packet (R382). -/
def lineBody (window line npix fmt node id : Nat) (data : List Byte) : List Byte :=
  le 2 window ++ le 2 line ++ zeros 2 ++ le 2 npix ++ le 1 fmt ++ le 1 node ++ le 2 id ++ zeros 4 ++ data

/-- The lines of a tile-row on stream 0 or 1 (R143, R182). -/
def sendTileRow (s : State) (st j : Nat) : State :=
  let f := s.img.prv
  let c := mainCtx s
  let bin := binOf c.set f.therm st
  let fmt := field (rget c.set (0x070040 + 4 * st)) 0 2
  (liveWins c.set f.therm st).foldl (fun s (w, x) =>
    let a := max x.y0 (128 * j)
    let b := min x.y1 (128 * (j + 1))
    if a < b then
      (regionLines c (govOf s c) st bin x.x0 (x.x1 - x.x0) a (b - a)
        ((a - x.y0) / binFactor bin)).foldl (fun s (q : Nat × Nat × Nat × List Byte) =>
          queueLine s st (f.k % 2 ^ 32) j (lineBody w q.1 q.2.2.1 fmt q.2.1 f.id q.2.2.2)) s
    else s) s

/-- The lines of the accepted burst tiles of a tile-row on stream 2 (R144). -/
def sendBurstRow (s : State) (j : Nat) : State :=
  let f := s.img.cur
  let set := s.regs.act
  if streamEn set 2 then
    let bin := binOf set f.therm 2
    let fmt := field (rget set 0x070048) 0 2
    let c := burstCtx s f set j
    (f.plan.accepted.filter (fun t => decide (t / 64 = j))).foldl (fun s t =>
      (regionLines c (burstGov s) 2 bin (128 * (t % 64)) 128 (128 * j) 128 0).foldl
        (fun s (q : Nat × Nat × Nat × List Byte) =>
          queueLine s 2 (f.k % 2 ^ 32) t (lineBody t q.1 q.2.2.1 fmt q.2.1 f.id q.2.2.2)) s) s
  else s

/-- The END_OF_FRAME of an image stream, when the frame has data on it (R382).
DEDUCED (log 54). -/
def closeStream (s : State) (st frame : Nat) : State :=
  if (s.streamFrame st).begun ∧ (s.streamFrame st).frame = frame % 2 ^ 32 then
    endFrame s st (frame % 2 ^ 32) 0 0
  else s

end Sys2Proof.Machine
end

