-- ==== Sys2Proof/Machine/Convert.lean ====
section
/-!
DEFINITION. Column conversion (R102 to R128): row slots with their nodes and lines, the end of the
readout, and the background refresh of the offset table.
-/

namespace Sys2Proof.Machine

/-- The settings that govern the main and optical-black reads of the open tick (R105, R591).
DEDUCED (log 50). -/
def State.readSet (s : State) : SMap Word := if s.time.k = 0 then s.regs.act else s.regs.prev

/-- The read of an optical-black pass: its rows lie after the array. -/
def darkCtx (caps : SMap SlotCap) (ten : Bool) (ped : Word) (cnv : Cnv) : ReadCtx :=
  { caps := caps, set := rput [] 0x050004 ped, rows := [48], ten := ten, cnv := cnv, defects := [] }

/-- The last optical-black pass of the ticks, at its own depth and pedestal (R105). -/
def obCtx (s : State) : ReadCtx := darkCtx s.cnv.ob s.cnv.obTen s.cnv.obPed s.cnv

/-- OB_OUT (R147).
DEDUCED (log 53). -/
def obOut (s : State) : Bool := decide (field (rget s.readSet 0x060000) 1 1 = 1) && streamEn s.readSet 0

/-- The image lines of a tile-row that has left the pipeline, and END_OF_FRAME after the last one; the listed pixels
that a burst read leaves uncorrected are counted (R161). -/
def deliver (s : State) (b : Block) : State :=
  match b.kind with
  | 0 =>
    let s := sendTileRow (sendTileRow s 0 b.row) 1 b.row
    if s.img.blocks.any (fun c => decide (c.kind = 0)) then s
    else
      let s := closeStream s 1 s.img.prv.k
      if s.img.cur.plan.obRun && obOut s then s else closeStream s 0 s.img.prv.k
  | 1 =>
    let s := bumpBy s 0x0700D4 (burstUnfixed s s.img.cur s.regs.act b.row).length
    let s := sendBurstRow s b.row
    if s.img.blocks.any (fun c => decide (c.kind = 1)) then s else closeStream s 2 s.img.cur.k
  | _ => s

/-- The four OB rows of a slot on stream 0, as converter codes, the A line and then the B line (R171); in
tick 0, which has no frame before it, under FRAME_NO 0 and settings ID 0.
DEDUCED (log 53). DESIGN CHOICE (log 173). -/
def sendObRows (s : State) (i : Nat) : State :=
  let c := obCtx s
  let fmt := if c.ten then 1 else 0
  (upto 4).foldl (fun s r =>
    [0, 1].foldl (fun s n =>
      queueLine s 0 (s.img.prv.k % 2 ^ 32) 0
        (lineBody 0 (4 * i + r) 8256 fmt (n + 5) s.img.prv.id
          (packLine fmt ((upto 8256).map (fun x => c.code (6144 + 4 * i + r) x n))))) s) s

/-- The charge of a tile-row's nodes begins to be read: what each holds is noted, HELD becomes PARTIAL
(R45, R162). -/
def beginRow (s : State) (kind j : Nat) : State :=
  let frame := if kind = 0 then s.img.prv.k else s.img.cur.k
  let mine := s.img.nodes.filter (fun p => decide (p.1 / 128 = j ∧ p.2.phase = .held))
  let held := (mine.filter (fun p => decide (p.2.frame = frame))).map (fun p => (p.1, p.2.n))
  let add := fun (m : SMap Nat) => held.foldl (fun m p => put m p.1 p.2) m
  let nodes := s.img.nodes.map (fun p =>
    if p.1 / 128 = j ∧ p.2.phase = .held then (p.1, { p.2 with phase := .part }) else p)
  let img := { s.img with nodes := nodes }
  { s with img :=
    if kind = 0 then { img with prv := { img.prv with mainHeld := add img.prv.mainHeld } }
    else { img with cur := { img.cur with
      burstHeld := add img.cur.burstHeld, burstOffs := s.cnv.offs, burstZero := s.cnv.zeroed } } }

/-- The last slot of a tile-row ends: its nodes are EMPTY (R45, R57). -/
def endRow (s : State) (j : Nat) : State :=
  { s with img := { s.img with nodes := s.img.nodes.filter (fun p => decide (p.1 / 128 ≠ j)) } }

/-- The latches of a slot are kept for the pass. -/
def storeSlot (s : State) (b : Block) (c : SlotCap) : State :=
  let key := 32 * b.row + b.next
  match b.kind with
  | 0 => { s with img := { s.img with prv := { s.img.prv with main := put s.img.prv.main key c } } }
  | 1 => { s with img := { s.img with cur := { s.img.cur with burst := put s.img.cur.burst key c } } }
  | _ => { s with cnv := { s.cnv with ob := put s.cnv.ob key c } }

/-- The pass goes on with the next tile-row, whose first rows may be neighbours of this one's last (R161).
DESIGN CHOICE (log 190). -/
def carriesOn (s : State) (b : Block) : Bool :=
  s.img.blocks.any (fun n => decide (n.kind = b.kind ∧ n.row = b.row + 1)
    && (decide (b.kind = 0) || (passRows s.img.cur.plan b.row).contains n.row))

/-- The first slot of a tile-row has been read: the lines of the one above that wait for it are delivered. -/
def deliverWaiting (s : State) (b : Block) : State :=
  let mine := fun (w : Block) => decide (w.kind = b.kind ∧ w.row + 1 = b.row)
  (s.img.wait.filter mine).foldl deliver
    { s with img := { s.img with wait := s.img.wait.filter (fun w => !mine w) } }

/-- An optical-black pass begins: its latches replace those of the last one. -/
def beginOb (s : State) : State :=
  { s with cnv := { s.cnv with
    ob := [], obTen := decide (slotCounts s.readSet = 432), obPed := rget s.readSet 0x050004 } }

/-- ROW_SLOT (R104): the next slot of the plan completes. -/
def execRowSlot (reset signal : Option Nat) (caps : List Capture) (s : State) :
    Host.Outcome State Fault Refusal :=
  .next (whenTier 2 s fun s =>
    match s.img.blocks with
    | [] => s
    | b :: rest =>
      let c : SlotCap := { reset := reset, signal := signal, caps := caps }
      let s := reach s (s.time.e + b.start + b.slotTime * (b.next + 1))
      let s := bumpBy s 0x050020 (slotForced c)
      let s := if b.kind = 2 ∧ b.next = 0 then beginOb s else s
      let s := storeSlot s b c
      let s := if b.kind < 2 ∧ b.next = 0 then beginRow s b.kind b.row else s
      let s := if b.kind = 2 ∧ obOut s = true then sendObRows s b.next else s
      let done := decide (b.next + 1 = b.slots)
      let s := { s with img := { s.img with
        blocks := if done then rest else { b with next := b.next + 1 } :: rest } }
      let s := if b.next = 0 then deliverWaiting s b else s
      if done then
        if b.kind = 2 then
          let s := { s with cnv := { s.cnv with due := none, passDone := true } }
          closeStream s 0 s.img.prv.k
        else
          let s := endRow s b.row
          if carriesOn s b then { s with img := { s.img with wait := s.img.wait ++ [b] } } else deliver s b
      else s)

/-- REFRESH_DUE (R113): at an edge, just before it opens its tick, CNV_CAL_AGE has come to 1,024 ticks
with BG_EN set.
DEDUCED (log 46). -/
def execRefreshDue (s : State) : Host.Outcome State Fault Refusal :=
  .next (whenTick s fun s =>
    if s.fc 0x050000 1 1 = 1 ∧ 1023 ≤ (s.cur 0x050010).toNat ∧ s.cnv.due = none
        ∧ s.cnv.passDone = false ∧ s.cnv.fresh = none then
      { s with cnv := { s.cnv with due := some 0 } }
    else s)

/-- A write of 1 to REFRESH_NOW (R113): no further effect while a refresh is due or running. -/
def refreshNow (s : State) : State :=
  if s.cnv.due = none then { s with cnv := { s.cnv with due := some 0 } } else s

/-- REFRESH_NOW (R113, R122). -/
def execRefreshNow (_src : Src) (s : State) : Host.Outcome State Fault Refusal :=
  .next (whenReg s refreshNow)

/-- One comparator's entry at a refresh (R115): the new entry and reject count, and whether the sample
was rejected, and accepted as drift. Values are in 1/16 DN; a half of the last place is rounded up.
DESIGN CHOICE (log 174). -/
def refreshEntry (e m : Int) (rej : Nat) : Int × Nat × Bool × Bool :=
  if -512 ≤ m - e ∧ m - e ≤ 512 then (e + roundDiv (m - e) 8, 0, false, false)
  else if rej + 1 = 8 then (m, 0, true, true)
  else (e, rej + 1, true, false)

/-- The mean of a comparator's eight OB samples less PED, in 1/16 DN of 12 bits (R115, R120).
DEDUCED (log 71). -/
def obMean (c : ReadCtx) (bank x line : Nat) : Int :=
  let sum := ((upto 8).map (fun i =>
    ((c.code (6144 + 4 * i + bank) x line : Nat) : Int) - c.ped)).sum
  2 * (if c.ten then 4 else 1) * sum

/-- OFFSET_REFRESH (R115): the entries of the refresh gain from the pass that is complete; an entry saturates
at the limits of its 16 bits.
DEDUCED (log 72). DESIGN CHOICE (log 174). -/
def execOffsetRefresh (s : State) : Host.Outcome State Fault Refusal :=
  .next (whenAwake s fun s =>
    if s.cnv.passDone then
      let g := s.cnv.nextGain
      let c := obCtx s
      let cells := (upto 4).flatMap (fun b => (upto 8192).flatMap (fun x => [(b, x, 0), (b, x, 1)]))
      let (new, rej, nRej, nAcc) := cells.foldl
        (fun (acc : List (Nat × Nat) × SMap Nat × Nat × Nat) (q : Nat × Nat × Nat) =>
          let i := offEntry g q.1 q.2.1 q.2.2
          let r := refreshEntry (s.cnv.entry i) (obMean c q.1 q.2.1 q.2.2) (mget 0 acc.2.1 i)
          ((i, code 16 (clampI (-32768) 32767 r.1)) :: acc.1, mput 0 acc.2.1 i r.2.1,
           acc.2.2.1 + bit r.2.2.1, acc.2.2.2 + bit r.2.2.2)) ([], s.cnv.rejects, 0, 0)
      let s := { s with cnv := { s.cnv with
        fresh := some new.reverse, rejects := rej, passDone := false, nextGain := (g + 1) % 4 } }
      let s := bumpBy (bumpBy s 0x050024 nRej) 0x050028 nAcc
      if 0 < nAcc then logReg s 0x01 1 0x050028 (s.cur 0x050028).toNat 0 else s
    else s)

/-- A refresh that is still due after a plan has been due for one more tick (R140). -/
def refreshWaits (s : State) : State :=
  { s with cnv := { s.cnv with due := s.cnv.due.map (· + 1) } }

/-- At an edge a completed refresh takes effect (R116), and otherwise the age counts on.
DEDUCED (log 62). -/
def refreshEdge (s : State) : State :=
  match s.cnv.fresh with
  | some l =>
    let offs := l.foldl (fun m p => mput 0 m p.1 p.2) s.cnv.offs
    let touched := l.map (fun p => p.1)
    let s := { s with cnv := { s.cnv with
      offs := offs, fresh := none, zeroed := s.cnv.zeroed.filter (fun i => !touched.contains i) } }
    setRegN (setFld s 0x050014 0 16 (s.fc 0x050014 0 16 + 1)) 0x050010 0
  | none => bump s 0x050010

end Sys2Proof.Machine
end

