-- ==== Sys2Proof/Machine/Stat.lean ====
section
/-!
DEFINITION. Statistics banks (R172 to R175): what a tile-row adds, the bytes of a bank, and stream 3.
-/

namespace Sys2Proof.Machine

/-- An empty bank. -/
def Bank.empty : Bank :=
  { frame := 0, id := 0, state := 0, rows := [], tb := 0, bypass := 0, lost := false, hist := [], zones := [],
    tiles := [], luma := [] }

/-- An empty zone. -/
def Zone.zero : Zone := { r := 0, g := 0, b := 0, n := 0 }

/-- A tile sum that holds nothing. -/
def TileSum.zero : TileSum := { r := 0, g := 0, b := 0, clip := 0, flags := 0 }

/-- Bank i: 0 and 1 of the array, 2 + 2·channel + bank of the auxiliary channels. -/
def State.bank (s : State) (i : Nat) : Bank := mget Bank.empty s.stat.banks i

/-- Bank i replaced. -/
def setBank (s : State) (i : Nat) (b : Bank) : State :=
  { s with stat := { s.stat with banks := mput Bank.empty s.stat.banks i b } }

/-- A zone with a sum added to the field of a Bayer channel. -/
def Zone.add (z : Zone) (r g b n : Nat) : Zone := { r := z.r + r, g := z.g + g, b := z.b + b, n := z.n + n }

/-- What one RGGB quad at (x, y) adds to a bank (R172, R173); a negative value enters as 0.
DESIGN CHOICE (log 208). -/
def quadStats (g : Gov) (t : Nat) (y x : Nat) (b : Bank) : Bank :=
  let px := [(y, x), (y, x + 1), (y + 1, x), (y + 1, x + 1)]
  let v := px.map (fun p => (g.v5 p.1 p.2).toNat)
  let clip := (px.filter (fun p => (g.merge p.1 p.2).2.2)).length
  let set := g.ctx.set
  let hist := (v.zipIdx).foldl (fun h (q : Nat × Nat) =>
    mmod 0 h (1024 * q.2 + norm16 set q.1 / 64) (· + 1)) b.hist
  let luma := (v.sum + 2) / 4
  let r := v.getD 0 0
  let gr := v.getD 1 0 + v.getD 2 0
  let bl := v.getD 3 0
  let ts := mget TileSum.zero b.tiles t
  let tiles := mput TileSum.zero b.tiles t
    { ts with r := ts.r + r, g := ts.g + gr, b := ts.b + bl, clip := ts.clip + clip }
  let zi := 32 * (y / 256) + x / 256
  let zones := if clip = 0 ∧ field (rget set 0x080008) 0 16 ≤ luma then
    mput Zone.zero b.zones zi ((mget Zone.zero b.zones zi).add r gr bl 1) else b.zones
  { b with hist := hist, tiles := tiles, zones := zones,
           luma := mmod 0 b.luma (64 * t + norm16 set luma / 1024) (· + 1) }

/-- What a tile adds to a bank, with its flags: VALID, NO_EXPOSURE, SUBST (R172, R173).
DEDUCED (log 70). -/
def tileStats (g : Gov) (t : Nat) (b : Bank) : Bank :=
  let b := if g.nothing then b
    else (upto 64).foldl (fun b qy => (upto 64).foldl (fun b qx =>
      quadStats g t (128 * (t / 64) + 2 * qy) (128 * (t % 64) + 2 * qx) b) b) b
  let ts := mget TileSum.zero b.tiles t
  let ts := { ts with flags := 1 + 2 * bit g.nothing + 4 * bit g.subst }
  { b with tiles := mput TileSum.zero b.tiles t ts }

/-- The statistics of a tile-row of the frame now read enter its bank; tiles without an exposure and
listed pixels left uncorrected are counted (R161, R172, R187), once for the frame's two reads. -/
def statRow (s : State) (j : Nat) : State :=
  let c := mainCtx s
  let i := s.img.prv.k % 2
  let tiles := rangeFrom (64 * j) 64
  let b := tiles.foldl (fun b t => tileStats (govOf s c t) t b) (s.bank i)
  let s := setBank s i { b with rows := b.rows ++ [j] }
  let told := burstUnfixed s s.img.prv s.regs.prev j
  let s := bumpBy s 0x0700D4 ((c.unfixed j).filter (fun x => !told.contains x)).length
  bumpBy s 0x0700D8 (tiles.filter (fun t => (govOf s c t).nothing)).length

/-- At E + 4 µs the bank of the frame to be read gets STATE 0 and its FRAME_NO (R174). -/
def openBank (s : State) : State :=
  let f := s.img.prv
  setBank s (f.k % 2) { Bank.empty with
    frame := f.k % 2 ^ 32, id := f.id, bypass := field (rget s.regs.prev 0x070000) 0 7 }

/-- The header of a bank (R173). -/
def Bank.header (b : Bank) : List Byte :=
  le 4 b.frame ++ le 2 b.id ++ le 2 b.state ++ le 8 (rowMask b.rows) ++ le 8 b.tb ++ le 2 b.bypass
    ++ zeros 230

/-- The global histograms (R173). -/
def Bank.histBytes (b : Bank) : List Byte := (upto 4096).flatMap (fun i => le 4 (mget 0 b.hist i))

/-- Zones, `n` of them (R173, R175). -/
def Bank.zoneBytes (b : Bank) (n : Nat) : List Byte :=
  (upto n).flatMap (fun i =>
    let z := mget Zone.zero b.zones i
    le 6 z.r ++ le 6 z.g ++ le 6 z.b ++ le 2 z.n ++ zeros 4)

/-- Tile sums (R173). -/
def Bank.tileBytes (b : Bank) : List Byte :=
  (upto 3072).flatMap (fun t =>
    let x := mget TileSum.zero b.tiles t
    le 6 x.r ++ le 6 x.g ++ le 6 x.b ++ le 2 x.clip ++ le 2 x.flags ++ zeros 10)

/-- Tile luma histograms (R173). -/
def Bank.lumaBytes (b : Bank) : List Byte := (upto (3072 * 64)).flatMap (fun i => le 2 (mget 0 b.luma i))

/-- A byte of a bank at an offset from its base (R173, R175): an auxiliary bank has 192 zones and ends
there. -/
def Bank.byteAt (b : Bank) (aux : Bool) (o : Nat) : Byte :=
  if o < 256 then b.header.getD o 0
  else if o < 0x1000 then 0
  else if o < 0x5000 then (le 4 (mget 0 b.hist ((o - 0x1000) / 4))).getD (o % 4) 0
  else if o < 0x5000 + 24 * (if aux then 192 else 768) then
    let z := mget Zone.zero b.zones ((o - 0x5000) / 24)
    (le 6 z.r ++ le 6 z.g ++ le 6 z.b ++ le 2 z.n ++ zeros 4).getD ((o - 0x5000) % 24) 0
  else if aux || decide (o < 0xA000) then 0
  else if o < 0x22000 then
    let x := mget TileSum.zero b.tiles ((o - 0xA000) / 32)
    (le 6 x.r ++ le 6 x.g ++ le 6 x.b ++ le 2 x.clip ++ le 2 x.flags).getD ((o - 0xA000) % 32) 0
  else if o < 0x82000 then (le 2 (mget 0 b.luma ((o - 0x22000) / 2))).getD (o % 2) 0
  else 0

/-- The record of a bank on stream 3: the header and the enabled sections (R174, R186). -/
def Bank.record (b : Bank) (ctrl : Word) : List Byte :=
  let on := fun n => decide (field ctrl n 1 = 1)
  b.header ++ (if on 1 then b.histBytes else []) ++ (if on 2 then b.zoneBytes 768 else [])
    ++ (if on 3 then b.tileBytes else []) ++ (if on 4 then b.lumaBytes else [])

/-- A record of frame k is still to come on stream 3 (R174, R175, R382): of the array bank, opened at edge k + 1,
or of an auxiliary bank whose frame has not ended. -/
def statsToCome (s : State) (k : Nat) : Bool :=
  let ctrl := s.act 0x080000
  let b := s.bank (k % 2)
  let array := decide (2 ≤ s.sys.tier) && !s.sys.rdoStopped
    && (decide (s.time.k = k) || (decide (s.time.k = k + 1 ∧ b.frame = k % 2 ^ 32 ∧ b.state = 0 ∧ b.lost = false)
        && decide (s.img.cur.plan.rows ≠ [])))
  let aux := decide (field ctrl 5 1 = 1) && s.aux.frames.any (fun p => p.2.any (fun x =>
    decide (x.frame = k ∧ x.banks ≠ []) && (x.open_ || x.ending)))
  decide (field ctrl 0 1 = 1) && (array || aux)

/-- Frame k ends on stream 3 with its last record (R382). -/
def endStats (s : State) (k : Nat) : State :=
  if statsToCome s k then s else endMeta s 3 (k % 2 ^ 32)

/-- The bank of the frame now read is COMPLETE, with PARTIAL when a tile-row is missing (R173, R174);
stream 3 carries it.  One that has lost its header is left without COMPLETE (R536). -/
def completeBank (s : State) : State :=
  let i := s.img.prv.k % 2
  let b := s.bank i
  if b.lost then endStats s s.img.prv.k
  else
    let b := { b with state := 1 + (if b.rows.length = 48 then 0 else 2), tb := s.time.tb }
    let s := setRegN (setBank s i b) 0x080020 b.frame
    let ctrl := s.act 0x080000
    if field ctrl 0 1 = 1 then endStats (queueRecord s 3 b.frame 0 (b.record ctrl) false) s.img.prv.k else s

end Sys2Proof.Machine
end

