-- ==== Sys2Proof/Machine/AuxIn.lean ====
section
/-!
DEFINITION. Auxiliary camera inputs (R188 to R208): packets, frames, lines, the port FIFOs, bindings
and auxiliary statistics.
-/

namespace Sys2Proof.Machine

/-- The address of a register of an auxiliary port. -/
def auxReg (p ofs : Nat) : Nat := 0x090000 + 0x400 * p + ofs

/-- The address of a register of a pair (R208). -/
def pairReg (pair ofs : Nat) : Nat := auxReg (pair / 4) (ofs + 0x10 * (pair % 4))

/-- The pair that binding b names under a set of committed values, when it is enabled and no duplicate (R197). -/
def boundIn (m : SMap Word) (b : Nat) : Option Nat :=
  let of := fun (b : Nat) =>
    let w := rget m (0x090800 + 0x10 * b)
    if field w 0 1 = 1 then some (field w 1 1 * 4 + field w 2 2) else none
  if b = 1 ∧ (of 0).isSome = true ∧ of 1 = of 0 then none else of b

/-- The pair that binding b names in the open tick (R197). -/
def boundPair (s : State) (b : Nat) : Option Nat := boundIn s.regs.act b

/-- Binding 1 names the pair of an enabled binding 0 (R197). -/
def bindDup (s : State) : Bool :=
  decide (s.fa 0x090810 0 1 = 1) && (boundPair s 0).isSome && (boundPair s 1).isNone

/-- The binding of a pair. -/
def bindingOf (s : State) (pair : Nat) : Option Nat :=
  if boundPair s 0 = some pair then some 0 else if boundPair s 1 = some pair then some 1 else none

/-- The frames of a pair. -/
def State.auxFrames (s : State) (pair : Nat) : List AuxFrame := mget [] s.aux.frames pair

/-- The frames of a pair replaced. -/
def setAuxFrames (s : State) (pair : Nat) (l : List AuxFrame) : State :=
  { s with aux := { s.aux with frames := mput [] s.aux.frames pair l } }

/-- The open frame of a pair. -/
def openFrame (s : State) (pair : Nat) : Option AuxFrame := (s.auxFrames pair).find? (·.open_)

/-- The open frame of a pair changed. -/
def modOpen (s : State) (pair : Nat) (f : AuxFrame → AuxFrame) : State :=
  setAuxFrames s pair ((s.auxFrames pair).map (fun x => if x.open_ then f x else x))

/-- The frame of a pair whose frame start was the first of tick k (R192). -/
def pairFrame (s : State) (pair k : Nat) : Option AuxFrame :=
  (s.auxFrames pair).find? (fun x => x.first && decide (x.frame = k))

/-- Bytes of a pixel group, pixels in it, and the most pixels of a line, by data type (R194). -/
def auxGroup (dt : Nat) : Option (Nat × Nat) :=
  match dt with
  | 0x2A => some (1, 1)
  | 0x2B => some (5, 4)
  | 0x2C => some (3, 2)
  | 0x1E => some (4, 2)
  | _ => none

/-- Pixels in `n` bytes of a data type. -/
def auxPixels (dt n : Nat) : Nat :=
  match auxGroup dt with
  | some (b, p) => n / b * p
  | none => 0

/-- A byte of a line. -/
def byteAt (l : List Byte) (i : Nat) : Nat := (l.getD i 0).toNat

/-- The samples of a line scaled to 10 bits (R175): pixel codes of RAW types, the two low bits of RAW12 dropped; for
YUV422 the codes in their order U, Y, V, Y.
DESIGN CHOICE (log 209). -/
def auxSamples (dt : Nat) (l : List Byte) : List Nat :=
  match dt with
  | 0x2A => l.map (fun b => 4 * b.toNat)
  | 0x2B => (upto (l.length / 5)).flatMap (fun g => (upto 4).map (fun i =>
      4 * byteAt l (5 * g + i) + byteAt l (5 * g + 4) / 4 ^ i % 4))
  | 0x2C => (upto (l.length / 3)).flatMap (fun g => (upto 2).map (fun i =>
      (16 * byteAt l (3 * g + i) + byteAt l (3 * g + 2) / 16 ^ i % 16) / 4))
  | _ => l.map (fun b => 4 * b.toNat)

/-- The channel of a pixel of a RAW source: R, Gr, Gb, B under PHASE (R175, R206). -/
def phaseChannel (phase y x : Nat) : Nat := bayer (y + phase / 2) (x + phase % 2)

/-- The usable lines of a frame: those without CRC_BAD, TRUNCATED and SHORT (R196). -/
def AuxFrame.good (f : AuxFrame) : List AuxLine := f.lines.filter (fun l => decide (l.flags % 8 = 0))

/-- PHASE of a pair, as committed (R206). -/
def pairPhase (s : State) (pair : Nat) : Nat := s.fa (pairReg pair 0x10 - 0xC * (pair % 4)) 2 2

/-- What one usable line adds to the histograms (R175). -/
def auxHist (dt phase : Nat) (h : SMap Nat) (l : AuxLine) : SMap Nat :=
  ((auxSamples dt l.bytes).zipIdx).foldl (fun h (q : Nat × Nat) =>
    let c := if dt = 0x1E then (match q.2 % 4 with | 0 => 1 | 2 => 2 | _ => 0)
             else phaseChannel phase l.idx q.2
    mmod 0 h (1024 * c + q.1) (· + 1)) h

/-- What one usable line adds to the zones, for W pixels and H lines as received (R175): H counts the lines that
were dropped or discarded.
DEDUCED (log 74). DESIGN CHOICE (log 210). -/
def auxZones (dt phase w h : Nat) (z : SMap Zone) (l : AuxLine) : SMap Zone :=
  ((auxSamples dt l.bytes).zipIdx).foldl (fun z (q : Nat × Nat) =>
    let x := if dt = 0x1E then q.2 / 2 else q.2
    let i := 16 * min 11 (12 * l.idx / max 1 h) + min 15 (16 * x / max 1 w)
    let c := if dt = 0x1E then (match q.2 % 4 with | 0 => 1 | 2 => 3 | _ => 0)
             else phaseChannel phase l.idx x
    let old := mget Zone.zero z i
    mput Zone.zero z i
      (match c with
       | 0 => { old with r := old.r + q.1, n := old.n + 1 }
       | 3 => { old with b := old.b + q.1 }
       | _ => { old with g := old.g + q.1 })) z

/-- The statistics of a frame that has ended are complete in its banks, and stream 3 carries them (R174, R175); the
header's STATE has DAMAGED, INCOMPLETE and, in bit 4, TRUNCATED (R195).
DEDUCED (log 74). DESIGN CHOICE (log 184). -/
def auxStats (s : State) (pair : Nat) (f : AuxFrame) : State :=
  f.banks.foldl (fun s (cb : Nat × Nat) =>
    let i := 2 + 2 * cb.1 + cb.2
    let dt := f.dt.getD 0x2A
    let b := s.bank i
    let b := { b with
      hist := f.good.foldl (auxHist dt f.phase) [],
      zones := f.good.foldl (auxZones dt f.phase f.longest f.next) [],
      state := 1 + 4 * bit f.damaged + 8 * bit f.incomplete + 16 * bit f.truncated, tb := s.time.tb }
    let s := setBank s i b
    let s := if f.damaged || f.incomplete then bump s 0x080030 else s
    let ctrl := s.act 0x080000
    if field ctrl 0 1 = 1 ∧ field ctrl 5 1 = 1 then
      let on := fun n => decide (field ctrl n 1 = 1)
      queueRecord s 3 b.frame (1 + cb.1) (b.header ++ (if on 1 then b.histBytes else [])
        ++ (if on 2 then b.zoneBytes 192 else [])) false
    else s) s

/-- The STATE byte of a frame (R180). -/
def AuxFrame.state (f : AuxFrame) (missing : Bool) : Nat :=
  1 + 2 * bit f.damaged + 4 * bit f.incomplete + 8 * bit missing + 16 * bit f.bound.isSome
    + 32 * bit f.truncated + 64 * bit f.open_

/-- A frame of a pair changed. -/
def modFrame (s : State) (pair uid : Nat) (f : AuxFrame → AuxFrame) : State :=
  setAuxFrames s pair ((s.auxFrames pair).map (fun x => if x.uid = uid then f x else x))

/-- AUX_VC_CFG.STREAM of a pair (R206). -/
def streamOn (s : State) (pair : Nat) : Bool :=
  decide (s.fa (pairReg pair 0x10 - 0xC * (pair % 4)) 1 1 = 1)

/-- The data of a line goes to its frame and to stream 8 or 9 (R203). -/
def passLine (s : State) (pair uid : Nat) (l : AuxLine) : State :=
  match (s.auxFrames pair).find? (fun x => decide (x.uid = uid)) with
  | none => s
  | some f =>
    let s := if f.first then modFrame s pair uid (fun f => { f with lines := f.lines ++ [l] }) else s
    if streamOn s pair then
      queueLineOf s (16 + pair) (8 + pair / 4) (f.frame % 2 ^ 32) 0
        (le 1 (pair % 4) ++ le 1 l.dt ++ le 2 l.idx ++ le 2 (l.flags % 8) ++ le 2 l.bytes.length
          ++ zeros 8 ++ l.bytes)
    else s

/-- A line of a frame waits in the FIFO. -/
def lineWaits (s : State) (uid : Nat) : Bool := s.aux.fifo.any (fun x => decide (x.uid = uid) && !x.out)

/-- What follows the last line of a frame that has closed (R174, R203, R382): its statistics, and the record that
ends it on its stream, where STREAM is 1 or lines have gone out.
DEDUCED (log 54). -/
def finishFrame (s : State) (pair : Nat) (f : AuxFrame) : State :=
  let s := modFrame s pair f.uid (fun f => { f with ending := false })
  let s := endStats (auxStats s pair f) f.frame
  if streamOn s pair || (s.streamFrame (16 + pair)).begun then
    endFrameOf s (16 + pair) (8 + pair / 4) (f.frame % 2 ^ 32) f.num f.endState
  else s

/-- The closed frames of a pair whose lines have all left the FIFO are finished.
DEDUCED (log 77). -/
def settle (s : State) (pair : Nat) : State :=
  (s.auxFrames pair).foldl (fun s f =>
    if f.ending && !lineWaits s f.uid then finishFrame s pair f else s) s

/-- The closed frames of every pair. -/
def settleAll (s : State) : State := (upto 8).foldl settle s

/-- The open frame of a pair is closed (R191).
DEDUCED (log 55). -/
def closeAux (s : State) (pair : Nat) (incomplete : Bool) : State :=
  settle (modOpen s pair (fun f =>
    let f := { f with incomplete := f.incomplete || incomplete, open_ := false, ending := true }
    { f with endState := f.state false })) pair

/-- The receiver of a port works: T2 or T3, enabled, with a valid MAP (R189, R204). -/
def auxOn (s : State) (p : Nat) : Bool := s.aux.on.contains p && decide (2 ≤ s.sys.tier)

/-- The virtual channel of a pair is accepted (R206). -/
def vcOn (s : State) (pair : Nat) : Bool :=
  decide (s.fa (pairReg pair 0x10 - 0xC * (pair % 4)) 0 1 = 1)

/-- The service rank of a pair in the slicer (R201): bound pairs in binding order, then unbound pairs. -/
def auxRank (s : State) (pair : Nat) : Nat :=
  match bindingOf s pair with
  | some b => b
  | none => 2 + pair

/-- The oldest line of the best rank. -/
def bestRank (s : State) (l : List FifoLine) : Option Nat :=
  match l.map (fun x => auxRank s x.pair) with
  | [] => none
  | r :: t => some (t.foldl min r)

/-- The first line of a rank, with bytes taken from it. -/
def takeFrom (s : State) (r n : Nat) : List FifoLine → List FifoLine × Option FifoLine × Nat
  | [] => ([], none, n)
  | x :: t =>
    if auxRank s x.pair = r then
      if x.left ≤ n then (t, some x, n - x.left) else ({ x with left := x.left - n } :: t, none, 0)
    else
      let (t', y, m) := takeFrom s r n t
      (x :: t', y, m)

/-- The slicer takes some bytes from the FIFOs, in order of service (R201); with the last line of a closed frame it is
finished, before any line of the next (R203).
DESIGN CHOICE (log 76). -/
def slice : Nat → State → Nat → State
  | 0, s, _ => s
  | f + 1, s, n =>
    if n = 0 then s
    else
      match bestRank s s.aux.fifo with
      | none => s
      | some r =>
        let (l, x, m) := takeFrom s r n s.aux.fifo
        let s := { s with aux := { s.aux with fifo := l } }
        match x with
        | some x => slice f (settle (if x.out then s else passLine s x.pair x.uid x.line) x.pair) m
        | none => s

/-- The slicer takes bytes. -/
def serve (s : State) (n : Nat) : State := slice (s.aux.fifo.length + 1) s n

/-- READOUT_END (R134): the last slot of the tick is complete.  Outside passes the slicer empties the FIFOs at
8.0 GB/s, which it has done before the next edge (R201).
DESIGN CHOICE (log 76). -/
def execReadoutEnd (s : State) : Host.Outcome State Fault Refusal :=
  .next (whenTier 2 s fun s =>
    if s.img.blocks.isEmpty && !s.img.ended then
      let s := reach s (s.time.e + s.img.cur.plan.endAt)
      let s := { s with img := { s.img with ended := true } }
      serve s ((s.aux.fifo.map (fun x => x.left)).sum)
    else s)

/-- The lanes of a port as they stand (R205): all in the stop state, and the clock lane in HS mode.
DESIGN CHOICE (log 79). -/
def setLanes (s : State) (p : Nat) (stop hs : Bool) : State :=
  { s with aux := { s.aux with lanes := mput (true, false) s.aux.lanes p (stop, hs) } }

/-- What comes with a transmission on a port (R195, R201, R205): the slicer's work until then, a corrected header,
and the state of the lanes after it.
DESIGN CHOICE (log 76). -/
def hear (s : State) (p : Nat) (h : PktPhy) : State :=
  let s := serve s h.served
  if p < 2 then
    let s := setLanes s p h.stop h.hs
    if h.corrected && auxOn s p then bump s (auxReg p 0x40) else s
  else s

/-- A packet on a virtual channel of a working port (R189): nonzero VCX bits are counted as unsupported, and a
channel that is not enabled is silent. -/
def withPair (s : State) (p vc : Nat) (f : Nat → State → State) : State :=
  if p < 2 ∧ auxOn s p = true then
    if 4 ≤ vc then bump s (auxReg p 0x4C)
    else if vcOn s (4 * p + vc) then f (4 * p + vc) s else s
  else s

/-- A binding leaves MISSING, at a frame start or because it names the pair no more (R200).
DEDUCED (log 80). -/
def endMissing (s : State) (b : Nat) : State :=
  if s.aux.missing.contains b then
    logReg { s with aux := { s.aux with missing := s.aux.missing.filter (· ≠ b) } }
      0x01 0 (0x090800 + 0x10 * b) 0 0
  else s

/-- The auxiliary statistics banks that a first frame of a tick begins to fill (R175). -/
def openBanks (s : State) (banks : List (Nat × Nat)) : State :=
  banks.foldl (fun s (cb : Nat × Nat) =>
    let s := setBank s (2 + 2 * cb.1 + cb.2) { Bank.empty with
      frame := s.time.k % 2 ^ 32, id := s.regs.settingsId, bypass := s.fa 0x070000 0 7 }
    { s with aux := { s.aux with nextBank := mput 0 s.aux.nextBank cb.1 (1 - cb.2) } }) s

/-- AUX_FS (R191, R192): a frame opens; an open one closes INCOMPLETE first. -/
def execAuxFs (rx : AuxRx) (vc num : Nat) (s : State) : Host.Outcome State Fault Refusal :=
  .next (whenTier 2 s fun s => withPair (hear s rx.port rx.phy) rx.port vc fun pair s =>
    let s := match openFrame s pair with
      | some _ => bump (closeAux s pair true) (auxReg rx.port 0x48)
      | none => s
    let k := s.time.k
    let first := (pairFrame s pair k).isNone
    let s := bump s (pairReg pair 0x88)
    let s := if first then s else bump s (pairReg pair 0x8C)
    let b := bindingOf s pair
    let chans := if first then [0, 1].filter (fun c =>
      decide (s.fa (0x080010 + 4 * c) 3 1 = 1 ∧ s.fa (0x080010 + 4 * c) 0 3 = pair)) else []
    let banks := chans.map (fun c => (c, mget 0 s.aux.nextBank c))
    let s := openBanks s banks
    let f : AuxFrame :=
      { uid := s.aux.nextUid, frame := k, id := s.regs.settingsId, num := num, fs := s.time.tb,
        phase := pairPhase s pair, first := first,
        bound := b, banks := banks, dt := none, next := 0, received := 0, dropped := 0, crcErrs := 0,
        longest := 0, damaged := false, incomplete := false, truncated := false, open_ := true,
        ending := false, endState := 0, lines := [] }
    let s := setAuxFrames { s with aux := { s.aux with nextUid := s.aux.nextUid + 1 } } pair
      (s.auxFrames pair ++ [f])
    match b with
    | some b => endMissing s b
    | none => s)

/-- AUX_FE (R191). -/
def execAuxFe (rx : AuxRx) (vc _num : Nat) (s : State) : Host.Outcome State Fault Refusal :=
  .next (whenTier 2 s fun s => withPair (hear s rx.port rx.phy) rx.port vc fun pair s =>
    match openFrame s pair with
    | some _ => closeAux s pair false
    | none => bump s (auxReg rx.port 0x48))

/-- Bytes that the lines of a port's FIFO take. -/
def fifoUsed (s : State) (p : Nat) : Nat :=
  ((s.aux.fifo.filter (fun x => decide (x.pair / 4 = p))).map (fun x => x.left)).sum

/-- A line is dropped or discarded (R202): its pair's AUX_DROP counts it and its frame is INCOMPLETE. -/
def dropLine (s : State) (pair uid : Nat) : State :=
  modFrame (bump s (pairReg pair 0x84)) pair uid (fun f =>
    { f with incomplete := true, dropped := f.dropped + 1 })

/-- Queued lines of unbound pairs are discarded, newest first, until `n` bytes fit (R202): those of frames that have
closed as well, but none that the slicer has begun to take.
DEDUCED (log 77). -/
def displace (p n : Nat) : Nat → State → State
  | 0, s => s
  | f + 1, s =>
    if fifoUsed s p + n ≤ 65536 then s
    else
      let l := s.aux.fifo.reverse
      match l.findIdx? (fun x => decide (x.pair / 4 = p ∧ x.left = x.size) && !x.out
          && (bindingOf s x.pair).isNone) with
      | none => s
      | some i =>
        let s := match l[i]? with
          | some x =>
            modFrame (dropLine s x.pair x.uid) x.pair x.uid (fun f => { f with received := f.received - 1 })
          | none => s
        displace p n f { s with aux := { s.aux with fifo := (l.eraseIdx i).reverse } }

/-- A supported long packet of an open frame (R193, R194, R202): the FIFO room of a line that ends early, and the
counts of one that is not admitted or has two errors of length, are the model's.
DEDUCED (log 77). DESIGN CHOICE (log 211). -/
def auxLine (s : State) (p pair : Nat) (k : LongPkt) (f : AuxFrame) (grp : Nat) : State :=
  let idx := f.next
  let s := modOpen s pair (fun f => { f with next := f.next + 1, dt := some (f.dt.getD k.dt) })
  let discard := fun (s : State) => bump (modOpen s pair (fun f =>
    { f with dropped := f.dropped + 1 })) (pairReg pair 0x84)
  if 8192 ≤ idx then
    discard (modOpen s pair (fun f => { f with truncated := true, damaged := true }))
  else if f.dt.getD k.dt ≠ k.dt then
    bump (discard (modOpen s pair (fun f => { f with damaged := true }))) (auxReg p 0x48)
  else
    let size := min k.wc 16384
    let s := if (bindingOf s pair).isSome then displace p size s.aux.fifo.length s else s
    if 65536 < fifoUsed s p + size then dropLine s pair f.uid
    else
      let long := decide (16384 < k.wc)
      let short := decide (k.bytes.length < k.wc)
      let part := decide (k.wc % grp ≠ 0) && !long
      let crcBad := !long && !short && !k.crcOk
      let kept := k.bytes.take (min size k.bytes.length / grp * grp)
      let flags := bit crcBad + 2 * bit long + 4 * bit short + 8 * bit part
      let s := modOpen s pair (fun f =>
        { f with received := f.received + 1, truncated := f.truncated || long,
                 damaged := f.damaged || long || short || part || crcBad,
                 crcErrs := f.crcErrs + bit crcBad,
                 longest := max f.longest (auxPixels k.dt kept.length) })
      let s := if long || short || part then bump s (auxReg p 0x50) else s
      let s := if crcBad then bump s (pairReg pair 0x80) else s
      let line : AuxLine := { idx := idx, dt := k.dt, flags := flags, bytes := kept }
      let now := (bindingOf s pair).isSome && !s.aux.fifo.any (fun x => decide (x.pair = pair) && !x.out)
      let s := if now then passLine s pair f.uid line else s
      { s with aux := { s.aux with fifo := s.aux.fifo ++
          [{ pair := pair, uid := f.uid, size := size, left := size, out := now, line := line }] } }

/-- AUX_LONG_PACKET (R189, R191 to R195, R202).
DEDUCED (log 75). -/
def execAuxLongPacket (p : Nat) (k : LongPkt) (s : State) : Host.Outcome State Fault Refusal :=
  .next (whenTier 2 s fun s =>
    withPair (hear s p k.phy) p k.vc fun pair s =>
      if k.dt = 0x10 ∨ k.dt = 0x11 then s
      else
        match auxGroup k.dt, openFrame s pair with
        | none, _ => bump s (auxReg p 0x4C)
        | some _, none => bump s (auxReg p 0x48)
        | some (grp, _), some f => settleAll (auxLine s p pair k f grp))

/-- GENERIC_SHORT_PACKET (R189): counted as unsupported on an enabled virtual channel. -/
def execGenericShortPacket (h : AuxShort) (s : State) : Host.Outcome State Fault Refusal :=
  .next (whenTier 2 s fun s => withPair (hear s h.port h.phy) h.port h.vc fun _ s => bump s (auxReg h.port 0x4C))

/-- UNCORRECTABLE_HEADER (R195): every open frame of the port is DAMAGED. -/
def execUncorrectableHeader (rx : AuxRx) (s : State) : Host.Outcome State Fault Refusal :=
  .next (whenTier 2 s fun s =>
    let s := hear s rx.port { rx.phy with corrected := false }
    if rx.port < 2 ∧ auxOn s rx.port = true then
      (upto 4).foldl (fun s v => modOpen s (4 * rx.port + v) (fun f => { f with damaged := true }))
        (bump s (auxReg rx.port 0x44))
    else s)

/-- A write to AUX_CTRL[p] (R190, R191, R204): EN changing to 1 applies the lane settings, and EN
written 0 closes every open frame INCOMPLETE.
DEDUCED (log 78). -/
def auxCtrlWrite (s : State) (p : Nat) (v : Word) : State :=
  let a := auxReg p 0
  let was := decide (s.fc a 0 1 = 1)
  let s := setReg s a (v &&& 0x0FFFFFFF)
  if s.fc a 0 1 = 1 then
    if was then s
    else
      let lane := fun i => s.fc a (8 + 2 * i) 2
      let bad := (upto 4).any (fun i => (upto i).any (fun j => decide (lane i = lane j)))
      let deskew := decide (1500 < s.fc a 16 12)
      let s := setFld s (a + 8) 2 3 (4 * bit bad + 2 * bit (!bad && deskew))
      if bad then s else { s with aux := { s.aux with on := s.aux.on ++ [p] } }
  else
    let s := (upto 4).foldl (fun s v => closeAux s (4 * p + v) true) s
    { s with aux := { s.aux with on := s.aux.on.filter (· ≠ p) } }

/-- AUX_PORT_ENABLE (R204), with the state of the port's lanes at that time (R205). -/
def execAuxPortEnable (_src : Src) (p : PortPhy) (v : Word) (s : State) :
    Host.Outcome State Fault Refusal :=
  .next (whenReg s fun s =>
    if p.port < 2 then auxCtrlWrite (setLanes s p.port p.stop p.hs) p.port (v ||| 1) else s)

/-- AUX_PORT_DISABLE (R191). -/
def execAuxPortDisable (_src : Src) (p : Nat) (v : Word) (s : State) :
    Host.Outcome State Fault Refusal :=
  .next (whenReg s fun s => if p < 2 then auxCtrlWrite s p (v &&& ~~~1) else s)

/-- AUX_DESKEW (R190). -/
def execAuxDeskew (rx : AuxRx) (s : State) : Host.Outcome State Fault Refusal :=
  .next (whenAwake s fun s =>
    let s := hear s rx.port { rx.phy with corrected := false }
    if rx.port < 2 ∧ auxOn s rx.port = true then setFld s (auxReg rx.port 8) 2 2 1 else s)

/-- The acting TIMEOUT of a binding in the open tick (R207). -/
def bindTimeout (s : State) (b : Nat) : Nat := orIf (s.fa (0x090800 + 0x10 * b) 4 8) 1

/-- A frame start has come in the open tick on the pair that a binding names (R192, R200). -/
def startedNow (s : State) (b : Nat) : Bool :=
  match boundPair s b with
  | some pair => (s.auxFrames pair).any (fun x => decide (x.frame = s.time.k))
  | none => false

/-- AUX_MISSING (R200): after the edge that ends the TIMEOUT-th tick without a frame start, and after each later one
until one comes, the tick is counted and its Collar entry shows MISSING; the binding is in MISSING while it still names
the pair, until a frame start that may have come since the edge.
DEDUCED (log 46). DEDUCED (log 80). -/
def execAuxMissing (b : Nat) (s : State) : Host.Outcome State Fault Refusal :=
  .next (whenTier 2 s fun s =>
    if b < 2 ∧ s.aux.missDue.contains b = true then
      let s := bump { s with aux := { s.aux with
        missPrv := s.aux.missPrv ++ [b], missDue := s.aux.missDue.filter (· ≠ b) } } (0x090808 + 0x10 * b)
      if s.aux.missing.contains b || decide (boundIn s.regs.prev b ≠ boundPair s b) then s
      else
        let s := logReg { s with aux := { s.aux with missing := s.aux.missing ++ [b] } } 0x01 1
          (0x090800 + 0x10 * b) 1 0
        if startedNow s b then endMissing s b else s
    else s)

/-- At an edge, before its commit, each binding counts a tick that had no frame start on its pair, and frames of
older ticks that have ended are let go (R180, R200).  A pair that the binding did not name in the tick before
starts from none.  The tick is one of MISSING from the TIMEOUT-th on, and goes on as one until a frame start, whatever
TIMEOUT becomes. -/
def auxEdge (s : State) : State :=
  let k := s.time.k
  let quiet := [0, 1].foldl (fun q b =>
    match boundPair s b with
    | some pair =>
      if (s.auxFrames pair).any (fun x => decide (x.frame = k)) then mput 0 q b 0
      else mput 0 q b ((if boundIn s.regs.prev b = some pair then mget 0 q b else 0) + 1)
    | none => mput 0 q b 0) s.aux.quiet
  let due := [0, 1].filter (fun b => decide (0 < mget 0 quiet b)
    && (decide (bindTimeout s b ≤ mget 0 quiet b) || s.aux.missing.contains b))
  let frames := s.aux.frames.map fun p => (p.1, p.2.filter (fun x => x.open_ || x.ending || decide (k ≤ x.frame)))
  let frames := frames.filter (fun p => decide (p.2 ≠ []))
  { s with aux := { s.aux with quiet := quiet, missPrv := [], missDue := due, frames := frames } }

/-- After a commit, a binding that names another pair, or none, is in MISSING no more (R200, R207). -/
def auxCommit (s : State) : State :=
  [0, 1].foldl (fun s b => if boundIn s.regs.prev b = boundPair s b then s else endMissing s b) s

/-- The AUX entry of a pair in the Collar of frame k (R180), under the bindings of tick k (R197). -/
def auxEntry (s : State) (pair : Nat) (f : Frame) : List Byte :=
  let of := boundIn s.regs.prev
  let miss := s.aux.missPrv.any (fun b => of b == some pair)
  match pairFrame s pair f.k with
  | some x =>
    le 1 (x.state miss) ++ le 1 (x.dt.getD 0) ++ le 2 x.longest ++ le 2 x.received ++ le 2 x.dropped
      ++ le 2 x.crcErrs ++ zeros 2 ++ le 4 (x.fs - f.tb)
  | none => le 1 (8 * bit miss + 16 * bit (of 0 == some pair || of 1 == some pair)) ++ zeros 15

/-- AUX_STATUS[p] (R205): OPEN and the lanes, while the receiver is on, are computed; the rest stands in the register
file.
DESIGN CHOICE (log 79). -/
def auxStatus (s : State) (p : Nat) : Nat :=
  let l := mget (true, false) s.aux.lanes p
  (if auxOn s p then 2 * bit l.1 + bit l.2 else 0) + 4 * s.fc (auxReg p 8) 2 3
    + ((upto 4).map (fun v => 2 ^ (8 + v) * bit (openFrame s (4 * p + v)).isSome)).sum

end Sys2Proof.Machine
end

