-- ==== Sys2Proof/Machine/Auto.lean ====
section
/-!
DEFINITION. The exposure controller and the thermal governor (R209 to R230).
-/

namespace Sys2Proof.Machine

/-- The greatest `m` with `2 ^ m ≤ n / d`. -/
def floorLog (n d : Nat) : Int :=
  let m : Int := (Nat.log2 n : Int) - Nat.log2 d
  let ok := fun (m : Int) =>
    if 0 ≤ m then decide (d * 2 ^ m.toNat ≤ n) else decide (d ≤ n * 2 ^ (-m).toNat)
  if ok m then m else m - 1

/-- log2 of n / d in 1/256 stop, to nearest with halves up (R216).
DESIGN CHOICE (log 82). -/
def log256 (n d : Nat) : Int :=
  if n = 0 then Config.logZero else (floorLog (n ^ 512) ((max 1 d) ^ 512) + 1) / 2

/-- The nearest integer to num / den · 2^(c/256), by bisection on `bits` bits. -/
def powRound (num den : Nat) (c : Int) : Nat → Nat → Nat
  | 0, r => r
  | b + 1, r =>
    let n := r + 2 ^ b
    let lhs := ((2 * n - 1) * den) ^ 256
    let rhs := (2 * num) ^ 256
    let fits := if 0 ≤ c then decide (lhs ≤ rhs * 2 ^ c.toNat) else decide (lhs * 2 ^ (-c).toNat ≤ rhs)
    powRound num den c b (if fits then n else r)

/-- round(2^(c/256) · num / den) with 24 significant bits of the power (R216): a power of two itself is exact, and
of the results that another power allows within its 24 bits, one.
DESIGN CHOICE (log 81). -/
def splitRound (num den : Nat) (c : Int) : Nat :=
  if c % 256 = 0 then powRound num den c 48 0
  else
    let lo := powRound (num * (2 ^ 24 - 1)) (den * 2 ^ 24) c 48 0
    let hi := powRound (num * (2 ^ 24 + 1)) (den * 2 ^ 24) c 48 0
    lo + Config.powPick c % (hi - lo + 1)

/-- The tile is controlled (R212). -/
def aeTile (s : State) (t : Nat) : Bool := decide (s.fc (0x0A0400 + 4 * (t / 32)) (t % 32) 1 = 1)

/-- What a run works with (R209, R214, R215, R227). -/
structure AeRun where
  dual : Bool
  /-- Conversion-gain factor of the long node, over 4,096. -/
  cl : Nat
  cgLong : Nat
  ratio : Nat
  gMax : Nat
  lenMin : Nat
  anchor : Nat
  tm : Nat
  lenMax : Nat
  /-- Flicker period in 1/16 EQ; 0 none. -/
  period : Nat
deriving DecidableEq, Repr

/-- T_plan of a run, under the shadow (R214). -/
def planPeriod (s : State) : Nat × Nat :=
  planOf s (s.fc 0x04C200 0 2) (clamp 375000 countsPerSec (s.cur 0x04C204).toNat) (s.fc 0x04C210 0 5)

/-- The parameters of a run, sampled at its start (R209).
DEDUCED (log 85). -/
def aeParams (s : State) : AeRun :=
  let dual := decide (s.fc 0x0A0000 4 1 = 1)
  let single := s.fc 0x0A0000 5 1
  let cg := orIf (s.fc 0x070010 0 16) 0x1000
  let stop := s.fc 0x0A0038 0 24
  { dual := dual, cl := if dual || decide (single = 0) then cg else 4096,
    cgLong := if dual then 0 else single, ratio := max 256 (s.fc 0x0A0030 0 16),
    gMax := s.fc 0x0A002C 0 2, lenMin := orIf (s.fc 0x0A0024 0 24) 1,
    anchor := if stop ≠ 0 then stop else (let (n, d) := planPeriod s; (n - 1500 * d) / (32 * d)),
    tm := slotCounts s.regs.cur, lenMax := s.fc 0x0A0028 0 24,
    period := if s.fc 0x0A0000 6 1 = 1 then s.fc 0x0A0034 0 24 else 0 }

/-- The length cap of a tile-row (R215). -/
def AeRun.cap (r : AeRun) (j : Nat) : Nat :=
  let w := r.anchor - ceilDiv (3000 + 32 * r.tm * (j + 1)) 32
  let l := min w r.lenMax
  max 1 (if r.dual then l * r.ratio / (r.ratio + 256) else l)

/-- log2 of the sensitivity cap for a length cap (R215). -/
def AeRun.logCap (r : AeRun) (l : Nat) : Int := log256 (l * 2 ^ r.gMax * r.cl) 4096

/-- log2 of the sensitivity of a long node (R213), for a length, gain code and factor over 4,096. -/
def logSens (len again c : Nat) : Int := log256 (len * 2 ^ again * c) 4096

/-- The factor of a conversion gain, over 4,096. -/
def cgFactor (s : State) (cg : Nat) : Nat := if cg = 0 then orIf (s.fc 0x070010 0 16) 0x1000 else 4096

/-- The commanded value of a tile recovered from its shadow entry (R213). -/
def recoverCmd (s : State) (r : AeRun) (t : Nat) : Int :=
  let x := entryOf s.regs.cur t
  if x.mode = 0 ∨ x.len1 = 0 then log256 (s.fc 0x0A003C 0 24 * r.cl) 4096
  else logSens x.len1 x.again (cgFactor s x.cgA)

/-- The commanded value of a tile at the start of a run; index 3,072 stands for the global one (R217). -/
def cmdOf (s : State) (r : AeRun) (i t : Nat) : Int := (look s.ae.cmd i).getD (recoverCmd s r t)

/-- log2 of the long-node s of the frame now read, when the long node holds an exposure (R216). -/
def appliedOf (s : State) (t : Nat) : Option Int :=
  let g := govOf s (mainCtx s) t
  if s.img.cur.plan.rows.contains (t / 64) then
    g.holdA.map (fun l => log256 (g.sens 0 l) 4096)
  else none

/-- The sum entry of a tile in a bank is valid for the law (R216). -/
def tileValid (b : Bank) (t : Nat) : Bool :=
  let f := (mget TileSum.zero b.tiles t).flags
  decide (f % 2 = 1 ∧ f / 2 % 2 = 0)

/-- TARGET over a mean of num / den in 1/16 RU, with REF_EQ (R216), as a numerator and denominator. -/
def aeAim (s : State) (num den : Nat) : Nat × Nat :=
  (s.fc 0x0A0010 0 12 * orIf (field (rget s.regs.prev 0x070014) 0 24) 1 * 16 * den, num)

/-- BIAS (R216). -/
def aeBias (s : State) : Int := sgn 16 (s.fc 0x0A0014 0 16)

/-- The target of a tile's metered green (R216): its mean over 8,192 pixels less BOFS, at least 1/16 RU. -/
def aeTarget (s : State) (g : Nat) : Int :=
  let bofs := sgn 16 (field (rget s.regs.prev 0x070018) 0 16)
  let (n, d) := aeAim s (max 8192 ((g : Int) - bofs * 8192)).toNat 8192
  log256 n d + aeBias s

/-- The target of the weighted mean of GLOBAL mode (R217): sum over weights times 131,072.
DESIGN CHOICE (log 233). -/
def aeGlobalTarget (s : State) (sum weights : Nat) : Int :=
  let (n, d) := aeAim s sum (weights * 8192)
  (if d = 0 then Config.logDark else log256 n d) + aeBias s

/-- The step of the law from a commanded value to a target (R216): the cap binds last.
DESIGN CHOICE (log 228). -/
def aeStep (s : State) (r : AeRun) (cmd tgt : Int) (hp : Bool) (cap : Int) : Int :=
  let e := tgt - cmd
  let k := min 0x80 (s.fc 0x0A0018 0 8)
  let d := if hp ∧ e < 0 then e else roundDiv (k * e) 128
  let d := clampI (-(s.fc 0x0A0018 20 12 : Nat)) (s.fc 0x0A0018 8 12) d
  clampI (log256 (r.lenMin * r.cl) 4096) cap (cmd + d)

/-- split of R219: AGAIN, LEN1, LEN2, whether the cap bound it, and whether a length is under one
flicker period. -/
def aeSplit (r : AeRun) (c : Int) (l : Nat) : Nat × Nat × Nat × Bool × Bool :=
  let len := fun (g : Nat) => splitRound 4096 (2 ^ g * r.cl) c
  let gs := upto (r.gMax + 1)
  let g := (gs.find? (fun g => decide (len g ≤ l))).getD r.gMax
  let under := decide (l < len g)
  let len1 := min (max (len g) r.lenMin) l
  let lock := fun (n : Nat) =>
    if 0 < r.period ∧ r.period ≤ 16 * n then (roundDiv ((16 * n / r.period * r.period : Nat) : Int) 16).toNat else n
  let len1 := lock len1
  let len2 := if r.dual then lock (max 1 (roundDiv ((len1 * 256 : Nat) : Int) r.ratio).toNat) else 0
  (g, len1, len2, under,
   decide (0 < r.period) && (decide (16 * len1 < r.period) || (r.dual && decide (16 * len2 < r.period))))

/-- The masked words of a tile's entry that a split writes (R212, R219): word, mask, value; each field takes what fits
its width.
DEDUCED (log 186). DEDUCED (log 227). -/
def aeWords (s : State) (r : AeRun) (t g len1 len2 : Nat) : List (Nat × Word × Word) :=
  let a := 0x040000 + 16 * t
  let burst := (entryOf s.regs.cur t).burst
  let start2 := r.anchor - len2
  let start1 := if r.dual then r.anchor - len2 - len1 else r.anchor - len1
  let w := fun (n : Nat) => BitVec.ofNat 32 n
  let sm : Word := if burst then 0 else 0x00FFFFFF
  let w0 := (a, sm ||| 0xFF000000, w (start1 % 2 ^ 24 + len1 % 256 * 2 ^ 24))
  let ctl := (a + 12, (0x03F00000 : Word),
    w ((if r.dual then 3 else 1) * 2 ^ 20 + r.cgLong * 2 ^ 22 + (if r.dual then 1 else 0) * 2 ^ 23 + g * 2 ^ 24))
  if r.dual then
    [w0, (a + 4, if burst then (0x0000FFFF : Word) else 0xFFFFFFFF,
        w (len1 / 256 % 65536 + start2 % 65536 * 65536)),
     (a + 8, if burst then (0xFFFFFF00 : Word) else 0xFFFFFFFF, w (start2 / 65536 % 256 + len2 * 256)), ctl]
  else [w0, (a + 4, 0x0000FFFF, w (len1 / 256 % 65536)), (a + 12, 0x03700000, ctl.2.2)]

/-- Masked words go to the Shepherd's staging set, or to the shadow when its bracket is closed; words
staged before keep the bits that are not written (R86, R212). -/
def shpWrite (s : State) (ws : List (Nat × Word × Word)) : State :=
  match s.regs.stgShp with
  | some g =>
    let g := ws.foldl (fun (g : List (Nat × Word × Word)) x =>
      match g.find? (fun y => decide (y.1 = x.1)) with
      | some y => stageWord g x.1 (y.2.1 ||| x.2.1) ((y.2.2 &&& ~~~x.2.1) ||| (x.2.2 &&& x.2.1))
      | none => g ++ [(x.1, x.2.1, x.2.2 &&& x.2.1)]) g
    { s with regs := { s.regs with stgShp := some g } }
  | none => ws.foldl landWord s

/-- The targets limited by the seam in one direction over some tiles (R218). -/
def seamPass (ctl : Nat → Bool) (seam : Int) (order : List Nat) (down : Bool) (m : SMap Int) : SMap Int :=
  order.foldl (fun m t =>
    if ctl t then
      let nb := if down then
          (if t % 64 < 63 then [t + 1] else []) ++ (if t < 3008 then [t + 64] else [])
        else (if 0 < t % 64 then [t - 1] else []) ++ (if 64 ≤ t then [t - 64] else [])
      let v := (nb.filter ctl).foldl (fun v u => min v (mget 0 m u + seam)) (mget 0 m t)
      put m t v
    else m) m

/-- seam of R218. -/
def seamLoop (ctl : Nat → Bool) (seam : Int) (ts : List Nat) : Nat → SMap Int → SMap Int
  | 0, m => m
  | n + 1, m =>
    let m' := seamPass ctl seam ts.reverse true (seamPass ctl seam ts false m)
    if m' = m then m else seamLoop ctl seam ts n m'

/-- The long-node s of a tile as the run leaves it, over 1/4,096 (R218). -/
def realised (s : State) (t : Nat) : Nat :=
  let m := (s.regs.stgShp.getD []).foldl (fun m (x : Nat × Word × Word) =>
    if (x.1 - 0x040000) / 16 = t ∧ 0x040000 ≤ x.1 then maskWrite m x.1 x.2.1 x.2.2 else m)
    (s.regs.cur.filter (fun p => decide (0x040000 + 16 * t ≤ p.1 ∧ p.1 < 0x040010 + 16 * t)))
  let x := entryOf m t
  x.len1 * 2 ^ x.again * cgFactor s x.cgA

/-- Two neighbours differ in s by more than the seam allows (R218). -/
def seamExcess (seam a b : Nat) : Bool :=
  decide ((103 * min a b) ^ 256 * 2 ^ seam < (100 * max a b) ^ 256)

/-- Writes and counts of a list of splits: tile, command, length cap.
DEDUCED (log 84). -/
def aeApply (s : State) (r : AeRun) (l : List (Nat × Int × Nat)) : State :=
  l.foldl (fun s (x : Nat × Int × Nat) =>
    let (g, len1, len2, under, short) := aeSplit r x.2.1 x.2.2
    let s := shpWrite s (aeWords s r x.1 g len1 len2)
    let s := if under then setFld (bump s 0x0A008C) 0x0A0004 3 1 1 else s
    if short then bump s 0x0A0094 else s) s

/-- The exposure part of a run in TILE mode (R216, R218, R219). -/
def aeTiles (s : State) (r : AeRun) (b : Bank) : State :=
  let ts := (upto 3072).filter (aeTile s)
  let stp := s.fc 0x0A001C 16 12
  let one := fun (t : Nat) =>
    let cmd := cmdOf s r t t
    if tileValid b t then
      let x := mget TileSum.zero b.tiles t
      let tgt := aeTarget s x.g
      let ap := appliedOf s t
      let hp := decide (s.fc 0x0A001C 0 16 < 4 * x.clip) && ap.isSome
      let tgt := if hp then min tgt (ap.getD 0 - stp) else tgt
      (t, min tgt (r.logCap (r.cap (t / 64))), hp, true)
    else (t, cmd, false, false)
  let rows := ts.map one
  let tg := rows.foldl (fun m x => put m x.1 x.2.1) []
  let seam := s.fc 0x0A0020 0 12
  let tg := seamLoop (aeTile s) seam ts 4 tg
  let done := (rows.filter (fun x => x.2.2.2)).map (fun x =>
    (x.1, aeStep s r (cmdOf s r x.1 x.1) (mget 0 tg x.1) x.2.2.1 (r.logCap (r.cap (x.1 / 64))),
     r.cap (x.1 / 64)))
  let base := ts.foldl (fun m t => put m t (cmdOf s r t t)) []
  let new := done.foldl (fun m x => put m x.1 x.2.1) base
  let s := setFld s 0x0A0004 2 1 (bit (rows.any (fun x => x.2.2.1)))
  let s := aeApply { s with ae := { s.ae with newCmd := new } } r done
  let bad := ts.any (fun t =>
    let c := fun u => aeTile s u && seamExcess seam (realised s t) (realised s u)
    (decide (t % 64 < 63) && c (t + 1)) || (decide (t < 3008) && c (t + 64)))
  if bad then bump s 0x0A0090 else s

/-- The exposure part of a run in GLOBAL mode (R217).
DEDUCED (log 84). -/
def aeGlobal (s : State) (r : AeRun) (b : Bank) : State :=
  let ts := (upto 3072).filter (aeTile s)
  let wt := fun (t : Nat) => s.fc (0x0A1000 + 4 * (t / 4)) (8 * (t % 4)) 8
  let used := ts.filter (fun t => tileValid b t && decide (0 < wt t))
  match ts, used with
  | t0 :: _, u0 :: _ =>
    let sum := fun (f : Nat → Nat) => (used.map f).sum
    let l := (ts.map (fun t => r.cap (t / 64))).foldl min (r.cap (t0 / 64))
    let tgt := aeGlobalTarget s (sum (fun t => wt t * (mget TileSum.zero b.tiles t).g)) (sum wt)
    let ap := appliedOf s u0
    let clip := sum (fun t => (mget TileSum.zero b.tiles t).clip)
    let hp := decide (s.fc 0x0A001C 0 16 * used.length < 4 * clip) && ap.isSome
    let tgt := if hp then min tgt (ap.getD 0 - s.fc 0x0A001C 16 12) else tgt
    let tgt := min tgt (r.logCap l)
    let cmd := aeStep s r (cmdOf s r 3072 t0) tgt hp (r.logCap l)
    let s := setFld s 0x0A0004 2 1 (bit hp)
    let new := ts.foldl (fun m t => put m t cmd) [(3072, cmd)]
    aeApply { s with ae := { s.ae with newCmd := new } } r (ts.map (fun t => (t, cmd, l)))
  | t0 :: _, [] =>
    { s with ae := { s.ae with newCmd := [(3072, cmdOf s r 3072 t0)] } }
  | [], _ => s

/-- |log2 (n / d)| is at most lim / 256 (R220). -/
def withinLog (n d lim : Nat) : Bool :=
  decide (n ^ 256 ≤ d ^ 256 * 2 ^ lim ∧ d ^ 256 ≤ n ^ 256 * 2 ^ lim)

/-- A balance gain limited to the slew about the gain in use (R220); gains are over 4,096. -/
def slewGain (t g slew : Nat) : Nat :=
  clamp (powRound g 1 (-(slew : Int)) 48 0) (powRound g 1 slew 48 0) t

/-- The white balance of a run (R220): WB_MAX binds last.
DESIGN CHOICE (log 229). -/
def aeWhite (s : State) (b : Bank) : State :=
  let gr := s.fc 0x070020 0 16
  let gb := s.fc 0x07002C 0 16
  let lim := s.fc 0x0A0040 0 12
  let zs := ((upto 768).map (mget Zone.zero b.zones)).filter (fun z => decide (16 ≤ z.n))
  let all := (zs.map (fun z => z.n)).sum
  let neu := zs.filter (fun z => decide (z.r ≠ 0 ∧ z.g ≠ 0 ∧ z.b ≠ 0)
    && withinLog (2 * z.r * gr) (z.g * 4096) lim && withinLog (2 * z.b * gb) (z.g * 4096) lim)
  let n := (neu.map (fun z => z.n)).sum
  if all = 0 ∨ n = 0 ∨ n < (s.cur 0x0A004C).toNat ∨ n * 256 < s.fc 0x0A0040 12 8 * all then
    setFld (bump s 0x0A0098) 0x0A0004 1 1 1
  else
    let g := (neu.map (fun z => z.g)).sum
    let gain := fun (tot bias old : Nat) =>
      let t := (roundDiv ((g * bias : Nat) : Int) (8 * tot)).toNat
      slewGain (clamp (s.fc 0x0A0044 0 16) (s.fc 0x0A0044 16 16) t) old (s.fc 0x0A0040 20 12)
    let r := gain ((neu.map (fun z => z.r)).sum) (s.fc 0x0A0048 0 16) gr
    let bl := gain ((neu.map (fun z => z.b)).sum) (s.fc 0x0A0048 16 16) gb
    let w := fun (n : Nat) => BitVec.ofNat 32 (min 65535 n)
    shpWrite (setFld s 0x0A0004 1 1 0)
      [(0x070020, 0xFFFF, w r), (0x070024, 0xFFFF, 0x1000), (0x070028, 0xFFFF, 0x1000),
       (0x07002C, 0xFFFF, w bl)]

/-- STATS_COMPLETE (R174, R210): the bank is COMPLETE and waits for an AE run; a bank already waiting
is passed over. A bank that has lost its header gets no run (R536).
DEDUCED (log 73). -/
def execStatsComplete (s : State) : Host.Outcome State Fault Refusal :=
  .next (whenTier 2 s fun s =>
    let b := s.bank (s.img.prv.k % 2)
    let rows := s.img.cur.plan.rows
    if rows ≠ [] ∧ 0 < s.time.k ∧ b.state = 0 ∧ b.frame = s.img.prv.k % 2 ^ 32
        ∧ rows.all (fun j => s.img.prv.ready.contains j) = true then
      let s := completeBank s
      if s.fc 0x0A0000 0 1 = 1 ∧ b.lost = false then
        let s := if s.ae.waiting.isSome then bump s 0x0A0084 else s
        { s with ae := { s.ae with waiting := some (s.img.prv.k % 2) } }
      else s
    else s)

/-- AE_RUN (R209): a run starts on the bank that waits, in the Shepherd bracket; UNDER, HP_ACTIVE and WB_HOLD show
this run alone (R226).
DEDUCED (log 165). -/
def execAeRun (s : State) : Host.Outcome State Fault Refusal :=
  .next (whenTier 2 s fun s =>
    match s.ae.waiting, s.ae.running with
    | some i, none =>
      let b := s.bank i
      if s.fc 0x0A0000 0 1 = 1 ∧ b.state % 2 = 1 then
        let r := aeParams s
        let s := setRegN (bump s 0x0A0080) 0x0A0008 b.frame
        let s := { s with ae := { s.ae with running := some i, waiting := none, newCmd := [] } }
        let s := setFld (expSet s .shp 1) 0x0A0004 1 3 0
        let s := if s.fc 0x0A0000 1 1 = 1 then s
          else if s.fc 0x0A0000 3 1 = 1 then aeTiles s r b else aeGlobal s r b
        if s.fc 0x0A0000 2 1 = 1 then s else aeWhite s b
      else s
    | _, _ => s)

/-- AE_RUN_END (R209, R211, R213): the run writes CLOSE, and the commands that it wrote stand, but for those whose
recovery has fallen due since its start.
DEDUCED (log 165). -/
def execAeRunEnd (s : State) : Host.Outcome State Fault Refusal :=
  .next (whenAwake s fun s =>
    match s.ae.running with
    | none => s
    | some _ =>
      let s := expSet s .shp 2
      { s with ae := { s.ae with
        running := none, cmd := s.ae.newCmd.foldl (fun m p => put m p.1 p.2) s.ae.cmd, newCmd := [] } })

/-- A write to AE_CTRL (R213, R222): disabling or freezing aborts the bracket of a run, and enabling or
releasing makes the commands be recovered. -/
def aeCtrlWrite (s : State) (v : Word) : State :=
  let old := s.cur 0x0A0000
  let rise := fun (i : Nat) => decide (field old i 1 = 0 ∧ field v i 1 = 1)
  let fall := fun (i : Nat) => decide (field old i 1 = 1 ∧ field v i 1 = 0)
  let s := setReg s 0x0A0000 (v &&& 0x7F)
  let s := if s.ae.running.isSome && (fall 0 || rise 1 || rise 2) then expSet s .shp 4 else s
  let s := if fall 0 then { s with ae := { s.ae with waiting := none } } else s
  if rise 0 || fall 1 then { s with ae := { s.ae with cmd := [], newCmd := [] } } else s

/-- AE_CTRL_WRITE (R222). -/
def execAeCtrlWrite (_src : Src) (v : Word) (s : State) : Host.Outcome State Fault Refusal :=
  .next (whenReg s fun s => aeCtrlWrite s v)

/-- A write to AE_MASK (R213): a tile whose bit becomes 1 has its command recovered. -/
def aeMaskWrite (s : State) (n : Nat) (v : Word) : State :=
  let a := 0x0A0400 + 4 * n
  let new := (upto 32).filter (fun i => decide (s.fc a i 1 = 0 ∧ field v i 1 = 1))
  let s := setReg s a v
  if new.isEmpty then s
  else
    let keep := fun (p : Nat × Int) => !(decide (p.1 = 3072) || new.any (fun i => decide (p.1 = 32 * n + i)))
    { s with ae := { s.ae with cmd := s.ae.cmd.filter keep, newCmd := s.ae.newCmd.filter keep } }

/-- The thermal governor at an edge (R223), for T_j in Q8.8.
DEDUCED (log 63). -/
def thermalEdge (s : State) (tj : BitVec 16) : State :=
  let t := tj.toInt
  let th1 := min 95 (s.fc 0x0A0060 0 8)
  let th2 := max th1 (min 95 (s.fc 0x0A0060 8 8))
  let hy := s.fc 0x0A0060 16 4
  let ge := fun (n : Nat) => decide (256 * (n : Int) ≤ t)
  let lt := fun (n : Nat) => decide (t < 256 * ((n : Int) - hy))
  let st := s.sys.thermStage
  let new := match st with
    | 0 => if ge th1 then (if ge th2 then 2 else 1) else 0
    | 1 => if ge th2 then 2 else if lt th1 then 0 else 1
    | _ => if lt th2 then (if lt th1 then 0 else 1) else 2
  if new = st then s
  else barkEvent (logReg { s with sys := { s.sys with thermStage := new } } 0x0A 1 0x0A0004 tj.toNat 0) 5

end Sys2Proof.Machine
end

