-- ==== Sys2Proof/Machine/NlkLink.lean ====
section
/-!
DEFINITION. The Neleklink links (R359 to R379): control units, training, lane failure, acknowledgement and replay,
credits, stripe failover, and the transmitter.
-/

namespace Sys2Proof.Machine

/-- A per-link counter of R389. -/
def linkCnt (l off : Nat) : Nat := 0x110100 + 0x40 * l + off

/-- The link is in use in the mode of the start (R360). -/
def linkUsed (s : State) (l : Nat) : Bool :=
  match s.nlk.mode with
  | 2 => decide (l = 0)
  | 3 => decide (l = 1)
  | _ => decide (l < 2)

/-- TOP_STATUS.NLK_DOWN follows the links, and a change is Barked (R33, R369, R449). -/
def followDown (s : State) : State :=
  let d := !((linkUsed s 0 && s.isUp 0) || (linkUsed s 1 && s.isUp 1))
  if d = s.nlk.down then s else barkEvent { s with nlk := { s.nlk with down := d } } 3

/-- Good lanes in a mask. -/
def laneCount (m : Nat) : Nat := ((upto 16).filter (fun i => decide (m / 2 ^ i % 2 = 1))).length

/-- The width of a direction with g good lanes (R367). -/
def widthOf (g : Nat) : Nat := if g = 16 then 16 else if 12 ≤ g then 12 else if 8 ≤ g then 8 else 0

/-- The SEQ-holding record of a link (R376, R377). -/
def State.seqRec (s : State) (l : Nat) : Link := s.link (seqLink s l)

/-- The links that share a link's SEQ space and replay buffer (R376, R378). -/
def sharers (s : State) (l : Nat) : List Nat := if s.nlk.mode = 0 then [0, 1] else [l]

/-- A control unit: its type, bytes 1 to 6 and the CRC-8 (R363). -/
def ctlUnit (type : Nat) (b : List Byte) : List Byte :=
  let u := le 1 type ++ (b ++ zeros 6).take 6
  u ++ le 1 (crc8 u)

/-- The IDLE and SOP units (R363). -/
def idleUnit : List Byte := ctlUnit 0x1E []
def sopUnit : List Byte := ctlUnit 0x2D []

/-- The ACK, NAK, CREDIT and LANE_FAIL units (R363). -/
def ackUnit (seq : Nat) : List Byte := ctlUnit 0x33 (le 2 seq)
def nakUnit (seq : Nat) : List Byte := ctlUnit 0x4B (le 2 seq)
def creditUnit (cls count : Nat) : List Byte := ctlUnit 0x55 (le 1 cls ++ le 2 count)
def laneFailUnit (mask : Nat) : List Byte := ctlUnit 0x78 (le 2 mask)

/-- The ALIGN unit of a logical lane in a row (R362, R363). -/
def alignUnit (l width row lane : Nat) : List Byte :=
  ctlUnit 0x66 (le 1 lane ++ le 1 l ++ le 1 width ++ le 3 row)

/-- Rows of a link's unit stream since it came UP (R359, R362): a row is 66 bits on each lane at 12.0 Gb/s.
DESIGN CHOICE (log 217). -/
def rowsSince (s : State) (x : Link) : Nat := (s.time.tb - x.upAt) * 8 / 33

/-- Unit i of those outside the ALIGN rows, as a unit of the stream of width w (R362): each row whose number divides by
16,384 is one of ALIGN units.
DESIGN CHOICE (log 217). -/
def unitOf (w i : Nat) : Nat := i + w * (i / (16383 * max 1 w) + 1)

/-- The first unit outside the ALIGN rows from a row on. -/
def rowIndex (w row : Nat) : Nat := w * (row - (row + 16383) / 16384)

/-- The logical lane of a unit (R362). -/
def unitLane (w n : Nat) : Nat := n % max 1 w

/-- The next of a link's units outside the ALIGN rows: none goes into a row that has passed. -/
def nextUnit (s : State) (x : Link) : Nat := max x.txIndex (rowIndex x.txWidth (rowsSince s x))

/-- A link that is UP sends units outside the ALIGN rows (R362): the place of the first of them in the unit stream,
and of the one behind them. -/
def takeUnits (s : State) (n : Nat) (x : Link) : Link :=
  if x.state = .up then { x with txIndex := nextUnit s x + n, txUnit := unitOf x.txWidth (nextUnit s x) } else x

/-- The ALIGN row that a link sends (R362): one unit on each logical lane. -/
def alignUnits (s : State) (l row : Nat) : List (List Byte) :=
  (upto (s.link l).txWidth).map (alignUnit l (s.link l).txWidth row)

/-- The last ALIGN row that a link has sent since it came UP (R362), whether or not it had a packet to send.
DESIGN CHOICE (log 217). -/
def sentAlign (s : State) (l : Nat) : List (List Byte) :=
  let x := s.link l
  if x.state = .up then
    let row := max (rowsSince s x) (unitOf x.txWidth (x.txIndex - 1) / max 1 x.txWidth)
    alignUnits s l (row / 16384 * 16384 % 2 ^ 24)
  else []

/-- The TS unit of a physical lane of a link (R363, R365). -/
def tsUnit (s : State) (l lane : Nat) : List Byte :=
  ctlUnit 0x87 (le 1 lane ++ le 1 l ++ le 2 (s.link l).rxOk ++ le 1 (bit (s.link l).fresh)
    ++ [Config.trainingStep l lane])

/-- The command that a control unit received on a link spells, where it carries one of its own (R363). -/
def ctlCmd (l : Nat) (u : List Byte) : Option Instr :=
  if badUnit u then some (.controlUnitBadCrc { link := l, bytes := u })
  else match (u.headD 0).toNat with
    | 0x33 => some (.nlkAck l (leAt u 1 2))
    | 0x4B => some (.nlkNak l (leAt u 1 2))
    | 0x55 => some (.nlkCredit l (leAt u 1 1) (leAt u 2 2))
    | 0x78 => some (.nlkLaneFailRx l (BitVec.ofNat 16 (leAt u 1 2)))
    | _ => none

/-- A control unit is sent on a link, as a unit of its stream (R362), and held under its kind. -/
def sendCtl (s : State) (l kind : Nat) (u : List Byte) : State :=
  let x := takeUnits s 1 (s.link l)
  setLink s l { x with ctl := put x.ctl kind u }

/-- ACK of the packets before RX_NEXT is sent on a link (R374). -/
def sendAck (s : State) (l : Nat) : State :=
  sendCtl s l 0x33 (ackUnit (((s.seqRec l).rxNext + 65535) % 65536))

/-- The credit count of a class is sent on a link (R372). -/
def sendCredit (s : State) (l cls : Nat) : State :=
  sendCtl s l (0x55 + 256 * cls) (creditUnit cls ((s.link l).freed.getD cls 0))

/-- The END_OF_FRAME of a frame's data is to set LINKLOSS (R379). -/
def markLoss (s : State) (key frame : Nat) : State :=
  let f := s.streamFrame key
  if f.begun = true ∧ f.frame = frame then setStreamFrame s key { f with loss := true }
  else
    let fix := fun (p : Pkt) =>
      if p.type = 0x02 ∧ p.key = key ∧ p.tag = frame then
        { p with body := (p.body.take 1) ++ [(p.body.drop 1).headD 0 ||| 2] ++ p.body.drop 2 }
      else p
    { s with nlk := { s.nlk with img := s.nlk.img.map fix } }

/-- STRIPE_FAILOVER (R379): unacknowledged META and RESP packets of a link go to the other link with
new SEQs, unacknowledged IMG data is dropped and counted, and its END_OF_FRAME sets LINKLOSS.
DEDUCED (log 126). -/
def failover (s : State) (l : Nat) : State :=
  let x := s.link l
  let ps := x.replay.map (·.2)
  let moved := fun (p : Pkt) => ({ p with link := 1 - l } : Pkt)
  let lost := ps.filter (fun p => decide (p.cls = 0 ∧ p.type = 0x01))
  let eofs := ps.filter (fun p => decide (p.cls = 0 ∧ p.type = 0x02))
  let s := setLink s l { x with replay := [], resend := none }
  let s := { s with nlk := { s.nlk with
    resp := (ps.filter (fun p => decide (p.cls = 2))).map moved ++ s.nlk.resp,
    meta_ := (ps.filter (fun p => decide (p.cls = 1))).map moved ++ s.nlk.meta_,
    img := eofs.map moved ++ s.nlk.img } }
  lost.foldl (fun s p => markLoss (bump s (nlkDrop p.stream)) p.key p.tag) s

/-- A link that is UP goes to TRAINING; sequence, replay and credits are kept (R365). -/
def leaveUp (s : State) (l : Nat) : State :=
  let x := s.link l
  if x.state = .up then
    let s := setLink s l { x with state := .training, retry := false, rxWidth := 0, txWidth := 0,
                                  peerFresh := false, timeouts := 0, deskew := [], lanes := [] }
    let s := if s.nlk.mode = 1 then failover s l else s
    followDown s
  else s

/-- A link enters DOWN; from a training that began in OFF or UP this is logged (R365, R590). -/
def enterDown (s : State) (l : Nat) : State :=
  let x := s.link l
  let s := setLink s l { x with state := .down }
  let s := if x.retry then s
    else logReg s 0x01 1 (0x110010 + 4 * l) (linkStatus (s.link l)) l
  followDown s

/-- FRESH_RESET (R368): the link's sequence numbers, replay buffer and credits, and the requests not
yet executed on it.
DEDUCED (log 133). -/
def freshReset (s : State) (l : Nat) : State :=
  let q := seqLink s l
  let x := s.link q
  let s := bumpBy s (linkCnt l 0x1C) x.replay.length
  let s := setLink s q { x with txNext := 0, rxNext := 0, ackNext := 0, nak := none, replay := [] }
  let s := (sharers s l).foldl (fun s i => setLink s i { s.link i with resend := none }) s
  let y := s.link l
  let s := setLink s l { y with
    sent := [0, 0, 0], credit := [0, 0, 0], stalled := [], freed := [256, 1024] }
  let s := setLink s q { s.link q with bulk := none, waiting := [] }
  let pend := s.upd.pend.filter (fun p => decide (p.path ≠ 1 ∨ seqLink s p.link ≠ q))
  let s := { s with upd := { s.upd with pend := pend } }
  if pend = [] then dropJob s .updBlock else s

/-- The first FRESH of the adapter in a training, or in a retry, resets the link (R368), and the training then starts
the credit counts.
DEDUCED (log 188). -/
def peerReset (s : State) (l : Nat) (fresh : Bool) : State :=
  if fresh && !(s.link l).peerFresh then
    let s := freshReset s l
    setLink s l { s.link l with peerFresh := true }
  else s

/-- NLK_TS (R365, R367, R368): an exchange in TRAINING, for which PLL-S must be locked (R394, R397).
DEDUCED (log 188). -/
def trainStep (s : State) (l rx tx : Nat) (fresh : Bool) (credits : Option (List Nat))
    (lanes : List (Nat × Bool)) : State :=
  if (s.link l).state = .training ∧ s.clk.sLock = true then
    let s := peerReset s l fresh
    let x := { s.link l with rxOk := rx, txOk := tx, lanes := lanes }
    let s := setLink s l x
    if 8 ≤ laneCount rx ∧ 8 ≤ laneCount tx then
      match credits with
      | none => s
      | some cs =>
        let first := x.fresh || x.peerFresh
        if cs.length = 3 ∧ (first = true → cs.all (fun c => decide (1024 ≤ c)) = true) then
          let s := if x.everUp then bump s (linkCnt l 0x20) else s
          let s := setLink s l { x with
            state := .up, everUp := true, fresh := false, peerFresh := false, retry := false,
            creditSmall := false,
            rxWidth := widthOf (laneCount rx), txWidth := widthOf (laneCount tx),
            sent := if first then [0, 0, 0] else x.sent, credit := cs, stalled := [],
            failedLanes := 0, timeouts := 0, upAt := s.time.tb, txIndex := 0, txUnit := 0,
            creditAt := List.replicate 3 s.time.tb }
          followDown (sendCredit (sendCredit s l 0) l 1)
        else enterDown (setLink s l { x with creditSmall := true }) l
    else s
  else s

/-- NLK_TS (R365). -/
def execNlkTs (l : Nat) (rx : RxLanes) (tx : BitVec 16) (fresh : Bool) (credits : Option (List Nat))
    (s : State) : Host.Outcome State Fault Refusal :=
  .next (whenAwake s fun s => trainStep s l rx.ok.toNat tx.toNat fresh credits rx.order)

/-- The delays that bring the lanes of a row together (R362): each lane waits for the last one, where the
skew is within 64 units.
DEDUCED (log 164). -/
def deskewOf (skew : List Nat) : List Nat :=
  if skew.all (fun k => decide (k ≤ 64)) then skew.map (fun k => skew.foldl max 0 - k) else []

/-- NLK_ALIGN (R362): the lanes of a link that is training or UP are deskewed on the row.
DEDUCED (log 164). -/
def execNlkAlign (rx : AlignRow) (s : State) : Host.Outcome State Fault Refusal :=
  .next (whenAwake s fun s =>
    if (s.link rx.link).state = .training ∨ (s.link rx.link).state = .up then
      setLink s rx.link { s.link rx.link with deskew := deskewOf rx.skew, alignRow := rx.row }
    else s)

/-- A mask without a bit. -/
def clearBit (m i : Nat) : Nat := m - m / 2 ^ i % 2 * 2 ^ i

/-- A receive lane fails (R366): counted and logged, named in LANE_FAIL by its logical number of the last
training, and no longer good; a link that is UP retrains. Several lanes may fail together.
DEDUCED (log 189). -/
def laneFails (s : State) (l lane : Nat) : State :=
  let x := s.link l
  let good := x.rxOk ||| x.failedLanes
  let failed := if good / 2 ^ lane % 2 = 1 then x.failedLanes ||| 2 ^ lane else x.failedLanes
  let logical := laneCount (good % 2 ^ lane)
  let s := bump s (linkCnt l 0x24)
  let s := logReg s 0x03 1 (linkCnt l 0x24) lane 0
  let s := setLink s l { x with rxOk := clearBit x.rxOk lane, failedLanes := failed }
  let s := if good / 2 ^ lane % 2 = 1 then sendCtl s l 0x78 (laneFailUnit (2 ^ logical)) else s
  leaveUp s l

/-- LANE_FAILURE (R366). -/
def execLaneFailure (l lane : Nat) (s : State) : Host.Outcome State Fault Refusal :=
  .next (whenFault s fun s =>
    if (s.link l).state = .up ∨ (s.link l).state = .training then laneFails s l lane else s)

/-- The physical lanes that logical lanes of a mask run on (R367). -/
def physLanes (good mask : Nat) : List Nat :=
  let ps := (upto 16).filter (fun i => decide (good / 2 ^ i % 2 = 1))
  (ps.zipIdx.filter (fun q => decide (mask / 2 ^ q.2 % 2 = 1))).map (·.1)

/-- NLK_LANE_FAIL_RX (R365): the transmit lanes named are no longer good, and the link retrains. -/
def execNlkLaneFailRx (l : Nat) (mask : BitVec 16) (s : State) : Host.Outcome State Fault Refusal :=
  .next (whenAwake s fun s =>
    if (s.link l).state = .up then
      let x := s.link l
      let tx := (physLanes x.txOk mask.toNat).foldl (fun m p => m - 2 ^ p) x.txOk
      leaveUp (setLink s l { x with txOk := tx }) l
    else s)

/-- RETRAIN written 1 for a link (R365). -/
def retrain (s : State) (l : Nat) : State := if (s.link l).state = .up then leaveUp s l else s

/-- LINK_RETRAIN (R365). -/
def execLinkRetrain (_src : Src) (l : Nat) (s : State) : Host.Outcome State Fault Refusal :=
  .next (whenReg s fun s => retrain s l)

/-- TRAINING_TIMEOUT (R365). -/
def execTrainingTimeout (l : Nat) (s : State) : Host.Outcome State Fault Refusal :=
  .next (whenAwake s fun s => if (s.link l).state = .training then enterDown s l else s)

/-- TRAINING_RETRY (R365, R394): without PLL-S lock the lock is retried first. -/
def execTrainingRetry (l : Nat) (lockS : Bool) (s : State) : Host.Outcome State Fault Refusal :=
  .next (whenAwake s fun s =>
    if (s.link l).state = .down then
      let s := if s.clk.sLock then s else { s with clk := { s.clk with sLock := lockS, ld := unput s.clk.ld 1 } }
      if s.clk.sLock then
        setLink s l { s.link l with
          state := .training, retry := true, peerFresh := false, deskew := [], lanes := [] }
      else s
    else s)

/-- What a link has left to resend once packets are released: from the oldest one kept where the SEQ it
resends from is released (R373). -/
def Link.released (tb : Nat) (keep : List (Nat × Pkt)) (x : Link) : Link :=
  { x with
    relAt := tb,
    resend := match x.resend with
      | some r => if keep.any (fun p => decide (p.1 = r)) then some r else keep.head?.map (·.1)
      | none => none
    timeouts := 0 }

/-- The replay buffer of a link is released down to the packets that are kept, for every link that shares
it (R373, R376). -/
def release (s : State) (l : Nat) (keep : List (Nat × Pkt)) : State :=
  let q := seqLink s l
  (sharers s l).foldl (fun s i => setLink s i ((s.link i).released s.time.tb keep))
    (setLink s q { s.link q with replay := keep })

/-- How far a SEQ lies past the newest packet acknowledged. -/
def Link.past (x : Link) (seq : Nat) : Nat := (seq + 65536 - x.ackNext % 65536) % 65536

/-- NLK_ACK (R373): a SEQ newer than every packet acknowledged and not newer than the last sent releases the packets
up to and including it. -/
def execNlkAck (l seq : Nat) (s : State) : Host.Outcome State Fault Refusal :=
  .next (whenAwake s fun s =>
    let r := s.seqRec l
    if r.past seq < r.past r.txNext then
      let s := release s l (r.replay.filter (fun p => decide (r.past seq < r.past p.1)))
      setLink s (seqLink s l) { s.seqRec l with ackNext := (seq + 1) % 65536 }
    else bump s (linkCnt l 0x28))

/-- NLK_NAK (R373): the packets from a SEQ in the replay buffer are sent again on that link. -/
def execNlkNak (l seq : Nat) (s : State) : Host.Outcome State Fault Refusal :=
  .next (whenAwake s fun s =>
    if (s.seqRec l).replay.any (fun p => decide (p.1 = seq)) then
      setLink s l { s.link l with resend := some seq }
    else bump s (linkCnt l 0x28))

/-- NLK_CREDIT (R372): the credit count of a class; a stall of the class ends.
DESIGN CHOICE (log 232). -/
def execNlkCredit (l cls count : Nat) (s : State) : Host.Outcome State Fault Refusal :=
  .next (whenAwake s fun s =>
    let x := s.link l
    if x.state = .up ∧ cls < 3 then
      setLink s l { x with
        credit := x.credit.set cls (count % 65536), stalled := x.stalled.filter (· ≠ cls),
        creditAt := if x.credit.getD cls 0 = count % 65536 then x.creditAt else x.creditAt.set cls s.time.tb }
    else s)

/-- CONTROL_UNIT_BAD_CRC (R363): a unit whose CRC-8 fails is discarded and counted. -/
def execControlUnitBadCrc (u : CtlRx) (s : State) : Host.Outcome State Fault Refusal :=
  .next (whenAwake s fun s => if badUnit u.bytes then bump s (linkCnt u.link 0x0C) else s)

/-- TB at which the replay timeout of a link is due (R373, R386): REPLAY_TMO after the last release, after the first
packet of its buffer, after the link came UP or after the timeout before.
DESIGN CHOICE (log 232). -/
def replayDue (s : State) (x : Link) : Nat := max x.relAt x.upAt + 750 * max 10 (s.fc 0x110004 0 8)

/-- REPLAY_TIMEOUT (R373, R365, R386): no release for REPLAY_TMO; resends from the oldest packet, and retrains after
REPLAY_MAX. -/
def execReplayTimeout (l : Nat) (s : State) : Host.Outcome State Fault Refusal :=
  .next (whenAwake s fun s =>
    match (s.seqRec l).replay with
    | [] => s
    | (q, _) :: _ =>
      let x := s.link l
      if x.state = .up then
        let n := x.timeouts + 1
        let s := reach s (replayDue s x)
        let s := setLink s l { x with resend := some q, timeouts := n, relAt := s.time.tb }
        if orIf (s.fc 0x110004 8 4) 1 ≤ n then leaveUp s l else s
      else s)

/-- A packet has credit on a link (R372). -/
def hasCredit (x : Link) (p : Pkt) : Bool :=
  let k := x.credit.getD p.cls 0
  let u := x.sent.getD p.cls 0
  decide (p.units ≤ (k + 65536 - u % 65536) % 65536)

/-- The bytes of a packet on the wire (R370).
PRESUMED (log 125). -/
def Pkt.wire (p : Pkt) (seq : Nat) : List Byte :=
  let pad := 32 * p.units - 20 - p.body.length
  let b := le 1 p.type
    ++ le 1 (p.stream + 16 * p.cls + (if p.first then 64 else 0) + (if p.last then 128 else 0))
    ++ le 2 seq ++ le 2 p.units ++ le 1 pad ++ zeros 1 ++ le 4 p.tag ++ le 4 p.index ++ p.body
    ++ zeros pad
  b ++ le 4 (crc32c b)

/-- The name of a frame's data under which the packets carried are counted. -/
def Pkt.frameKey (p : Pkt) : Nat := p.key * 2 ^ 32 + p.tag

/-- The packets of a packet's frame that a link has carried in STRIPE (R382). -/
def carriedOn (s : State) (l : Nat) (p : Pkt) : Nat :=
  let c := mget (0, 0) s.nlk.carried p.frameKey
  if l = 0 then c.1 else c.2

/-- The packet is an END_OF_FRAME in STRIPE. -/
def stripeEnd (s : State) (p : Pkt) : Bool := decide (s.nlk.mode = 1 ∧ p.type = 0x02)

/-- END_OF_FRAME follows the last packet of its frame (R382): none is left in the queue. -/
def dataGone (s : State) (p : Pkt) : Bool :=
  !stripeEnd s p || !(s.nlk.queue p.cls).any (fun x => decide (x.type = 0x01 ∧ x.frameKey = p.frameKey))

/-- The END_OF_FRAME of a link that carried nothing of the frame goes nowhere (R382), nor does one on a link that has
its own.
DEDUCED (log 126). -/
def endVoid (s : State) (l : Nat) (p : Pkt) : Bool :=
  stripeEnd s p && dataGone s p &&
    (if p.link = l then decide (carriedOn s l p = 0 ∧ 0 < carriedOn s (1 - l) p) else decide (0 < carriedOn s l p))

/-- A packet may go on a link: it is routed there, or the other link is not UP (R378). -/
def mayUse (s : State) (l : Nat) (p : Pkt) : Bool :=
  (decide (p.link = 2 ∨ p.link = l) || !s.isUp (1 - l)) && !endVoid s l p

/-- A packet as a link carries it: END_OF_FRAME in STRIPE names the packets that the link has carried (R382). -/
def onWire (s : State) (l : Nat) (p : Pkt) : Pkt :=
  if stripeEnd s p && (look s.nlk.carried p.frameKey).isSome then
    { p with body := p.body.take 12 ++ le 4 (carriedOn s l p) ++ p.body.drop 16 }
  else p

/-- A packet has left on a link in STRIPE (R382): data is counted; with an END_OF_FRAME those for links that carried
nothing go, and with the last one the count.
DEDUCED (log 126). -/
def noteCarried (s : State) (l : Nat) (p : Pkt) : State :=
  if s.nlk.mode ≠ 1 ∨ p.cls = 2 then s
  else if p.type = 0x01 then
    let c := mget (0, 0) s.nlk.carried p.frameKey
    let c := if l = 0 then (c.1 + 1, c.2) else (c.1, c.2 + 1)
    { s with nlk := { s.nlk with carried := put s.nlk.carried p.frameKey c } }
  else
    let mine := fun (x : Pkt) => decide (x.type = 0x02 ∧ x.frameKey = p.frameKey)
    let q := (s.nlk.queue p.cls).filter (fun x => !(mine x && decide (carriedOn s x.link x = 0)))
    let s := { s with nlk := s.nlk.setQueue p.cls q }
    if q.any mine then s else { s with nlk := { s.nlk with carried := unput s.nlk.carried p.frameKey } }

/-- The replay buffer takes a packet (R373). -/
def replayRoom (x : Link) (p : Pkt) : Bool :=
  decide (x.replay.length < 8192) &&
    decide (queueBytes (x.replay.map (·.2)) + 32 * p.units ≤ 262144)

/-- The links on which a new packet goes: every UP link in use in MIRROR (R376). -/
def sendLinks (s : State) (l : Nat) : List Nat :=
  if s.nlk.mode = 0 then [0, 1].filter (fun i => s.isUp i) else [l]

/-- The first packet of a queue on which a test holds, and the queue without it. -/
def takeFirst (t : Pkt → Bool) : List Pkt → Option (Pkt × List Pkt)
  | [] => none
  | p :: q =>
    if t p then some (p, q)
    else match takeFirst t q with
      | some (x, q') => some (x, p :: q')
      | none => none

/-- The order of the streams within a class (R381): META as listed, IMG in turn after the last one served;
responses have stream 0. -/
def streamOrder (s : State) (cls : Nat) : List Nat :=
  match cls with
  | 0 => (rangeFrom (s.nlk.turn + 1) 10).map (· % 10)
  | 1 => [7, 5, 4, 3, 6, 10]
  | _ => [0]

/-- The packet of a class whose turn it is on a link, and its queue without it (R378, R381, R382). -/
def headOf (s : State) (l cls : Nat) : Option (Pkt × List Pkt) :=
  (streamOrder s cls).findSome? (fun st =>
    match takeFirst (fun p => decide (p.stream = st) && mayUse s l p) (s.nlk.queue cls) with
    | some (p, q) => if dataGone s p then some (p, q) else none
    | none => none)

/-- TB at which a class of a link has been without credit for CREDIT_TMO (R384, R386): from its last packet sent or
count received, or the link's coming UP, on.
DESIGN CHOICE (log 232). -/
def stallDue (s : State) (x : Link) (cls : Nat) : Nat :=
  x.creditAt.getD cls 0 + 750 * orIf (s.fc 0x110004 16 16) 1

/-- CREDIT_STALL (R384, R386): after CREDIT_TMO, counted and logged once per stall of a class whose next
packet on the link lacks credit. -/
def execCreditStall (l cls : Nat) (s : State) : Host.Outcome State Fault Refusal :=
  .next (whenAwake s fun s =>
    let x := s.link l
    match headOf s l cls with
    | none => s
    | some (p, _) =>
      if x.state = .up ∧ cls < 3 ∧ hasCredit x p = false ∧ cls ∉ x.stalled then
        let s := bump (reach s (stallDue s x cls)) (linkCnt l 0x2C)
        let s := logReg s 0x01 1 (linkCnt l 0x2C) (s.cur (linkCnt l 0x2C)).toNat 0
        setLink s l { x with stalled := cls :: x.stalled }
      else s)

/-- The units of a packet take their place in the unit stream (R362, R370): its SOP unit, then four data units for
each unit of LEN. -/
def placeUnits (s : State) (l : Nat) (p : Pkt) : State :=
  setLink s l (takeUnits s (1 + 4 * p.units) (s.link l))

/-- The next new packet of a class on a link, unless the class lacks credit for it (R372, R381). -/
def offer (s : State) (l cls : Nat) : Option (Nat × Pkt × List Pkt) :=
  match headOf s l cls with
  | some (p, q) => if (sendLinks s l).all (fun i => hasCredit (s.link i) p) then some (cls, p, q) else none
  | none => none

/-- The choice of the next new packet in the strict order of R381: class, packet, rest of its queue. A class
without credit is passed over; while a link that the packet goes on still resends (R381), or the replay
buffer has no room for it (R373), there is none. -/
def nextNew (s : State) (l : Nat) : Option (Nat × Pkt × List Pkt) :=
  if (sendLinks s l).all (fun i => decide ((s.link i).resend = none)) then
    match [2, 1, 0].findSome? (offer s l) with
    | some (cls, p, q) => if replayRoom (s.seqRec l) p then some (cls, p, q) else none
    | none => none
  else none

/-- A packet leaves on a link: its units count against the credit of its class (R372). -/
def sendOn (seq : Nat) (p : Pkt) (s : State) (l : Nat) : State :=
  let s := placeUnits s l p
  let x := s.link l
  setLink s l { x with
    sent := x.sent.set p.cls ((x.sent.getD p.cls 0 + p.units) % 65536), lastTx := some (seq, p),
    creditAt := x.creditAt.set p.cls s.time.tb }

/-- The next packet is resent from the replay buffer (R373): NLK_REPLAY counts it.
DEDUCED (log 127). -/
def sendReplay (s : State) (l q : Nat) : State :=
  let rest := (s.seqRec l).replay.dropWhile (fun p => decide (p.1 ≠ q))
  match rest with
  | [] => setLink s l { s.link l with resend := none }
  | (n, p) :: t =>
    if hasCredit (s.link l) p then
      let s := sendOn n p (bump s (linkCnt l 0x1C)) l
      setLink s l { s.link l with resend := t.head?.map (·.1) }
    else s

/-- A new packet enters a replay buffer (R373): REPLAY_TMO runs from the first one on. -/
def keepSent (s : State) (l n : Nat) (p : Pkt) : State :=
  let r := s.seqRec l
  let s := if r.replay = [] then
      (sharers s l).foldl (fun s i => setLink s i { s.link i with relAt := s.time.tb }) s
    else s
  setLink s (seqLink s l) { s.seqRec l with txNext := (n + 1) % 65536, replay := r.replay ++ [(n, p)] }

/-- An entry that has left on stream 10 keeps its place in the log (R545, R547). -/
def fixLog (s : State) (p : Pkt) : State :=
  if p.stream = 10 then { s with log := { s.log with cycle := 0 } } else s

/-- PACKET_TRANSMIT (R381): replay, RESP, META, IMG, as credit and replay space allow. -/
def transmit (s : State) (l : Nat) : State :=
  if s.isUp l && linkUsed s l then
    match (s.link l).resend with
    | some q => sendReplay s l q
    | none =>
      match nextNew s l with
      | none => s
      | some (cls, p, q) =>
        let n := (s.seqRec l).txNext
        let p := onWire s l p
        let s := noteCarried { s with nlk := { s.nlk.setQueue cls q with
          turn := if cls = 0 then p.stream else s.nlk.turn } } l p
        let s := keepSent (fixLog s p) l n p
        (sendLinks s l).foldl (sendOn n p) s
  else s

end Sys2Proof.Machine
end

