-- ==== Sys2Proof/Machine/Ras.lean ====
section
/-!
DEFINITION. Supervision (R535 to R541, R545): unit faults and fault restarts, lockstep, watchdog,
scrubber, thermal trip, and the log second.
-/

namespace Sys2Proof.Machine

/-- The tier to which a fault in a unit lowers the device (R32, R35). -/
def unitTier : UnitId → Nat
  | .kennel | .lanes | .scent | .heel => 2
  | _ => 1

/-- The status register that a unit's fault concerns (R590).
DESIGN CHOICE (log 146). -/
def unitReg : UnitId → Nat
  | .pllC => 0x010004
  | .lanes => 0x0C0020
  | .thermal => 0x130004
  | _ => 0x000004

/-- Every lane of both links goes to electrical idle (R36, R360). -/
def lanesIdle (s : State) : State :=
  let s := setLink s 0 { s.link 0 with state := .off, rxWidth := 0, txWidth := 0 }
  let s := setLink s 1 { s.link 1 with state := .off, rxWidth := 0, txWidth := 0 }
  followDown s

/-- The tier falls to t; in T1 the streams stop and the links go idle (R35, R36). -/
def fallTo (s : State) (t : Nat) : State :=
  let s := setTier s t
  if t = 1 then lanesIdle s else s

/-- FAULT_RESTART: a restart with CAUSE 4 while RST_EN is set and RST_MAX is not reached, else the
refusal is counted and logged (R540). -/
def faultRestart (s : State) : State :=
  if s.fc 0x130000 0 1 = 1 ∧ rstHour s < s.fc 0x130000 8 4 then
    let s := bump s 0x130090
    callRestartAs { s with sys := { s.sys with rstTimes := s.time.tb :: s.sys.rstTimes } } 4 1
  else
    let s := bump s 0x130094
    logReg s 0x02 2 0x130094 (rstHour s) 0

/-- A unit fault (R35, R535, R540): the tier falls where it requires the unit, an ERROR entry with
UNCORR is logged, a confirmation fails, and a fault restart may follow. -/
def utFault (s : State) (u : UnitId) : State :=
  let t := unitTier u
  let s := { s with sys := { s.sys with failed := u :: s.sys.failed.filter (· ≠ u) } }
  if s.sys.tier ≤ t then
    confirmFails (logEvent s (blockOf (unitReg u)) 0x04 2 true (unitReg u) s.sys.tier 0)
  else
    let s := fallTo s t
    let s := logEvent s (blockOf (unitReg u)) 0x04 2 true (unitReg u) t 0
    let s := confirmFails s
    if s.sys.phase = .restarting then s else faultRestart s

/-- A fault in supervisor state: an ERROR entry, and a warm restart with CAUSE 4 (R535, R540). -/
def ueFault (s : State) (addr : Nat) : State :=
  callRestart (logEvent s 0x26 0x08 2 true 0x130008 addr 0) 4

/-- A contained fault from an uncorrectable word (R535, R536). -/
def ctFault (s : State) (arg0 arg1 : Nat) : State :=
  let s := bump s 0x130088
  confirmFails (logEvent s (blockOf arg0) 0x03 1 true arg0 arg1 0)

/-- UNIT_FAULT (R35). -/
def execUnitFault (u : UnitId) (s : State) : Host.Outcome State Fault Refusal :=
  .next (whenFault s fun s =>
    let s := match u with
      | .rdo => { s with sys := { s.sys with rdoStopped := true } }
      | _ => s
    utFault s u)

/-- WATCHDOG_EXPIRY (R538): four consecutive edges without service; in debug halt the watchdog is stopped.
DEDUCED (log 145). -/
def execWatchdogExpiry (s : State) : Host.Outcome State Fault Refusal :=
  .next (whenFault s fun s => if s.time.slow = false ∧ 4 ≤ s.sys.wdMissed then ueFault s 0 else s)

/-- Outputs go to the T0 states (R36): the tick stops and every lane is idle. -/
def enterT0 (s : State) : State :=
  let s := lanesIdle s
  { s with sys := { s.sys with phase := .dark }, time := { s.time with tickOpen := false },
           clk := { s.clk with outs := [] } }

/-- LOCKSTEP_MISMATCH (R539): the mismatch count of the always-on bank, its log entry, and the
restart, or T0 at the third close mismatch. -/
def lockstep (s : State) : State :=
  let n := if 0 < s.sys.lsN ∧ s.time.tb ≤ s.sys.lsLast + 45000000000 then s.sys.lsN + 1 else 1
  let s := { s with sys := { s.sys with lsN := n, lsLast := s.time.tb } }
  let s := logEvent s 0x26 0x09 2 true 0x130008 n 0
  if n = 3 then enterT0 s else callRestart s 3

/-- LOCKSTEP_MISMATCH (R539).
DEDUCED (log 45). -/
def execLockstepMismatch (s : State) : Host.Outcome State Fault Refusal :=
  .next (whenFault s lockstep)

/-- The thermal trip temperature in °C (R541, R551). -/
def tripTemp (s : State) : Nat := max 96 (s.fc 0x130000 16 8)

/-- THERMAL_TRIP (R541): T_j at or above TRIP at eight consecutive edges is a unit fault to T1 whose
restart is held back.
DEDUCED (log 147). -/
def execThermalTrip (s : State) : Host.Outcome State Fault Refusal :=
  .next (whenFault s fun s =>
    if 8 ≤ s.sys.tripEdges ∧ s.sys.tripped = false then
      let lowers := decide (1 < s.sys.tier)
      let s := bump { s with sys := { s.sys with
        tripped := true, tripRestart := lowers,
        failed := .thermal :: s.sys.failed.filter (· ≠ .thermal) } } 0x13009C
      let s := fallTo s 1
      let s := if lowers then logEvent s 0x26 0x0A 2 true 0x130004 (s.fc 0x130004 0 16) 0
        else logEvent s 0x26 0x04 2 true 0x130004 1 0
      confirmFails s
    else s)

/-- THERMAL_RECOVERY (R541): below TRIP − 15 °C the held restart is released. -/
def execThermalRecovery (s : State) : Host.Outcome State Fault Refusal :=
  .next (whenAwake s fun s =>
    if s.sys.tripped = true ∧ sgn 16 (s.fc 0x130004 0 16) < ((tripTemp s - 15) * 256 : Nat) then
      let held := s.sys.tripRestart
      let s := { s with sys := { s.sys with tripped := false, tripRestart := false, tripEdges := 0 } }
      if held then faultRestart s else s
    else s)

/-- Lines of a full eDRAM scrub pass: 192 MiB in 64-byte lines (R537). -/
def scrubLines : Nat := 3145728

/-- CORRECTED_WORD: corrections counted, and summed for the log second (R535, R537). -/
def correctedWords (s : State) (edram : Bool) (n : Nat) : State :=
  if edram then
    bumpBy { s with log := { s.log with ceEdram := s.log.ceEdram + n } } 0x130084 n
  else bumpBy { s with log := { s.log with ceSram := s.log.ceSram + n } } 0x130080 n

/-- SCRUB_LINE (R537): an eDRAM line, 256 bus counts after the one before, or the SRAMs, 100 ms after their last
scrub, are read, corrected and written back; a busy line is skipped; the last line of eDRAM ends a pass. -/
def execScrubLine (edram : Bool) (r : ScrubResult) (s : State) : Host.Outcome State Fault Refusal :=
  .next (whenAwake s fun s =>
    let s := reach s (if edram then s.sys.scrubAt + 256 else s.sys.sramAt + 75000000)
    let s := match r with
      | .corrected n => correctedWords s edram n
      | _ => s
    if edram then
      let s := { s with sys := { s.sys with scrubAt := s.time.tb } }
      let p := s.sys.scrubPos + 1
      if p = scrubLines then bump { s with sys := { s.sys with scrubPos := 0 } } 0x13008C
      else { s with sys := { s.sys with scrubPos := p } }
    else { s with sys := { s.sys with sramAt := s.time.tb } })

/-- The end of the log second under way that has not been summed up yet (R545).
DEDUCED (log 194). -/
def secondEnd (s : State) : Nat :=
  let b := ceilDiv s.time.tb countsPerSec * countsPerSec
  if b ≤ s.log.sumAt then b + countsPerSec else b

/-- LOG_SECOND (R535, R545): a log second, a whole second of TB, is over; one CE_SUMMARY entry per memory with
corrections, and fresh rate limits.
DEDUCED (log 194). -/
def execLogSecond (s : State) : Host.Outcome State Fault Refusal :=
  .next (whenAwake s fun s =>
    let s := reach s (secondEnd s)
    let a := s.log.ceSram
    let b := s.log.ceEdram
    let s := if 0 < a then logReg s 0x07 0 0x130080 a 0 else s
    let s := if 0 < b then logReg s 0x07 0 0x130084 b 0 else s
    { s with log := { s.log with ceSram := 0, ceEdram := 0, sumAt := s.time.tb } })

end Sys2Proof.Machine
end

