-- ==== Sys2Proof/Machine/Clock.lean ====
section
/-!
DEFINITION. Clock synthesis (R390 to R419): lock and its loss, PLL-G and GENLOCK pulses, the external
outputs and SYNC.
-/

namespace Sys2Proof.Machine

/-- A CLEAN use of PLL-G (R398). -/
def cleanUse (s : State) : Bool := decide (s.clk.gUse = 1 ∨ s.clk.gUse = 2)

/-- The input of PLL-G is the GENLOCK pulse train (R400, R415). -/
def pulseInput (s : State) : Bool :=
  !cleanUse s && decide (s.fc 0x010040 3 2 = 0 ∨ s.fc 0x010040 3 2 = 3)

/-- Outputs whose source loop has lost lock show it, those that wait for SYNC too, and a running one stops
or held low when STOP_UNLOCK is set (R409). -/
def stopUnlocked (s : State) (src : Nat) : State :=
  (upto 4).foldl (fun s i =>
    let o := s.out i
    let a := 0x010100 + 0x10 * i
    if o.src = src ∧ (o.running = true ∨ o.waitSync = true) then
      let s := setFld s a 30 1 1
      if s.fc a 9 1 = 1 then setOut s i { o with running := false, low := false, aligned := none } else s
    else s) s

/-- The source loop of an output is enabled and locked (R407, R409). -/
def srcLocked (s : State) (src : Nat) : Bool :=
  match src with
  | 0 => s.clk.cLock
  | 1 => s.clk.gLock && !legacyMode s
  | 2 => s.clk.gLock && legacyMode s
  | 3 => !s.clk.refLost
  | _ => true

/-- The input frequency of PLL-G in TRACK use, in Hz as a numerator and denominator (R400): of the pulse
train by its tracked period, of the clock on GENLOCK, or of REFCLK; denominator 0 while no period is
known. -/
def gInput (s : State) : Nat × Nat :=
  match s.fc 0x010040 3 2 with
  | 1 => (s.clk.genHz, 1)
  | 2 =>
    let (n, d) := refStep s.clk.refCode
    (750000000 * d, n)
  | _ => (750000000 * 16, s.clk.period16.getD 0)

/-- The reference divider of PLL-G in TRACK use (R400, R415): 1 with the pulse train. -/
def gRdiv (s : State) : Nat := if pulseInput s then 1 else orIf (s.fc 0x010044 0 10) 1

/-- The PLL-G VCO frequency in Hz as a numerator and denominator (R392, R398). -/
def gVco (s : State) : Nat × Nat :=
  if cleanUse s then (6000000000, 1)
  else
    let den := orIf (s.fc 0x010050 0 24) 1
    let (n, d) := gInput s
    (8 * (s.fc 0x010048 0 30 * den + s.fc 0x01004C 0 24) * n, den * gRdiv s * d)

/-- A frequency lies in a range, in Hz. -/
def hzIn (f : Nat × Nat) (lo hi : Nat) : Bool := decide (0 < f.2 ∧ lo * f.2 ≤ f.1 ∧ f.1 ≤ hi * f.2)

/-- The settings of PLL-G let it lock (R390, R392, R400): NUM below DEN, the phase-detector frequency, the
input and the VCO in range.
DESIGN CHOICE (log 166). -/
def gLegal (s : State) : Bool :=
  cleanUse s || legacyMode s ||
    (let f := gInput s
     decide (s.fc 0x01004C 0 24 < orIf (s.fc 0x010050 0 24) 1)
       && hzIn (f.1, f.2 * gRdiv s) 1 60000000
       && (match s.fc 0x010040 3 2 with
           | 1 => hzIn f 1000000 156250000
           | 2 => true
           | _ => hzIn f 1 2000)
       && hzIn (gVco s) 5600000000 6400000000)

/-- The loop bandwidth of PLL-G in TRACK use, in Hz as a numerator and denominator (R400). -/
def gBandwidth (s : State) : Nat × Nat :=
  let f := gInput s
  (f.1, f.2 * gRdiv s * 2 ^ (4 + s.fc 0x010040 8 4))

/-- The frequency of an output in Hz, as a numerator and denominator; TICK has none (R407, R408). -/
def outFreq (s : State) (src div : Nat) : Nat × Nat :=
  let (n, d) := match src with
    | 0 => (6000000000, 1)
    | 1 => gVco s
    | 2 =>
      let (n, d) := gInput s
      (s.fc 0x010054 0 7 * n, d)
    | 3 =>
      let (n, d) := refStep s.clk.refCode
      (750000000 * d, n)
    | _ => (0, 1)
  (n, d * orIf div 1)

/-- DELAY modulo the output period, in steps of the source as a numerator and denominator (R407): 8 steps
to a source period, and 64·n/d steps to a REFCLK period of n/d bus counts; TICK takes its period at each
edge. -/
def outDelay (s : State) (src div delay : Nat) : Nat × Nat :=
  match src with
  | 3 =>
    let (n, d) := refStep s.clk.refCode
    ((delay * d) % (64 * n * div), d)
  | 4 => (delay, 1)
  | _ => (delay % (8 * div), 1)

/-- The highest frequency of a format in Hz (R409). -/
def fmtMax (fmt : Nat) : Nat :=
  match fmt with
  | 0 => 800000000
  | 1 => 400000000
  | 2 => 200000000
  | _ => 125000000

/-- An output is started with the settings of its registers, or not, with its error shown (R407,
R409): with WAIT_SYNC it starts at the next SYNC reset, and one that was running holds low until then (R410); before the
first tick edge every output stays disabled (R459).
DEDUCED (log 236). -/
def startOut (s : State) (i : Nat) : State :=
  let a := 0x010100 + 0x10 * i
  let src := s.fc a 1 3
  let fmt := s.fc a 4 2
  let div := orIf (s.fc (a + 4) 0 24) 1
  let delay := s.fc (a + 8) 0 16
  let s := setFld s a 29 3 0
  if s.sys.phase ≠ .run then setOut s i ClkOut.off
  else if 5 ≤ src then setOut (setFld s a 29 1 1) i ClkOut.off
  else
    let (n, d) := outFreq s src div
    let high := decide (0 < d ∧ fmtMax fmt * d < n)
    let unlocked := !srcLocked s src
    let s := if high then setFld s a 31 1 1 else s
    let s := if unlocked then setFld s a 30 1 1 else s
    if high || unlocked then setOut s i ClkOut.off
    else
      let wait := decide (s.fc a 8 1 = 1)
      let (dn, dd) := outDelay s src div delay
      let low := wait && ((s.out i).running || (s.out i).low)
      setOut s i { running := !wait, waitSync := wait, low := low, src := src, div := div, high := ceilDiv div 2,
                   delay := dn, delayDen := dd, fmt := fmt, pulse := none, lastPulse := none, aligned := none }

/-- The register of an output is written and takes its effect: EN starts it, a change restarts it at
the end of its high phase, and clearing EN disables it (R410).
DEDUCED (log 83). -/
def outWrite (s : State) (i w : Nat) (v : Word) : State :=
  let a := 0x010100 + 0x10 * i
  let before := decide (s.fc a 0 1 = 1)
  let was := if before then some (s.fc a 1 3, s.fc a 4 2, s.cur (a + 4), s.cur (a + 8)) else none
  let mask : Word := if w = 0 then 0x3BF else if w = 1 then 0xFFFFFF else 0xFFFF
  let s := setReg s (a + 4 * w) ((s.cur (a + 4 * w) &&& ~~~mask) ||| (v &&& mask))
  if s.fc a 0 1 = 1 then
    if was = some (s.fc a 1 3, s.fc a 4 2, s.cur (a + 4), s.cur (a + 8)) then s else startOut s i
  else setOut (setFld s a 29 3 0) i ClkOut.off

/-- The enabled outputs start at the first tick edge of a start (R411, R459). -/
def startOuts (s : State) : State :=
  (upto 4).foldl (fun s i => if s.fc (0x010100 + 0x10 * i) 0 1 = 1 then startOut s i else s) s

/-- An output that waits for its loop starts when the loop locks (R409, R411). -/
def startWaiting (s : State) (src : Nat) : State :=
  if srcLocked s src = false then s
  else (upto 4).foldl (fun s i =>
    let a := 0x010100 + 0x10 * i
    if s.fc a 0 1 = 1 ∧ s.fc a 1 3 = src then
      if (s.out i).running = true ∨ (s.out i).waitSync = true then setFld s a 30 1 0 else startOut s i
    else s) s

/-- The lock detector of R405 over the phase errors of successive cycles, in steps of 1/8 VCO period, from
a lock state and a count of consecutive cycles towards its change: it stops where the state changes. -/
def ldFeed (n win loss : Nat) : Bool → Nat → List Nat → Bool × Nat
  | lk, c, [] => (lk, c)
  | lk, c, x :: t =>
    if decide (x ≤ win) = lk then ldFeed n win loss lk 0 t
    else if (if lk then loss else n) ≤ c + 1 then (!lk, 0) else ldFeed n win loss lk (c + 1) t

/-- The index of a loop in CLK_LD (R416). -/
def pllIdx : Pll → Nat
  | .c => 0
  | .s => 1
  | .g => 2

/-- N, WIN and LOSS of a loop, as they act (R416). -/
def ldLimits (s : State) (l : Pll) : Nat × Nat × Nat :=
  let a := 0x010060 + 4 * pllIdx l
  (clamp 16 4096 (s.fc a 0 13), s.fc a 16 8, orIf (s.fc a 24 4) 1)

/-- Phase errors pass the detector of a loop (R405): the lock state after them. -/
def ldRun (s : State) (l : Pll) (lk : Bool) (errs : List Nat) : Bool × State :=
  let (n, win, loss) := ldLimits s l
  let (lk, c) := ldFeed n win loss lk (mget 0 s.clk.ld (pllIdx l)) errs
  (lk, { s with clk := { s.clk with ld := mput 0 s.clk.ld (pllIdx l) c } })

/-- PLL-C declares lock: the bus clock is its own (R394, R421). -/
def lockC (s : State) : State :=
  startWaiting { s with
    clk := { s.clk with cLock := true, busSrc := 0 },
    time := { s.time with src := if s.time.slow then .slow else .bus } } 0

/-- PLL-G declares lock; the exit from holdover is logged (R399, R401). -/
def lockG (s : State) : State :=
  let held := s.clk.gHoldover
  let s := { s with clk := { s.clk with
    gLock := true, gEver := true, gHoldover := false, gReacquire := false } }
  let s := if held then logReg s 0x01 1 0x010004 0 0 else s
  startWaiting (startWaiting s 1) 2

/-- PLL_LOCK_TIMEOUT (R394): the bus clock is taken from REFCLK, or links do not train. -/
def execPllLockTimeout (l : Pll) (s : State) : Host.Outcome State Fault Refusal :=
  .next (whenReg s fun s =>
    match l with
    | .c =>
      if s.clk.cLock then s
      else { s with clk := { s.clk with cEnabled := false, busSrc := 1 },
                    time := { s.time with src := if s.time.slow then .slow else .refclk } }
    | .s =>
      if s.clk.sLock then s
      else (upto 2).foldl (fun s i =>
        if (s.link i).state = .training then enterDown s i else s) s
    | .g => s)

/-- The PLL-C settings in effect (R391, R398, R414): of PLL-G ÷ 60 in a CLEAN use, else of the REF_CODE
row. -/
def cPllWords (s : State) : State :=
  let (r, n, num, den) := if cleanUse s && !s.clk.gBypassed then (2, 120, 0, 1) else refRow s.clk.refCode
  setRegN (setRegN (setRegN s 0x010010 (n * 65536 + r)) 0x010014 num) 0x010018 den

/-- PLL_G_LOCK_TIMEOUT (R398): in a CLEAN use PLL-C takes REFCLK directly for this start, where PLL-G has not
locked since its enable. -/
def execPllGLockTimeout (s : State) : Host.Outcome State Fault Refusal :=
  .next (whenReg s fun s =>
    if cleanUse s = true ∧ s.clk.gEver = false ∧ s.clk.gBypassed = false then
      let s := cPllWords { s with clk := { s.clk with gBypassed := true } }
      logReg s 0x01 1 0x010004 1 0
    else s)

/-- PLL-C loses lock (R395): bus clock from REFCLK, count and Pointer clocks stopped. -/
def cLost (s : State) : State :=
  let s := { s with
    clk := { s.clk with cLock := false, busSrc := 1 },
    time := { s.time with src := if s.time.slow then .slow else .refclk },
    sys := { s.sys with rdoStopped := true } }
  let s := bump s 0x010200
  let s := logReg s 0x01 1 0x010004 0 0
  stopUnlocked s 0

/-- PLL-C has lost lock during a run: it is counted and logged, and a fault in a T2 unit (R395). -/
def cUnlock (s : State) : State := utFault (cLost s) .pllC

/-- PLL-S has lost lock: it is counted and logged, and every link in use leaves UP (R397). -/
def sUnlock (s : State) : State :=
  let s := bump { s with clk := { s.clk with sLock := false } } 0x010204
  let s := logReg s 0x03 1 0x010204 0x010204 0
  leaveUp (leaveUp s 0) 1

/-- The shortest run of phase errors by which a loop in lock loses it (R405).
DEDUCED (log 137). -/
def beyond (s : State) (l : Pll) : List Nat :=
  List.replicate (ldLimits s l).2.2 ((ldLimits s l).2.1 + 1)

/-- PLL_C_UNLOCK (R395, R405). -/
def execPllCUnlock (s : State) : Host.Outcome State Fault Refusal :=
  .next (whenFault s fun s =>
    if s.clk.cLock then inCycle s (fun s => cUnlock (ldRun s .c true (beyond s .c)).2) else s)

/-- PLL_S_UNLOCK (R397, R405): every link in use leaves UP, and the tier does not change. -/
def execPllSUnlock (s : State) : Host.Outcome State Fault Refusal :=
  .next (whenFault s fun s => if s.clk.sLock then sUnlock (ldRun s .s true (beyond s .s)).2 else s)

/-- Ticks in GENLOCK mode go on at the last period (R78, R401, R402), with an entry in the log. -/
def holdGenlock (s : State) : State :=
  if edgeKind s = 1 ∧ s.time.glHold = false then
    let s := { s with time := { s.time with glHold := true, glSlew := false } }
    logReg s 0x01 1 0x04C214 (trigStatus s) 0
  else s

/-- PLL-G is out of lock (R405, R409, R419): a loss of lock is counted, and its outputs follow. -/
def gUnlock (s : State) : State :=
  let s := if s.clk.gLock then bump s 0x010208 else s
  let s := { s with clk := { s.clk with gLock := false, ld := unput s.clk.ld 2 } }
  holdGenlock (stopUnlocked (stopUnlocked s 1) 2)

/-- PLL-G enters holdover, which is logged, and loses lock (R399, R401). -/
def gLost (s : State) : State :=
  let s := { s with clk := { s.clk with gHoldover := true, gReacquire := false } }
  logReg (gUnlock s) 0x01 1 0x010004 1 0

/-- The instant two expected periods after the last qualified pulse (R78, R401), in bus counts. -/
def silenceAt (s : State) : Option Nat :=
  match s.clk.pulse16, s.clk.period16 with
  | some p, some q => some (ceilDiv (p + 2 * q) 16)
  | _, _ => none

/-- PLL_G_UNLOCK (R401, R405): with the pulse train as input, two expected periods without a qualified pulse;
otherwise phase errors out of the window. -/
def execPllGUnlock (s : State) : Host.Outcome State Fault Refusal :=
  .next (whenReg s fun s =>
    if s.clk.gLock then
      match if pulseInput s then silenceAt s else none with
      | some t => inCycle (reach s t) gLost
      | none => gUnlock (ldRun s .g true (beyond s .g)).2
    else s)

/-- PLL_LOCK (R405, R394, R397, R401): the phase errors of successive cycles pass the lock detector of a loop, by
which a loop out of lock may declare lock and one in lock may lose it.
DEDUCED (log 137). -/
def execPllLock (run : LdRun) (s : State) : Host.Outcome State Fault Refusal :=
  .next (whenReg s fun s =>
    match run.loop with
    | .c =>
      if s.clk.cEnabled = true ∧ s.clk.refLost = false then
        match ldRun s .c s.clk.cLock run.errs with
        | (true, t) => if s.clk.cLock then t else lockC t
        | (false, t) => if s.clk.cLock then inCycle t cUnlock else t
      else s
    | .s =>
      if s.clk.sEnabled = true ∧ s.clk.refLost = false then
        match ldRun s .s s.clk.sLock run.errs with
        | (true, t) => { t with clk := { t.clk with sLock := true } }
        | (false, t) => if s.clk.sLock then sUnlock t else t
      else s
    | .g =>
      if s.clk.gEnabled = true ∧ (s.clk.gLock || gLegal s) = true then
        match ldRun s .g s.clk.gLock run.errs with
        | (true, t) => if s.clk.gLock then t else lockG t
        | (false, t) => if s.clk.gLock then gUnlock t else t
      else s)

/-- PLL_G_INPUT_LOST (R399): in a CLEAN use PLL-G holds its control, PLL-C stays locked; logged. -/
def execPllGInputLost (s : State) : Host.Outcome State Fault Refusal :=
  .next (whenReg s fun s =>
    if cleanUse s = true ∧ s.clk.gHoldover = false then inCycle s gLost else s)

/-- PLL_G_INPUT_RETURN (R399): PLL-G reacquires with its frequency slewed; the exit from holdover is
logged when it locks. -/
def execPllGInputReturn (s : State) : Host.Outcome State Fault Refusal :=
  .next (whenReg s fun s =>
    if cleanUse s = true ∧ s.clk.gHoldover = true then
      { s with clk := { s.clk with gReacquire := true } }
    else s)

/-- REF_LOST (R393, R396, R405): PLL-C in holdover, every loop out of lock at once and counted, an ERROR
entry, a fault in a T2 unit, and a warm restart with CAUSE 5 that will wait at step 3. -/
def execRefLost (s : State) : Host.Outcome State Fault Refusal :=
  .next (whenFault s fun s =>
    if s.clk.refLost then s
    else inCycle s fun s =>
      let s := bumpBy (bumpBy (bumpBy s 0x010200 (bit s.clk.cLock)) 0x010204 (bit s.clk.sLock))
        0x010208 (bit s.clk.gLock)
      let s := { s with
        clk := { s.clk with refLost := true, busSrc := 2, cLock := false, sLock := false, gLock := false,
                              ld := [] },
        time := { s.time with src := if s.time.slow then .slow else .bus } }
      let s := logEvent s 0x02 0x01 2 true 0x010004 1 0
      let s := if 1 < s.sys.tier then fallTo s 1 else s
      callRestart { s with clk := { s.clk with outs := [] } } 5)

/-- PLL-G restarts its acquisition after a write (R402): G_LOCK is cleared at once, and ticks hold over; the
legacy mode checks its limits (R403).
DESIGN CHOICE (log 166). -/
def gRestart (s : State) : State :=
  let en := decide (s.fc 0x010040 0 1 = 1)
  let m := s.fc 0x010054 0 7
  let input := s.fc 0x010040 3 2
  let f := gInput s
  let bad := legacyMode s && (decide (m < 4 ∨ 64 < m) || decide (input = 0 ∨ input = 3)
    || !hzIn f 10000000 100000000 || !hzIn (m * f.1, f.2) 400000000 1600000000)
  let locked := s.clk.gLock
  let s := { s with clk := { s.clk with
    gEnabled := en && !bad, gCfgErr := en && bad, gHoldover := s.clk.gHoldover && en, gLock := false,
    gEver := false, ld := unput s.clk.ld 2 } }
  let s := if locked then stopUnlocked (stopUnlocked s 1) 2 else s
  holdGenlock s

/-- The writable bits of a PLL-G register (R415). -/
def gMask (a : Nat) : Word :=
  match a with
  | 0x010040 => 0xF1F
  | 0x010044 => 0x3FF
  | 0x010048 => 0x3FFFFFFF
  | 0x01004C => 0xFFFFFF
  | 0x010050 => 0xFFFFFF
  | 0x010054 => 0x7F
  | _ => 0

/-- A write to a PLL-G register (R402, R415): refused in a CLEAN use; while EN is or becomes 1 it
restarts acquisition. -/
def gWrite (s : State) (a : Nat) (v : Word) : State :=
  if cleanUse s then s
  else
    let was := decide (s.fc 0x010040 0 1 = 1)
    let s := setReg s a ((s.cur a &&& ~~~(gMask a)) ||| (v &&& gMask a))
    if was || decide (s.fc 0x010040 0 1 = 1) then gRestart s else s

/-- PLL_G_WRITE (R402). -/
def execPllGWrite (_src : Src) (a : Nat) (v : Word) (s : State) : Host.Outcome State Fault Refusal :=
  .next (whenReg s fun s => if gMask a = 0 then s else gWrite s a v)

/-- A write of CLK_LD (R405, R416): the count of consecutive cycles starts again; the lock state stays. -/
def ldWrite (s : State) (l : Pll) (v : Word) : State :=
  setReg { s with clk := { s.clk with ld := unput s.clk.ld (pllIdx l) } } (0x010060 + 4 * pllIdx l)
    (v &&& 0x0FFF1FFF)

/-- LOCK_DETECT_WRITE (R405). -/
def execLockDetectWrite (_src : Src) (l : Pll) (v : Word) (s : State) :
    Host.Outcome State Fault Refusal :=
  .next (whenReg s fun s => ldWrite s l v)

/-- CLKOUT_ENABLE (R410). -/
def execClkoutEnable (_src : Src) (i : Nat) (v : Word) (s : State) :
    Host.Outcome State Fault Refusal :=
  .next (whenReg s fun s => if i < 4 then outWrite s i 0 (v ||| 1) else s)

/-- CLKOUT_CHANGE (R410). -/
def execClkoutChange (_src : Src) (i w : Nat) (v : Word) (s : State) :
    Host.Outcome State Fault Refusal :=
  .next (whenReg s fun s => if i < 4 ∧ w < 3 then outWrite s i w v else s)

/-- CLKOUT_DISABLE (R410). -/
def execClkoutDisable (_src : Src) (i : Nat) (v : Word) (s : State) :
    Host.Outcome State Fault Refusal :=
  .next (whenReg s fun s => if i < 4 then outWrite s i 0 (v &&& ~~~1) else s)

/-- The instant at which a SYNC edge sampled at `t` resets dividers (R412): the first VCO ÷ 8 edge after the
second REFCLK edge that follows.
DESIGN CHOICE (log 167). -/
def syncReset (s : State) (t : Nat) : Nat :=
  let (n, d) := refStep s.clk.refCode
  t + 2 * n / d + 1

/-- SYNC_EDGE (R412): an edge of the polarity that POL selects resets the dividers of the outputs selected,
and those that wait start when their loop is locked and their frequency is in its limit; an edge within 1 µs of
the last accepted one is ignored and counted. -/
def execSyncEdge (pin : SyncPin) (s : State) : Host.Outcome State Fault Refusal :=
  .next (whenReg s fun s =>
    let s := reach s pin.at_
    if s.fc 0x010074 0 1 = 1 ∧ decide (s.fc 0x010074 1 1 = 0) = pin.rising then
      if s.clk.lastSync.any (fun u => decide (s.time.tb < u + 750)) then bump s 0x010214
      else
        let s := bump { s with clk := { s.clk with lastSync := some s.time.tb } } 0x010210
        (upto 4).foldl (fun s i =>
          let o := s.out i
          let a := 0x010100 + 0x10 * i
          let (n, d) := outFreq s o.src o.div
          if s.fc a 7 1 = 1 ∧ (o.running = true ∨ (o.waitSync = true ∧ srcLocked s o.src = true)) then
            if o.waitSync = true ∧ 0 < d ∧ fmtMax o.fmt * d < n then setOut (setFld s a 31 1 1) i ClkOut.off
            else setOut s i { o with
              running := true, waitSync := false, low := false, aligned := some (syncReset s s.time.tb) }
          else s) s
    else s)

/-- A pulse is qualified (R400): before the first lock every one; while locked one within ±5 % of one
expected period after the last; after a loss of lock one within ±5 % of a period of a whole number of
periods. The period that it gives, or none for a spurious pulse.
DESIGN CHOICE (log 166). -/
def pulsePeriod (s : State) (d p : Nat) : Option Nat :=
  if s.clk.gEver = false then some d
  else if s.clk.gLock then if 95 * p ≤ 100 * d ∧ 100 * d ≤ 105 * p then some d else none
  else
    let n := max 1 (roundDiv d p).toNat
    if 100 * n * p ≤ 100 * d + 5 * p ∧ 100 * d ≤ 100 * n * p + 5 * p then some (roundDiv d n).toNat
    else none

/-- GENLOCK_PULSE (R400, R401): a qualified pulse is stamped as a tracked phase and gives the period; another
is ignored and counted as spurious. -/
def execGenlockPulse (stamp : Nat) (s : State) : Host.Outcome State Fault Refusal :=
  .next (whenReg s fun s =>
    let s := reach s (stamp / 16)
    if pulseInput s && s.clk.gEnabled && !legacyMode s then
      let take := fun (p : Option Nat) =>
        { s with clk := { s.clk with pulse16 := some stamp, period16 := p } }
      match s.clk.pulse16, s.clk.period16 with
      | some last, some p =>
        match pulsePeriod s (stamp - last) p with
        | some q => take (some q)
        | none => bump s 0x01020C
      | some last, none => take (some (stamp - last))
      | none, q => take q
    else s)

/-- GENLOCK_HOLDOVER (R78): two periods without a qualified pulse; ticks go on at the last period. -/
def execGenlockHoldover (s : State) : Host.Outcome State Fault Refusal :=
  .next (whenAwake s fun s =>
    if edgeKind s = 1 ∧ s.time.glHold = false then
      match silenceAt s with
      | some t =>
        let s := reach s t
        if s.clk.gLock && pulseInput s then inCycle s gLost else holdGenlock s
      | none => s
    else s)

/-- SLOW_CLOCK_ENTRY (R431, R432): debug halt, which needs an open debug port in FACTORY or OPENED; no tick opens. -/
def execSlowClockEntry (s : State) : Host.Outcome State Fault Refusal :=
  .next (whenReg s fun s =>
    if s.time.slow = true ∨ s.otp.dbgEn = false ∨ s.otp.lifecycle = 1 then s
    else
      let s := bump { s with time := { s.time with slow := true, src := .slow } } 0x018210
      setFld s 0x01800C 2 1 1)

/-- The period by which the tick compare is caught up (R430, R432): the addition of FREE where ticks run by the tick
timer, the period of the open tick in GENLOCK, and T_max in EXTERNAL and GATED.
DEDUCED (log 140). -/
def gridStep (s : State) : Nat :=
  let free := max 1 (min (max (s.cur 0x018040).toNat s.time.tmin) countsPerSec)
  match s.img.cur.mode with
  | 0 => free
  | 1 => if s.time.glWait || genlockFree s then free else max 1 s.time.t
  | _ => max 1 (max s.time.tmin (s.act 0x04C208).toNat)

/-- The interrupts of the timers that have fired on the slow clock are delivered (R422, R431). -/
def deliverIrq (s : State) : State :=
  (upto 8).foldl (fun s n =>
    if s.fc 0x018200 n 1 = 1 ∧ s.fc (0x018100 + 0x20 * n) 1 1 = 1 then
      { s with clk := { s.clk with irq := setField s.clk.irq n 1 1 } }
    else s) s

/-- BUS_CLOCK_RETURN (R432): the tick compare is caught up to the first grid point later than TB, and
TMR_TICK_MISSED counts the periods skipped. -/
def execBusClockReturn (s : State) : Host.Outcome State Fault Refusal :=
  .next (whenReg s fun s =>
    if s.time.slow then
      let src := if s.clk.busSrc = 1 then TbSrc.refclk else TbSrc.bus
      let iv := gridStep s
      let n := if s.time.tb < s.time.cmp ∨ s.sys.phase = .waitDebug then 0
        else (s.time.tb - s.time.cmp) / iv + 1
      let s := deliverIrq s
      let s := { s with time := { s.time with slow := false, src := src, cmp := s.time.cmp + n * iv } }
      bumpBy s 0x018050 n
    else s)

end Sys2Proof.Machine
end

