-- ==== Sys2Proof/Machine/Geometry.lean ====
section
/-!
DEFINITION. Geometry of the Heel (R299, R306, R308, R313): points as exact fractions, and angles in 2^-256 rad, far
below the one count that R313 allows on an axis value.
-/

namespace Sys2Proof.Machine

/-- One, in 2^-256. -/
def fxOne : Int := 2 ^ 256

/-- π, in 2^-256 rad. -/
def fxPi : Int := 363771576891766324280234942777729862653393377328392429958772151117938894466185

/-- A product of two numbers in 2^-256. -/
def fxMul (a b : Int) : Int := a * b / fxOne

/-- The arctangent series from the term of exponent 2k + 1 on; `p` is the power of t with its sign. -/
def atanSeries (t2 : Int) : Nat → Nat → Int → Int
  | 0, _, _ => 0
  | n + 1, k, p => p / (2 * (k : Int) + 1) + atanSeries t2 n (k + 1) (-fxMul p t2)

/-- tan of half the angle whose tan is t. -/
def tanHalf (t : Int) : Int :=
  t * fxOne / (fxOne + (isqrt (fxOne * fxOne + t * t).toNat : Nat))

/-- The arctangent of t for 0 ≤ t ≤ 1. -/
def fxAtan (t : Int) : Int :=
  let u := tanHalf (tanHalf t)
  4 * atanSeries (fxMul u u) 60 0 u

/-- atan2 of two numbers of one scale; at the origin, where the spec states no value, a free one.
DESIGN CHOICE (log 106). -/
def fxAtan2 (y x : Int) : Int :=
  let ax : Int := x.natAbs
  let ay : Int := y.natAbs
  if x = 0 ∧ y = 0 then Config.atanOrigin
  else
    let a := if ay ≤ ax then fxAtan (ay * fxOne / ax) else fxPi / 2 - fxAtan (ax * fxOne / ay)
    let a := if x < 0 then fxPi - a else a
    if y < 0 then -a else a

/-- The sine (k = 1) or cosine (k = 0) series of x, from the term `p` = ±x^k/k! on. -/
def sinSeries (x2 : Int) : Nat → Nat → Int → Int
  | 0, _, _ => 0
  | n + 1, k, p => p + sinSeries x2 n (k + 2) (-(fxMul p x2) / ((k + 1) * (k + 2) : Nat))

/-- An angle brought into −π to π. -/
def fxReduce (x : Int) : Int := (x + fxPi) % (2 * fxPi) - fxPi

/-- The root of a number, in 2^-320: exact where it is a square. -/
def fineRoot (n : Int) : Int := (isqrt (n.toNat * 2 ^ 640) : Nat)

/-- The scale of `fineRoot`. -/
def fineOne : Int := 2 ^ 320

/-- Sine. -/
def fxSin (x : Int) : Int := let r := fxReduce x; sinSeries (fxMul r r) 44 1 r

/-- Cosine. -/
def fxCos (x : Int) : Int := let r := fxReduce x; sinSeries (fxMul r r) 44 0 fxOne

/-- A vector. -/
abbrev Vec := Int × Int × Int

/-- Component i of a vector. -/
def Vec.at_ (v : Vec) : Nat → Int
  | 0 => v.1
  | 1 => v.2.1
  | _ => v.2.2

/-- Scalar product. -/
def dot (a b : Vec) : Int := a.1 * b.1 + a.2.1 * b.2.1 + a.2.2 * b.2.2

/-- A matrix by rows. -/
abbrev Mat := Vec × Vec × Vec

/-- A row of a matrix. -/
def Mat.row (m : Mat) : Nat → Vec
  | 0 => m.1
  | 1 => m.2.1
  | _ => m.2.2

/-- A column of a matrix. -/
def Mat.col (m : Mat) (j : Nat) : Vec := ((m.row 0).at_ j, (m.row 1).at_ j, (m.row 2).at_ j)

/-- A matrix from its entries. -/
def mkMat (f : Nat → Nat → Int) : Mat :=
  ((f 0 0, f 0 1, f 0 2), (f 1 0, f 1 1, f 1 2), (f 2 0, f 2 1, f 2 2))

/-- Matrix times vector. -/
def Mat.apply (m : Mat) (v : Vec) : Vec := (dot (m.row 0) v, dot (m.row 1) v, dot (m.row 2) v)

/-- Transposed matrix times vector. -/
def Mat.applyT (m : Mat) (v : Vec) : Vec := (dot (m.col 0) v, dot (m.col 1) v, dot (m.col 2) v)

/-- Matrix product. -/
def Mat.mul (m n : Mat) : Mat := mkMat (fun i j => dot (m.row i) (n.col j))

/-- Transpose. -/
def Mat.t (m : Mat) : Mat := mkMat (fun i j => (m.row j).at_ i)

/-- Every component scaled. -/
def Vec.map (v : Vec) (f : Int → Int) : Vec := (f v.1, f v.2.1, f v.2.2)

/-- Sum of two vectors. -/
def Vec.add (a b : Vec) : Vec := (a.1 + b.1, a.2.1 + b.2.1, a.2.2 + b.2.2)

/-- Difference of two vectors. -/
def Vec.sub (a b : Vec) : Vec := (a.1 - b.1, a.2.1 - b.2.1, a.2.2 - b.2.2)

/-- A vector in its lowest terms: without the common factor of its components. -/
def Vec.lowest (v : Vec) : Vec :=
  let g : Int := (max 1 (Nat.gcd (Nat.gcd v.1.natAbs v.2.1.natAbs) v.2.2.natAbs) : Nat)
  v.map (fun x => x / g)

/-- A point: its components over a common denominator, which is positive. -/
structure Point where
  num : Vec
  den : Int
deriving DecidableEq, Repr

/-- A point in its lowest terms. -/
def Point.lowest (p : Point) : Point :=
  let g : Int := (max 1 (Nat.gcd p.den.natAbs
    (Nat.gcd (Nat.gcd p.num.1.natAbs p.num.2.1.natAbs) p.num.2.2.natAbs)) : Nat)
  { num := p.num.map (fun x => x / g), den := p.den / g }

/-- Sum of two points. -/
def Point.add (p q : Point) : Point :=
  Point.lowest { num := (p.num.map (· * q.den)).add (q.num.map (· * p.den)), den := p.den * q.den }

/-- The mean of some points (R305). -/
def Point.mean (l : List Point) : Point :=
  let p := l.foldl Point.add { num := (0, 0, 0), den := 1 }
  Point.lowest { p with den := p.den * (max 1 l.length : Nat) }

/-- The orthonormality test of R298 on a matrix in Q2.30. -/
def rotOk (m : Mat) : Bool :=
  (upto 3).all (fun i => (upto 3).all (fun j =>
    let d := dot (m.col i) (m.col j) - (if i = j then 2 ^ 60 else 0)
    decide (-(2 ^ 48) ≤ d ∧ d ≤ 2 ^ 48)))

end Sys2Proof.Machine
end

