-- ==== Sys2Proof/Machine/Pyramid.lean ====
section
/-!
DEFINITION. The luma pyramids (R264 to R266, R562, R564), measurement instants (R29, R199, R267), the
predictor (R268), the beacon detector (R248) and appearance descriptors (R285, R286).
-/

namespace Sys2Proof.Machine

/-- A pyramid buffer in which nothing has been built. -/
def Pyr.empty : Pyr :=
  { frame := 0, live := false, w := 0, h := 0, fullW := 0, fullH := 0, rows := [], upTo := 0, bad := [], inst := 0,
    insts := [] }

/-- The current buffer of a source (R564). -/
def State.bufOf (s : State) (src : Nat) : Nat := mget 0 s.ptr.buf src

/-- The frame that source 1 or 2 has for tick k: the first frame of its bound pair in that tick, with
the pair (R192, R197, R198). -/
def srcFrame (s : State) (src k : Nat) : Option AuxFrame :=
  (s.aux.frames.flatMap (fun p => p.2)).find? (fun x =>
    x.first && decide (x.frame = k) && (x.bound == some (src - 1)))

/-- The size of a pyramid of an auxiliary source, and that of its frame as received, follow the frame while it is held
(R193, R194, R264).
DEDUCED (log 87). -/
def sizedBy (s : State) (src : Nat) (p : Pyr) : Pyr :=
  if src = 0 ∨ p.live = false then p
  else
    match srcFrame s src p.frame with
    | some f => { p with w := min 4096 f.longest, h := min 3072 f.next, fullW := f.longest, fullH := min 8192 f.next }
    | none => p

/-- A pyramid buffer of a source (R266). -/
def State.pyrAt (s : State) (src b : Nat) : Pyr := sizedBy s src (mget Pyr.empty s.ptr.pyr (2 * src + b))

/-- The current pyramid of a source (R266). -/
def State.curPyr (s : State) (src : Nat) : Pyr := s.pyrAt src (s.bufOf src)

/-- The previous pyramid of a source (R266). -/
def State.prevPyr (s : State) (src : Nat) : Pyr := s.pyrAt src (1 - s.bufOf src)

/-- A pyramid buffer of a source replaced. -/
def setPyr (s : State) (src b : Nat) (p : Pyr) : State :=
  { s with ptr := { s.ptr with pyr := mput Pyr.empty s.ptr.pyr (2 * src + b) p } }

/-- The current pyramid of a source replaced. -/
def setCurPyr (s : State) (src : Nat) (p : Pyr) : State := setPyr s src (s.bufOf src) p

/-- Width of a level (R264). -/
def Pyr.lw (p : Pyr) (lam : Nat) : Nat := p.w / 2 / 2 ^ lam

/-- Height of a level (R264). -/
def Pyr.lh (p : Pyr) (lam : Nat) : Nat := p.h / 2 / 2 ^ lam

/-- A row of a level holds no uncorrectable word. -/
def Pyr.sound (p : Pyr) (lam v : Nat) : Bool := !p.bad.contains (4096 * lam + v)

/-- A row of a level is ready and valid (R265). -/
def Pyr.has (p : Pyr) : Nat → Nat → Bool
  | 0, v => (look p.rows v).isSome && p.sound 0 v
  | lam + 1, v => p.has lam (2 * v) && p.has lam (2 * v + 1) && p.sound (lam + 1) v

/-- A pixel of a level; a row that is not valid holds 0 (R264, R562). -/
def Pyr.px (p : Pyr) : Nat → Nat → Nat → Nat
  | 0, u, v => if p.has 0 v then (mget [] p.rows v).getD u 0 else 0
  | lam + 1, u, v =>
    if p.has (lam + 1) v then
      (p.px lam (2 * u) (2 * v) + p.px lam (2 * u + 1) (2 * v) + p.px lam (2 * u) (2 * v + 1)
        + p.px lam (2 * u + 1) (2 * v + 1) + 2) / 4
    else 0

/-- The bytes of a pyramid buffer at a byte offset (R562). -/
def Pyr.byte (p : Pyr) (ofs : Nat) : Byte :=
  let (lam, o) := if ofs < 0xC00000 then (0, ofs) else if ofs < 0xF00000 then (1, ofs - 0xC00000)
    else (2, ofs - 0xF00000)
  let w := p.lw lam
  if w = 0 ∨ p.lh lam ≤ o / w then 0 else BitVec.ofNat 8 (p.px lam (o % w) (o / w))

/-- A level-0 value from x, with the offset of PTR_PYR (R264). -/
def levelCode (x ofs : Nat) : Nat :=
  let x := max 1 x
  let n := Nat.log2 x
  let big := if n = 0 then 0 else 16 * n + ((x - 2 ^ n) * 16 + 2 ^ (n - 1)) / 2 ^ n
  min 255 (big - ofs)

/-- The level-0 rows of tile-row j of the frame now read (R156, R264). -/
def arrayRows (s : State) (j : Nat) : List (Nat × List Nat) :=
  let c := mainCtx s
  let gov := (rangeFrom (64 * j) 64).map (govOf s c)
  let ofs := field (rget s.regs.prev 0x0C0004) 0 9
  (upto 64).map (fun r =>
    let y := 128 * j + 2 * r
    (64 * j + r, gov.zipIdx.flatMap (fun (q : Gov × Nat) =>
      (upto 64).map (fun i =>
        let x := 128 * q.2 + 2 * i
        let m := binMean [q.1.v6 y x, q.1.v6 y (x + 1), q.1.v6 (y + 1) x, q.1.v6 (y + 1) (x + 1)]
        levelCode (m + 1).toNat ofs))))

/-- The luma samples of a line: the Y samples of YUV422, all of a RAW line (R198). -/
def lumaSamples (l : AuxLine) : List Nat :=
  if l.dt = 0x1E then ((auxSamples l.dt l.bytes).zipIdx).filterMap
    (fun (q : Nat × Nat) => if q.2 % 2 = 1 then some q.1 else none)
  else auxSamples l.dt l.bytes

/-- Level-0 row r of an auxiliary frame, when both of its lines are usable (R198, R264). -/
def auxRow (f : AuxFrame) (r ofs : Nat) : Option (List Nat) :=
  match f.good.find? (fun l => decide (l.idx = 2 * r)), f.good.find? (fun l => decide (l.idx = 2 * r + 1)) with
  | some a, some b =>
    let la := lumaSamples a
    let lb := lumaSamples b
    some ((upto (min 2048 (min la.length lb.length / 2))).map (fun u =>
      let q := (la.getD (2 * u) 0 + la.getD (2 * u + 1) 0 + lb.getD (2 * u) 0 + lb.getD (2 * u + 1) 0 + 2) / 4
      levelCode (64 * q + 1) ofs))
  | _, _ => none

/-- The exposure that a node of the governing read of the frame now read holds, or will hold when its
tile-row is read (R162). -/
def heldExp (s : State) (t node : Nat) : Option Nat :=
  let f := s.img.prv
  if isSubst f s.regs.prev t then look f.burstHeld (2 * t + node)
  else
    match look f.mainHeld (2 * t + node) with
    | some n => some n
    | none =>
      let x := s.node t node
      if x.phase = .held ∧ x.frame = f.k then some x.n else none

/-- Twice the measurement instant of a tile of the frame now read, in EQ from its edge: the sum of the
earliest start and the latest transfer of the exposures merged into the frame (R29); none without an
exposure. -/
def tileSpan (s : State) (t : Nat) : Option Nat :=
  let x := mget TileExp.off s.img.prv.tiles t
  let span := fun (n : Nat) =>
    let e := x.exp n
    let g := if n = 1 then x.gate.getD (e.start, e.len) else (e.start, e.len)
    (g.1, g.1 + g.2)
  match [0, 1].filterMap (heldExp s t) with
  | [] => none
  | [n] => some ((span n).1 + (span n).2)
  | n :: m :: _ => some (min (span n).1 (span m).1 + max (span n).2 (span m).2)

/-- The measurement instant of a tile of the frame now read, as TB (R29, R267). -/
def tileInst (s : State) (t : Nat) : Nat :=
  match tileSpan s t with
  | some q => s.img.prv.tb + 16 * q
  | none => s.img.prv.tb + s.img.prv.period / 2

/-- The tile that holds a position in Q16.16, clipped to the array (R56, R267). -/
def tileOf (x y : Int) : Nat :=
  tileAt (clampI 0 6143 (y / 65536)).toNat (clampI 0 8191 (x / 65536)).toNat

/-- The measurement instant in a source's current frame of a track at a position (R267). -/
def instCur (s : State) (src : Nat) (x y : Int) : Nat :=
  if src = 0 then tileInst s (tileOf x y) else (s.curPyr src).inst

/-- The measurement instant in a frame that is no longer being read (R267). -/
def Pyr.instAt (p : Pyr) (src : Nat) (x y : Int) : Nat :=
  if src = 0 then mget p.inst p.insts (tileOf x y) else p.inst

/-- At an edge, before the frames move on, the instants of the frame that was read are kept. -/
def keepInsts (s : State) : State :=
  let p := s.curPyr 0
  if p.live then
    let insts := (tileList s.regs.prev).foldl (fun m t =>
      match tileSpan s t with
      | some q => put m t (s.img.prv.tb + 16 * q)
      | none => m) []
    setCurPyr s 0 { p with inst := s.img.prv.tb + s.img.prv.period / 2, insts := insts }
  else s

/-- The buffer of a source is exchanged for a frame to be built (R266, R564). -/
def exchange (s : State) (src : Nat) (buf : Nat) (p : Pyr) : State :=
  { s with ptr := { s.ptr with
      buf := mput 0 s.ptr.buf src buf, pyr := mput Pyr.empty s.ptr.pyr (2 * src + buf) p } }

/-- The source rows that the frame of a pyramid can have (R264): those of the array; the lines of an auxiliary frame,
up to the limit while it is still arriving.
DEDUCED (log 87). -/
def pyrRows (s : State) (src : Nat) (p : Pyr) : Nat :=
  if src = 0 then 6144
  else
    match srcFrame s src p.frame with
    | some f => if p.live && f.open_ then 3072 else p.h
    | none => p.h

/-- The source rows that the current frame of a source can have (R264). -/
def frameH (s : State) (src : Nat) : Nat := pyrRows s src (s.curPyr src)

/-- The height of a source's current frame as received (R193): that of the array; the lines of an auxiliary frame, all
that it can have while it is still arriving.
DEDUCED (log 87). -/
def fullRows (s : State) (src : Nat) : Nat :=
  let p := s.curPyr src
  match srcFrame s src p.frame with
  | some f => if decide (src ≠ 0) && p.live && f.open_ then 8192 else p.fullH
  | none => p.fullH

/-- The sizes of the pyramids of the auxiliary sources are kept, before frames are let go at an edge (R264). -/
def keepSizes (s : State) : State :=
  { s with ptr := { s.ptr with pyr := s.ptr.pyr.map (fun q => (q.1, sizedBy s (q.1 / 2) q.2)) } }

/-- Level-0 rows from the top whose two lines have left the FIFO or are lost (R198). -/
def auxTaken (s : State) (f : AuxFrame) : Nat :=
  ((s.aux.fifo.filter (fun x => decide (x.uid = f.uid) && !x.out)).foldl (fun m x => min m x.line.idx) f.next) / 2

/-- The level-0 rows of an auxiliary source up to row r, as far as their lines have been taken, enter its current
pyramid from the top on (R198).
DEDUCED (log 86). -/
def buildAux (s : State) (src r : Nat) : State :=
  match srcFrame s src s.img.prv.k with
  | some f =>
    let p := s.curPyr src
    let n := min (min 1536 (r + 1)) (auxTaken s f)
    let rows := (upto (n - p.upTo)).foldl (fun m i =>
      match auxRow f (p.upTo + i) (field (rget s.regs.prev 0x0C0004) 16 9) with
      | some row => put m (p.upTo + i) row
      | none => m) p.rows
    setCurPyr s src { p with rows := rows, upTo := max p.upTo n }
  | none => s

/-- At the edge that opens tick k + 1, after the frames have moved on, every source that has a frame k begins a new
current pyramid, with what lines have come in tick k; a binding in MISSING gives no observation (R266, R564,
R198, R200).
DEDUCED (log 86). DESIGN CHOICE (log 226). -/
def openPyramids (s : State) : State :=
  let k := s.img.prv.k
  let s := if 0 < s.time.k then
      exchange s 0 (k % 2) { Pyr.empty with
        frame := k, live := true, w := 8192, h := 6144, fullW := 8192, fullH := 6144,
        inst := s.img.prv.tb + s.img.prv.period / 2 }
    else s
  let s := [1, 2].foldl (fun s src =>
    match (if 0 < s.time.k then srcFrame s src k else none) with
    | some f =>
      let ofs := field (rget s.regs.prev (0x090804 + 0x10 * (src - 1))) 0 24
      buildAux (exchange s src (1 - s.bufOf src) { Pyr.empty with
        frame := k, live := true, inst := f.fs - 16 * ofs }) src 1535
    | none => s) s
  let present := (if 0 < s.time.k then [0] else []) ++ [1, 2].filter (fun src =>
    0 < s.time.k && (srcFrame s src k).isSome && !s.aux.missing.contains (src - 1))
  { s with ptr := { s.ptr with present := present } }

/-- TOP_PYR: the buffer that each source builds in the open tick (R564). -/
def topPyr (s : State) : Nat := s.bufOf 0 + 2 * s.bufOf 1 + 4 * s.bufOf 2

/-- The rows of tile-row j enter the current pyramid of the array.
DEDUCED (log 86). -/
def buildArray (s : State) (j : Nat) : State :=
  let p := s.curPyr 0
  setCurPyr s 0 { p with rows := (arrayRows s j).foldl (fun m (r : Nat × List Nat) => put m r.1 r.2) p.rows }

/-- The predictor (R268) at a time: the position in Q16.16, rounded to nearest.
DEDUCED (log 95). -/
def predictAxis (x v a dt : Int) : Int :=
  x + roundDiv (v * dt * 24000000 + a * dt * dt) (8192 * 750000 * 750000)

/-- The parts of a Q16.16 pixel in which a predicted position is exact. -/
def fineParts : Int := 8192 * 750000 * 750000

/-- The predictor of R268 for one axis in those parts, for the exact steps of R313.
DEDUCED (log 95). -/
def predictFine (x v a dt : Int) : Int := x * fineParts + v * dt * 24000000 + a * dt * dt

/-- The predicted position of a track at a time, exact (R268, R313). -/
def Track.fineAt (tr : Track) (t : Nat) : Int × Int :=
  let dt : Int := (t : Int) - tr.tMeas
  (predictFine tr.x tr.vx tr.ax dt, predictFine tr.y tr.vy tr.ay dt)

/-- The predicted position of a track at a time (R268). -/
def Track.at_ (tr : Track) (t : Nat) : Int × Int :=
  let dt : Int := (t : Int) - tr.tMeas
  (predictAxis tr.x tr.vx tr.ax dt, predictAxis tr.y tr.vy tr.ay dt)

/-- One lit row cut into runs: first column, last column, and the sums of a blob (R248). -/
def litRuns (thr v : Nat) : List Nat → Nat → Option Beacon → List Beacon
  | [], _, some b => [b]
  | [], _, none => []
  | x :: t, u, cur =>
    if thr ≤ x then
      let w := x - thr + 1
      let b := cur.getD { area := 0, su := 0, sv := 0, sw := 0, u0 := u, v0 := v, u1 := u, v1 := v }
      litRuns thr v t (u + 1) (some { b with
        area := b.area + 1, su := b.su + w * (2 * u + 1), sv := b.sv + w * (2 * v + 1),
        sw := b.sw + w, u1 := u })
    else
      match cur with
      | some b => b :: litRuns thr v t (u + 1) none
      | none => litRuns thr v t (u + 1) none

/-- Two parts of one blob. -/
def Beacon.join (a b : Beacon) : Beacon :=
  { area := a.area + b.area, su := a.su + b.su, sv := a.sv + b.sv, sw := a.sw + b.sw,
    u0 := min a.u0 b.u0, v0 := min a.v0 b.v0, u1 := max a.u1 b.u1, v1 := max a.v1 b.v1 }

/-- A blob under way: its sums, its runs in the row above and its runs in the present row. -/
structure OpenBlob where
  sum : Beacon
  above : List (Nat × Nat)
  here : List (Nat × Nat)
deriving DecidableEq, Repr

/-- A run of the present row joins every blob that it touches in the row above or has joined already
(R248). -/
def addRun (l : List OpenBlob) (r : Beacon) : List OpenBlob :=
  let hit := fun (b : OpenBlob) => b.above.any (fun q => decide (r.u0 ≤ q.2 + 1 ∧ q.1 ≤ r.u1 + 1))
  let mine := l.filter hit
  let rest := l.filter (fun b => !hit b)
  rest ++ [{ sum := mine.foldl (fun s b => s.join b.sum) r, above := mine.flatMap (fun b => b.above),
             here := mine.flatMap (fun b => b.here) ++ [(r.u0, r.u1)] }]

/-- The blobs of a sequence of level-0 rows, in the order they end (R248); those that reach the last row count only
when nothing follows it.
DEDUCED (log 89). -/
def blobRows (thr : Nat) (fin : Bool) : List (Nat × List Nat) → Option Nat → List OpenBlob → List Beacon
  | [], _, l => if fin then l.map (fun b => b.sum) else []
  | (v, row) :: t, last, l =>
    let joined := decide (last.map (· + 1) = some v)
    let ended := if joined then [] else l.map (fun b => b.sum)
    let l := if joined then l else []
    let l := (litRuns thr v row 0 none).foldl addRun l
    let closed := (l.filter (fun b => b.here.isEmpty)).map (fun b => b.sum)
    let l := (l.filter (fun b => !b.here.isEmpty)).map (fun b => { b with above := b.here, here := [] })
    ended ++ closed ++ blobRows thr fin t (some v) l

/-- The valid level-0 rows of a pyramid. -/
def Pyr.goodRows (p : Pyr) : List (Nat × List Nat) := p.rows.filter (fun r => p.has 0 r.1)

/-- The level-0 rows of a source's frame from the top that have reached the detector, or never will; at C all
(R248). -/
def rowsPast (s : State) (src : Nat) : Nat :=
  if s.ptr.cut then 3072
  else if src = 0 then
    match s.img.cur.plan.rows.find? (fun j => !s.img.prv.ready.contains j) with
    | some j => 64 * j
    | none => 3072
  else if (s.curPyr src).upTo = frameH s src / 2 then 3072 else (s.curPyr src).upTo

/-- The beacons of a source whose blobs have ended, in order, and the blobs beyond 1,024 (R248).
DEDUCED (log 89). -/
def detect (s : State) (src : Nat) : List Beacon × Nat :=
  if s.fc 0x0B0018 31 1 = 1 ∧ s.fc 0x0B0018 (28 + src) 1 = 1 ∧ s.ptr.present.contains src = true then
    let past := rowsPast s src
    let rows := (s.curPyr src).goodRows.filter (fun r => decide (r.1 < past))
    let fin := decide (past = 3072) || !rows.any (fun r => decide (r.1 + 1 = past))
    let l := blobRows (s.fc 0x0B0018 0 8) fin rows none []
    let lo := orIf (s.fc 0x0B001C 0 16) 1
    let hi := s.fc 0x0B001C 16 16
    ((l.take 1024).filter (fun b => decide (lo ≤ b.area ∧ b.area ≤ hi)), l.length - 1024)
  else ([], 0)

/-- Twice the centroid of a beacon, in Q16.16 source pixels (R248). -/
def Beacon.pos (b : Beacon) : Int × Int :=
  (roundDiv (65536 * b.su : Nat) (max 1 b.sw : Nat), roundDiv (65536 * b.sv : Nat) (max 1 b.sw : Nat))

/-- The box of the subject that a beacon is born as (R248). -/
def Beacon.box (b : Beacon) : Nat × Nat :=
  (max 32 (2 * (b.u1 + 1 - b.u0)), max 32 (2 * (b.v1 + 1 - b.v0)))

/-- The level at which a descriptor is taken (R285). -/
def descLevel (w h : Nat) : Nat :=
  if w ≤ 128 ∧ h ≤ 128 then 0 else if w ≤ 256 ∧ h ≤ 256 then 1 else 2

/-- The left edge of cell i, as a level coordinate (R285). -/
def cellEdge (c : Int) (w s i : Nat) : Int :=
  (16 * c - 8 * 65536 * (w : Int) + (i : Int) * w * 65536) / (16 * 65536 * (s : Int))

/-- The columns that cell i covers (R285). -/
def cellSpan (c : Int) (w s i : Nat) : List Int :=
  let a := cellEdge c w s i
  let b := max (a + 1) (cellEdge c w s (i + 1))
  (upto (b - a).toNat).map (fun (d : Nat) => a + Int.ofNat d)

/-- A coordinate moved into a level. -/
def inLevel (n : Nat) (v : Int) : Nat := (clampI 0 ((n : Int) - 1) v).toNat

/-- The cell values of a box (R285): column i, row j at 16·j + i. -/
def cellValues (p : Pyr) (x y : Int) (w h : Nat) : List Nat :=
  let lam := descLevel w h
  let s := 2 ^ (lam + 1)
  (upto 16).flatMap (fun j => (upto 16).map (fun i =>
    let vs := (cellSpan y h s j).flatMap (fun v => (cellSpan x w s i).map (fun u =>
      p.px lam (inLevel (p.lw lam) u) (inLevel (p.lh lam) v)))
    (roundDiv (vs.sum : Nat) (max 1 vs.length : Nat)).toNat))

/-- The 256-bit appearance descriptor of a box (R285). -/
def descriptor (p : Pyr) (x y : Int) (w h : Nat) : Nat :=
  let g := cellValues p x y w h
  let sum := g.sum
  ((upto 256).map (fun n =>
    let i := n % 16
    let j := n / 16
    let i2 := (7 * i + 3 * j + 5) % 16
    let j2 := (5 * i + 11 * j + 9) % 16
    let one := if i2 = i ∧ j2 = j then decide (sum < 256 * g.getD n 0)
      else decide (g.getD (16 * j2 + i2) 0 < g.getD n 0)
    if one then 2 ^ n else 0)).sum

/-- The value of band b of a descriptor (R286). -/
def bandOf (d b : Nat) : Nat := ((upto 32).map (fun m => d / 2 ^ (8 * m + b) % 2 * 2 ^ m)).sum

/-- The distance of two descriptors. -/
def hamming (a b : Nat) : Nat := ((upto 256).filter (fun n => decide (a / 2 ^ n % 2 ≠ b / 2 ^ n % 2))).length

end Sys2Proof.Machine
end

