-- ==== Sys2Proof/Machine/Kennel.lean ====
section
/-!
DEFINITION. The Scent table's entries (R287, R288) and the Kennel (R231 to R263): slots, handles,
allocation, births, kills, albums, edge work, cues, the feature seeder, and streams 5 and 6.
-/

namespace Sys2Proof.Machine

/-- The Scent set of a band value (R287). -/
def scentIdx (v b : Nat) : Nat :=
  (((v ^^^ (0x9E3779B9 * (b + 1) % 2 ^ 32)) * 0x85EBCA6B) % 2 ^ 32) / 2 ^ 14

/-- A Scent set. -/
def State.scent (s : State) (i : Nat) : List ScentEntry := mget [] s.sct.sets i

/-- Valid entries of the table (R294). -/
def scentValid (s : State) : Nat := (s.sct.sets.map (fun p => p.2.length)).sum

/-- One entry takes way 0 of its set; way 7 is pushed out (R288). -/
def scentPut (s : State) (slot snap d b : Nat) : State :=
  let key := bandOf d b
  let i := scentIdx key b
  let l := ({ key := key, slot := slot, snap := snap, band := b } : ScentEntry) :: s.scent i
  let s := bump s 0x0D0080
  let s := if 8 < l.length then bump s 0x0D0084 else s
  { s with sct := { s.sct with sets := put s.sct.sets i (l.take 8) } }

/-- A snapshot is entered, one entry per band (R288). -/
def scentInsert (s : State) (slot snap d : Nat) : State :=
  (upto 8).foldl (fun s b => scentPut s slot snap d b) s

/-- The entries that a test picks are deleted; the lower ways move up (R288). -/
def scentDelete (s : State) (gone : ScentEntry → Bool) : State :=
  let n := (s.sct.sets.map (fun p => (p.2.filter gone).length)).sum
  let sets := (s.sct.sets.map (fun p => (p.1, p.2.filter (fun e => !gone e)))).filter
    (fun p => decide (p.2 ≠ []))
  bumpBy { s with sct := { s.sct with sets := sets } } 0x0D0088 n

/-- The entries of one snapshot are removed (R288). -/
def scentRemove (s : State) (slot snap : Nat) : State :=
  scentDelete s (fun e => decide (e.slot = slot ∧ e.snap = snap))

/-- An empty MATCH field. -/
def MatchRec.zero : MatchRec :=
  { err := 0, curv := 0, dx := 0, dy := 0, ofs := 0, part := 0, lane := 0, flags := 0, tried := 0 }

/-- A FREE slot with a generation (R240). -/
def Track.free (gen : Nat) : Track :=
  { gen := gen, state := 0, subj := false, source := 0, origin := 0, stale := false, persist := false,
    conf := 0, frameLast := 0, frameBirth := 0, age := 0, miss := 0, hits := 0, x := 0, y := 0,
    vx := 0, vy := 0, tMeas := 0, w := 0, h := 0, label := 0, flags := 0, ax := 0, ay := 0,
    groups := 0, height := 0, albumN := 0, albumNext := 0, albumFrame := 0, mat := MatchRec.zero,
    lostFrame := 0, probes := 0, tag := 0, parent := 0, score := 0 }

/-- A slot (R231). -/
def State.slot (s : State) (i : Nat) : Track := mget (Track.free 0) s.ken.slots i

/-- A slot changed. -/
def setSlot (s : State) (i : Nat) (t : Track) : State :=
  { s with ken := { s.ken with slots := mput (Track.free 0) s.ken.slots i t } }

/-- The slots that are not FREE, ascending. -/
def liveTracks (s : State) : List (Nat × Track) := s.ken.slots.filter (fun p => decide (p.2.state ≠ 0))

/-- Subjects that are not FREE. -/
def liveSubjects (s : State) : List (Nat × Track) := (liveTracks s).filter (fun p => p.2.subj)

/-- Features that are not FREE. -/
def liveFeatures (s : State) : List (Nat × Track) := (liveTracks s).filter (fun p => !p.2.subj)

/-- N of R232. -/
def subjSlots (s : State) : Nat := min 4096 (s.fc 0x0B0000 0 13)

/-- The handle of a slot (R235). -/
def handleOf (i : Nat) (t : Track) : Nat := t.gen * 2 ^ 18 + i

/-- The slot that a current handle names (R235). -/
def current (s : State) (h : Nat) : Option Nat :=
  let i := h % 2 ^ 18
  let t := s.slot i
  if h / 2 ^ 18 % 2 ^ 14 ≠ 0 ∧ t.state ≠ 0 ∧ t.gen = h / 2 ^ 18 % 2 ^ 14 then some i else none

/-- A handle that is not current is counted (R236). -/
def withHandle (s : State) (h : Nat) (f : Nat → State) : State :=
  match current s h with
  | some i => f i
  | none => bump s 0x0B0080

/-- An empty snapshot. -/
def Snap.zero : Snap := { desc := 0, frame := 0, w := 0, h := 0, conf := 0, source := 0, flags := 0 }

/-- Snapshot i of a slot (R250). -/
def State.snap (s : State) (slot i : Nat) : Snap := mget Snap.zero s.ken.albums (64 * slot + i)

/-- A snapshot replaced. -/
def setSnap (s : State) (slot i : Nat) (x : Snap) : State :=
  { s with ken := { s.ken with albums := mput Snap.zero s.ken.albums (64 * slot + i) x } }

/-- The snapshot is VALID (R250). -/
def Snap.valid (x : Snap) : Bool := decide (x.flags % 2 = 1)

/-- The VALID snapshots of a slot. -/
def validSnaps (s : State) (slot : Nat) : List Nat :=
  (upto 64).filter (fun i => (s.snap slot i).valid)

/-- The bytes of a snapshot (R250). -/
def Snap.bytes (x : Snap) : List Byte :=
  le 32 x.desc ++ le 4 x.frame ++ le 2 x.w ++ le 2 x.h ++ le 1 x.conf ++ le 1 x.source ++ le 2 x.flags
    ++ zeros 20

/-- The snapshot that 64 bytes spell; reserved bits read 0 (R250). -/
def Snap.ofBytes (b : List Byte) : Snap :=
  { desc := leAt b 0 32, frame := leAt b 32 4, w := leAt b 36 2, h := leAt b 38 2, conf := leAt b 40 1,
    source := leAt b 41 1, flags := leAt b 42 2 % 8 }

/-- The album of a slot is cleared and its Scent entries removed. -/
def clearAlbum (s : State) (slot : Nat) : State :=
  let s := scentDelete s (fun e => decide (e.slot = slot))
  { s with ken := { s.ken with albums := s.ken.albums.filter (fun p => decide (p.1 / 64 ≠ slot)) } }

/-- The track of a slot ends (R240): the slot is FREE and keeps its generation; the end of a feature is noted for
stream 6. -/
def endTrack (s : State) (i : Nat) : State :=
  let t := s.slot i
  let s := if t.subj then s
    else
      let x : Freed := { slot := i, handle := handleOf i t, x := t.x, y := t.y, conf := t.conf, age := t.age }
      { s with ken := { s.ken with freed := s.ken.freed ++ [x] } }
  setSlot s i (Track.free t.gen)

/-- A track ends as by a kill: a subject loses its album and its Scent entries (R244). -/
def freeSlot (s : State) (i : Nat) : State :=
  endTrack (if (s.slot i).subj then clearAlbum s i else s) i

/-- The entries of snapshots lost to an uncorrectable word go (R288, R536). -/
def removeLost (s : State) : State :=
  let l := s.sct.lost
  l.foldl (fun s p => scentRemove s p.1 p.2) { s with sct := { s.sct with lost := [] } }

/-- The region of a class: first slot, and the slot after the last (R232). -/
def region (s : State) (subj : Bool) : Nat × Nat :=
  if subj then (0, subjSlots s) else (subjSlots s, 262144)

/-- A slot can be allocated at this edge: FREE, and not allocated at it already (R233, R237). -/
def canTake (s : State) (i : Nat) : Bool :=
  decide ((s.slot i).state = 0) && !s.ken.fresh.contains i

/-- The first slot that can be taken among `n` from position `i` on. -/
def firstTake (s : State) : Nat → Nat → Option Nat
  | 0, _ => none
  | n + 1, i => if canTake s i then some i else firstTake s n (i + 1)

/-- The slot that next-fit allocates in a region (R233). -/
def nextFit (s : State) (subj : Bool) : Option Nat :=
  let (lo, hi) := region s subj
  let p := if subj then s.ken.nextSubj else s.ken.nextFeat
  let p := if lo ≤ p ∧ p < hi then p else lo
  match firstTake s (hi - p) p with
  | some i => some i
  | none => firstTake s (p - lo) lo

/-- The pyramid of a source that holds frame n − 2 at edge n, or its most recent frame before (R266).
DEDUCED (log 88). -/
def birthPyr (s : State) (src : Nat) : Pyr :=
  let c := s.curPyr src
  if src = 0 ∨ c.frame + 1 = s.time.k then s.prevPyr src else c

/-- A track is born in a slot at the edge that opens the present tick (R235, R244, R246): `t` gives what
the birth sets; the first observation is frame n − 2.
DEDUCED (log 91). -/
def birth (s : State) (i : Nat) (t : Track) : State :=
  let old := s.slot i
  let gen := if 16383 ≤ old.gen then 1 else old.gen + 1
  let f := (s.time.k - 2) % 2 ^ 32
  let p := birthPyr s t.source
  let s := setSlot s i { t with
    gen := gen, state := 1, frameLast := f, frameBirth := f, tMeas := p.instAt t.source t.x t.y }
  let k := s.ken
  { s with ken := if t.subj then { k with fresh := i :: k.fresh, nextSubj := i + 1 }
                  else { k with fresh := i :: k.fresh, nextFeat := i + 1 } }

/-- The album of a subject at its birth (R247): cleared, or kept with its valid snapshots entered into
the Scent table.
DEDUCED (log 92). -/
def birthAlbum (s : State) (i : Nat) (keep : Bool) : State :=
  if keep then
    let vs := validSnaps s i
    let s := vs.foldl (fun s v => scentInsert s i v (s.snap i v).desc) s
    let newest := vs.foldl (fun f v =>
      match f with
      | none => some (s.snap i v).frame
      | some g => some (if newer32 (s.snap i v).frame g then (s.snap i v).frame else g)) none
    let t := s.slot i
    setSlot s i { t with
      albumN := vs.length, albumNext := 1, albumFrame := newest.getD 0, flags := t.flags + 4 * bit (!vs.isEmpty) }
  else
    let s := clearAlbum s i
    setSlot s i { s.slot i with albumNext := 1 }

/-- A position lies in a source frame of some size. -/
def inSize (w h : Nat) (x y : Int) : Bool :=
  decide (0 ≤ x ∧ x < 65536 * (w : Int) ∧ 0 ≤ y ∧ y < 65536 * (h : Int))

/-- A position lies inside the frame of a source that is tracked in the open tick, as received (R238). -/
def inFrame (s : State) (src : Nat) (x y : Int) : Bool :=
  if src = 0 then inSize 8192 6144 x y else inSize (s.curPyr src).fullW (fullRows s src) x y

/-- A seed's position lies inside the source frame (R247): the size is that of frame n − 2, or of the source's most
recent frame before it, as received.
DESIGN CHOICE (log 214). -/
def seedInFrame (s : State) (src : Nat) (x y : Int) : Bool :=
  if src = 0 then inSize 8192 6144 x y else inSize (birthPyr s src).fullW (birthPyr s src).fullH x y

/-- A refusal of a seed or command (R247, R254, R590).
DESIGN CHOICE (log 146). -/
def refuseSeed (s : State) (arg1 reason : Nat) : State :=
  logReg (bump s 0x0B0084) 0x02 1 0x0B0084 arg1 reason

/-- A re-seed of a LOST subject (R592). -/
def reSeed (s : State) (i : Nat) (d : Seed) : State :=
  let t := s.slot i
  let p := birthPyr s t.source
  let s := setSlot s i { t with
    x := d.x, y := d.y, vx := 0, vy := 0, ax := 0, ay := 0, frameLast := (s.time.k - 2) % 2 ^ 32,
    tMeas := p.instAt t.source d.x d.y, age := 0, miss := 0, probes := 0, mat := MatchRec.zero,
    state := 2, flags := t.flags / 2 * 2 + 1, w := d.w, h := d.h, tag := d.tag, groups := d.groups,
    height := d.height, persist := decide (d.flags % 2 = 1) }
  bump s 0x0B0094

/-- PARENT of a feature birth (R240, R249): the subject of the feature's source whose box holds it.
DEDUCED (log 183). -/
def parentOf (s : State) (src : Nat) (x y : Int) : Nat :=
  match (liveSubjects s).find? (fun p =>
    let t := p.2
    decide (t.state = 2 ∧ t.source = src ∧ -(t.w : Int) * 65536 ≤ 2 * (x - t.x) ∧ 2 * (x - t.x) < t.w * 65536
      ∧ -(t.h : Int) * 65536 ≤ 2 * (y - t.y) ∧ 2 * (y - t.y) < t.h * 65536)) with
  | some (i, t) => handleOf i t
  | none => 0

/-- SEED_APPLY (R247): the checks in order; `origin` is 1 for a host seed, 2 for a cue.
DEDUCED (log 230). -/
def applySeed (s : State) (d : Seed) (origin : Nat) : State :=
  let n := s.time.k
  let subj := decide (d.cls = 1)
  let old := fun (s : State) => if d.frame + 2 < n then bump s 0x0B009C else s
  let lab := if subj ∧ d.label ≠ 0 then (liveSubjects s).find? (fun p => decide (p.2.label = d.label)) else none
  let (lo, hi) := region s subj
  let named := decide (d.flags / 4 % 2 = 1)
  if n < d.frame + 2 then refuseSeed s d.tag 1
  else if d.source ≠ 0 ∧ (3 ≤ d.source ∨ boundPair s (d.source - 1) = none) then refuseSeed s d.tag 2
  else if seedInFrame s d.source d.x d.y = false ∨ d.w < 16 ∨ 2048 < d.w ∨ d.h < 16 ∨ 2048 < d.h then
    refuseSeed s d.tag 3
  else
    match lab with
    | some (i, t) =>
      if t.state = 4 ∧ t.source = d.source then old (reSeed s i d) else refuseSeed s d.tag 4
    | none =>
      if named ∧ (d.slot < lo ∨ hi ≤ d.slot ∨ canTake s d.slot = false) then refuseSeed s d.tag 5
      else
        match (if named then some d.slot else nextFit s subj) with
        | none => refuseSeed (bump s 0x0B008C) d.tag 6
        | some i =>
          let base := { Track.free 0 with
            subj := subj, source := d.source, origin := origin, x := d.x, y := d.y, tag := d.tag }
          let s := old s
          if subj then
            let s := birth s i { base with
              w := d.w, h := d.h, label := d.label, groups := d.groups, height := d.height,
              persist := decide (d.flags % 2 = 1) }
            birthAlbum s i (decide (d.flags / 2 % 2 = 1))
          else birth s i { base with w := 32, h := 32, parent := parentOf s d.source d.x d.y }

/-- A queued command other than a cue trigger is applied (R246, R254). -/
def applyCmd (s : State) (c : KenCmd) : State :=
  match c with
  | .seed d => applySeed s d 1
  | .kill h => withHandle s h (fun i => freeSlot s i)
  | .opKill h => withHandle s h (fun i => freeSlot s i)
  | .setGroups h g => withHandle s h (fun i =>
      if (s.slot i).subj then setSlot s i { s.slot i with groups := g } else refuseSeed s h 7)
  | .setPersist h v => withHandle s h (fun i =>
      if (s.slot i).subj then setSlot s i { s.slot i with persist := v } else refuseSeed s h 7)
  | .cueGo _ => s

/-- A host command joins the queue of the next edge; beyond 256 it is refused (R246). -/
def queueCmd (s : State) (c : KenCmd) : State :=
  if 256 ≤ s.ken.cmds.length then bump s 0x0B0088
  else { s with ken := { s.ken with cmds := s.ken.cmds ++ [c] } }

/-- The frames since midnight that an LTC word spells at a nominal rate (R476); the BCD places of the
word are those of SMPTE ST 12-1.
PRESUMED (log 94). -/
def tcFrames (w rate : Nat) : Nat :=
  let d := fun lo n => w / 2 ^ lo % 2 ^ n
  ((((d 48 4 + 10 * d 56 2) * 60 + d 32 4 + 10 * d 40 3) * 60) + d 16 4 + 10 * d 24 3) * rate
    + d 0 4 + 10 * d 8 2

/-- The nominal frames per second of a rate code (R83). -/
def rateFps (r : Nat) : Nat :=
  match r with
  | 1 => 24
  | 2 => 25
  | _ => 30

/-- Whether a cue fires at the edge, and its armed state after it (R255). -/
def cueFires (s : State) (go : List Nat) (c : CueRec) : Bool × CueRec :=
  match c.trigger with
  | 0 => (decide (s.time.k = 2), c)
  | 1 =>
    if s.img.cur.tcValid then
      let now := tcFrames s.img.cur.tcWord (rateFps (ltcRate s))
      if now < c.tcTime then (false, { c with armed := true })
      else if c.armed ∧ now ≤ c.tcTime + c.tcWindow then (true, { c with armed := false })
      else (false, c)
    else (false, c)
  | 2 => (go.contains c.cue, c)
  | _ => (false, c)

/-- Insertion of a cue by its number. -/
def insertCue (c : CueRec) : List CueRec → List CueRec
  | [] => [c]
  | d :: t => if c.cue < d.cue then c :: d :: t else d :: insertCue c t

/-- Cue births at an edge (R246 step 3, R255).
DEDUCED (log 103). DEDUCED (log 231). -/
def cueWork (s : State) (go : List Nat) : State :=
  let r := s.ken.cues.map (cueFires s go)
  let s := { s with ken := { s.ken with cues := r.map (fun x => x.2) } }
  let fired := (r.filterMap (fun x => if x.1 then some x.2 else none)).foldr insertCue []
  fired.foldl (fun s c => applySeed s { c.seed with frame := s.time.k - 2 } 2) s

/-- Insertion of a beacon: largest area first, then ascending centroid y (R248). -/
def insertBeacon (b : Nat × Beacon) : List (Nat × Beacon) → List (Nat × Beacon)
  | [] => [b]
  | c :: t =>
    if c.2.area < b.2.area ∨ (c.2.area = b.2.area ∧ b.2.sv * c.2.sw < c.2.sv * b.2.sw) then b :: c :: t
    else c :: insertBeacon b t

/-- Distance on both axes within SUPP level-0 pixels (R245, R248), in Q16.16. -/
def near (s : State) (p q : Int × Int) : Bool :=
  let d : Int := s.fc 0x0B0018 16 8 * 131072
  decide (p.1 - q.1 ≤ d ∧ q.1 - p.1 ≤ d ∧ p.2 - q.2 ≤ d ∧ q.2 - p.2 ≤ d)

/-- A beacon lies near a non-FREE, non-LOST subject of its source (R248). -/
def suppressed (s : State) (src : Nat) (b : Beacon) : Bool :=
  let t := (birthPyr s src).instAt src b.pos.1 b.pos.2
  (liveSubjects s).any (fun p =>
    decide (p.2.source = src ∧ p.2.state ≠ 4) && near s b.pos (p.2.at_ t))

/-- Beacon births at an edge (R246 step 4, R248): `left` births may still be made.
DEDUCED (log 90). -/
def beaconWork : List (Nat × Beacon) → Nat → State → State
  | [], _, s => s
  | (src, b) :: t, left, s =>
    if left = 0 then s
    else if suppressed s src b then beaconWork t left s
    else
      match nextFit s true with
      | none => beaconWork t (left - 1) (bump s 0x0B008C)
      | some i =>
        let s := birth s i { Track.free 0 with
          subj := true, source := src, x := b.pos.1, y := b.pos.2, w := b.box.1, h := b.box.2,
          groups := (s.cur 0x0B0020).toNat + (s.cur 0x0B0024).toNat * 2 ^ 32,
          height := s.fc 0x0B0028 0 16 }
        beaconWork t (left - 1) (birthAlbum s i false)

/-- A position lies in a seeder cell (R249): outside level 0 it lies in none. -/
def inCell (c : Nat) (x y : Int) : Bool :=
  decide (x / 2097152 = (c % 256 : Nat) ∧ y / 2097152 = (c / 256 : Nat))

/-- A cell holds the position of a non-FREE feature of the array (R249). -/
def cellTaken (s : State) (c : Nat) : Bool :=
  (liveFeatures s).any (fun p => decide (p.2.source = 0) && inCell c p.2.x p.2.y)

/-- Feature births at an edge (R246 step 5, R249). -/
def featureWork : List Proposal → State → State
  | [], s => s
  | p :: t, s =>
    if cellTaken s p.cell then featureWork t s
    else
      match nextFit s false with
      | none => s
      | some i => featureWork t (birth s i { Track.free 0 with
          x := p.x, y := p.y, w := 32, h := 32, parent := parentOf s 0 p.x p.y, score := p.score })

/-- The cue numbers of the GO triggers in the queue. -/
def goCues (cmds : List KenCmd) : List Nat :=
  cmds.filterMap (fun c => match c with | .cueGo n => some n | _ => none)

/-- KENNEL_EDGE_WORK (R246): in T3 the five steps; below it the queued commands are discarded. -/
def kennelEdge (s : State) : State :=
  let cmds := s.ken.cmds
  let found := s.ken.found
  let props := s.ken.props
  let s := { s with ken := { s.ken with
    cmds := [], found := [], props := [], fresh := [], stable := false } }
  let s := removeLost s
  if s.sys.tier < 3 then bumpBy s 0x0B0084 cmds.length
  else
    let freed := s.ken.freed
    let s := ((liveFeatures s).filter (fun p => decide (p.2.state = 4))).foldl (fun s p => freeSlot s p.1) s
    let seen := fun (x : Freed) => decide (mget 0 s.ken.sixSeen x.slot = x.handle / 2 ^ 18 * 8 + 4)
    let s := { s with ken := { s.ken with
      freed := freed ++ (s.ken.freed.drop freed.length).filter (fun x => !seen x) } }
    let s := cmds.foldl applyCmd s
    let s := cueWork s (goCues cmds)
    let list := (found.flatMap (fun p => p.2.map (fun b => (p.1, b)))).foldl (fun l b => insertBeacon b l) []
    let s := beaconWork list (s.fc 0x0B0018 24 4) s
    featureWork props s

/-- The gradient products at a level-0 pixel (R249). -/
def gradAt (p : Pyr) (u v : Nat) : Int × Int :=
  let l := fun (a b : Nat) => ((p.px 0 a b : Nat) : Int)
  ((l (u + 1) v - l (u - 1) v) / 2, (l u (v + 1) - l u (v - 1)) / 2)

/-- The seeder score of a level-0 pixel (R249). -/
def seedScore (p : Pyr) (u v : Nat) : Int :=
  let g := (upto 7).flatMap (fun j => (upto 7).map (fun i => gradAt p (u + i - 3) (v + j - 3)))
  let sxx := (g.map (fun q => q.1 * q.1)).sum
  let syy := (g.map (fun q => q.2 * q.2)).sum
  let sxy := (g.map (fun q => q.1 * q.2)).sum
  sxx * syy - sxy * sxy - (sxx + syy) * (sxx + syy) / 16

/-- The searched pixel of highest score in a cell, the first in raster order on a tie (R249). -/
def cellBest (p : Pyr) (c : Nat) : Option (Nat × Nat × Int) :=
  let us := (rangeFrom (16 * (c % 256)) 16).filter (fun u => decide (8 ≤ u ∧ u ≤ 4087))
  let vs := (rangeFrom (16 * (c / 256)) 16).filter (fun v => decide (8 ≤ v ∧ v ≤ 3063))
  (vs.flatMap (fun v => us.map (fun u => (u, v)))).foldl (fun b q =>
    let x := seedScore p q.1 q.2
    match b with
    | some (u, v, y) => if y < x then some (q.1, q.2, x) else some (u, v, y)
    | none => some (q.1, q.2, x)) none

/-- One cell visited by the seeder: a proposal, or none (R249). -/
def seedCell (s : State) (c : Nat) : Option Proposal :=
  let t := tileAt (32 * (c / 256)) (32 * (c % 256))
  if s.img.cur.plan.rows.contains (t / 64) && (tileSpan s t).isSome && !cellTaken s c then
    match cellBest (s.curPyr 0) c with
    | some (u, v, x) =>
      if (s.fc 0x0B0014 0 16 : Int) * 65536 ≤ x then
        some { cell := c, x := (2 * (u : Int) + 1) * 65536, y := (2 * (v : Int) + 1) * 65536,
               score := min 0xFFFFFFFF (x / 65536).toNat }
      else none
    | none => none
  else none

/-- The seeder's visits from a cell on (R249): the proposals and the cell at which it stops.
DEDUCED (log 104). -/
def seedRun (s : State) (max : Nat) : Nat → Nat → List Proposal → List Proposal × Nat
  | 0, c, l => (l, c)
  | n + 1, c, l =>
    if max ≤ l.length then (l, c)
    else
      let next := (c + 1) % 49152
      match seedCell s c with
      | some p => seedRun s max n next (l ++ [p])
      | none => seedRun s max n next l

/-- FEATURE_SEEDER_RUN (R249). -/
def runSeeder (s : State) : State :=
  if s.fc 0x0B0000 16 1 = 1 ∧ s.ptr.present.contains 0 = true then
    let (l, c) := seedRun s (s.fc 0x0B0014 16 16) 49152 s.ken.seedCell []
    { s with ken := { s.ken with props := l, seedCell := c } }
  else s

/-- The lifecycle thresholds of a class (R259): CONFIRM, CAND_MISS, LOST_MISS, LOST_AGE, CAND_AGE. -/
def lifeOf (s : State) (subj : Bool) : Nat × Nat × Nat × Nat × Nat :=
  let a := if subj then 0x0B0004 else 0x0B000C
  (orIf (s.fc a 28 4) 1, orIf (s.fc a 24 4) 1, min 15 (orIf (s.fc a 16 8) 1), orIf (s.fc a 0 16) 1,
   orIf (s.fc (a + 4) 16 16) 1)

/-- A snapshot of the subject's box on the current pyramid goes into an album entry (R251, R285). -/
def takeSnapshot (s : State) (i entry : Nat) (pinned : Bool) : State :=
  let t := s.slot i
  let s := scentRemove s i entry
  let d := descriptor (s.curPyr t.source) t.x t.y t.w t.h
  let s := setSnap s i entry
    { desc := d, frame := t.frameLast, w := t.w, h := t.h, conf := t.conf, source := t.source,
      flags := 1 + 2 * bit pinned }
  let s := scentInsert s i entry d
  setSlot s i { t with
    albumN := (validSnaps s i).length, albumFrame := t.frameLast,
    albumNext := if pinned then t.albumNext else t.albumNext % 63 + 1 }

/-- The pinned first view, unless a preloaded pinned one stands (R251). -/
def firstSnapshot (s : State) (i : Nat) : State :=
  if (s.snap i 0).flags % 4 = 3 then s else takeSnapshot s i 0 true

/-- A further snapshot when one is due (R251). -/
def dueSnapshot (s : State) (i : Nat) : State :=
  let t := s.slot i
  if s.fc 0x0B002C 24 8 ≤ t.conf
      ∧ orIf (s.fc 0x0B002C 0 16) 1 ≤ (t.frameLast + 2 ^ 32 - t.albumFrame) % 2 ^ 32 then
    takeSnapshot s i t.albumNext false
  else s

/-- The transition of a slot at bookkeeping (R243, R244), for an outcome of R242: 1 ACCEPT, 2 REJECT,
3 STALE, 4 ABSENT, 5 REACQUIRE, 6 NONE.
DEDUCED (log 93). -/
def bookSlot (s : State) (i out : Nat) : State :=
  let t := s.slot i
  let hit := decide (out = 1 ∨ out = 5)
  let (confirm, candMiss, lostMiss, lostAge, candAge) := lifeOf s t.subj
  let dt := instCur s t.source t.x t.y
  let p := t.at_ dt
  let off := decide (t.state ≠ 4) && !inFrame s t.source p.1 p.2
  let t := { t with
    age := if hit then 0 else min 65535 (t.age + 1),
    miss := if hit then 0 else if out = 2 then min 15 (t.miss + 1) else t.miss,
    hits := if out = 1 then min 15 (t.hits + 1) else t.hits, stale := decide (out = 3),
    flags := t.flags / 4 * 4 + 2 * bit off + t.flags % 2 }
  let put := setSlot s i
  match t.state with
  | 1 =>
    if out = 1 then
      if confirm ≤ t.hits then
        let s := put { t with state := 2, flags := t.flags / 2 * 2 }
        if t.subj then firstSnapshot s i else s
      else put t
    else if (out = 2 ∧ candMiss ≤ t.miss) ∨ candAge ≤ t.age then endTrack (put t) i
    else put t
  | 4 =>
    if out = 5 then
      bump (put { t with state := 2, flags := t.flags / 2 * 2 + 1 }) 0x0B0094
    else
      let limit := s.fc 0x0B0008 0 16
      if limit ≠ 0 ∧ t.persist = false ∧ limit ≤ t.age then freeSlot (put t) i
      else put { t with probes := min 0xFFFFFFFF (t.probes + 1) }
  | 0 => s
  | _ =>
    if out = 1 then
      let s := put { t with state := 2, flags := if t.state = 2 then t.flags else t.flags / 2 * 2 }
      if t.subj then dueSnapshot s i else s
    else if lostMiss ≤ t.miss ∨ lostAge ≤ t.age then
      if t.subj then bump (put { t with state := 4, lostFrame := t.frameLast, probes := 0 }) 0x0B0098
      else put { t with state := 4 }
    else put { t with state := 3 }

/-- The outcome of a track in the tick (R242). -/
def outcomeOf (s : State) (i : Nat) (t : Track) : Nat :=
  match look s.ptr.outcome i with
  | some o => o
  | none => if t.state = 4 then 6 else if s.ptr.present.contains t.source then 3 else 4

/-- The unlabelled candidates that a re-acquired subject replaces (R245). -/
def duplicates (s : State) : List Nat :=
  let back := (liveSubjects s).filter (fun p => decide (p.2.state = 4 ∧ outcomeOf s p.1 p.2 = 5))
  ((liveSubjects s).filter (fun p =>
    decide (p.2.state = 1 ∧ p.2.label = 0) && back.any (fun q =>
      decide (q.2.source = p.2.source) && near s (p.2.x, p.2.y) (q.2.x, q.2.y)))).map (fun p => p.1)

/-- BOOKKEEPING (R243): outcomes, STALE counts, transitions, and the slots freed as by a kill. -/
def bookkeep (s : State) : State :=
  let s := removeLost s
  let gone := duplicates s ++ s.ken.broken
  let out := (liveTracks s).map (fun p => (p.1, outcomeOf s p.1 p.2, p.2.subj))
  let stale := fun b => (out.filter (fun q => decide (q.2.1 = 3) && (q.2.2 == b))).length
  let s := { s with
    ptr := { s.ptr with outcome := out.foldl (fun m q => put m q.1 q.2.1) s.ptr.outcome },
    ken := { s.ken with broken := [] } }
  let s := bumpBy (bumpBy s 0x0C009C (stale true)) 0x0C00A0 (stale false)
  out.foldl (fun s q => if gone.contains q.1 then freeSlot s q.1 else bookSlot s q.1 q.2.1) s

/-- KEN_STATUS (R262). -/
def kenStatus (s : State) : Nat :=
  bit s.ken.stable * 2 ^ 31
    + ((liveSubjects s).filter (fun p => decide (p.2.state = 4))).length * 65536 + (liveSubjects s).length

/-- The 16 bytes of MATCH (R275). -/
def MatchRec.bytes (m : MatchRec) : List Byte :=
  le 2 m.err ++ le 2 m.curv ++ le 2 (code 16 m.dx) ++ le 2 (code 16 m.dy) ++ le 1 (code 8 m.ofs)
    ++ le 1 m.part ++ le 1 m.lane ++ le 1 m.flags ++ le 4 m.tried

/-- The 128 bytes of a slot (R238 to R240). -/
def Track.bytes (t : Track) : List Byte :=
  let head := le 4 (t.gen * 2 ^ 18 + t.state * 2 ^ 15 + bit t.subj * 2 ^ 14 + t.source * 2 ^ 12
      + t.origin * 2 ^ 10 + bit t.stale * 2 ^ 9 + bit t.persist * 2 ^ 8 + t.conf)
    ++ le 4 t.frameLast ++ le 4 t.frameBirth ++ le 4 (t.age * 65536 + t.miss * 4096 + t.hits * 256)
    ++ le 4 (code 32 t.x) ++ le 4 (code 32 t.y) ++ le 4 (code 32 t.vx) ++ le 4 (code 32 t.vy)
    ++ le 8 t.tMeas ++ le 2 t.w ++ le 2 t.h ++ le 2 t.label ++ le 2 t.flags
  if t.subj then
    head ++ le 4 (code 32 t.ax) ++ le 4 (code 32 t.ay) ++ le 8 t.groups ++ le 2 t.height ++ le 1 t.albumN
      ++ le 1 t.albumNext ++ le 4 t.albumFrame ++ t.mat.bytes ++ le 4 t.lostFrame ++ le 4 t.probes
      ++ le 4 t.tag ++ zeros 24 ++ zeros 4
  else head ++ le 4 t.parent ++ le 4 t.score ++ t.mat.bytes ++ le 4 t.tag ++ zeros 52

/-- The bytes of a Scent set (R287). -/
def setBytes (l : List ScentEntry) : List Byte :=
  (upto 8).flatMap (fun w =>
    match l[w]? with
    | some e => le 4 e.key ++ le 4 (e.slot + e.snap * 2 ^ 12 + e.band * 2 ^ 18 + 2 ^ 21)
    | none => zeros 8)

/-- The header of streams 5 and 6 (R257). -/
def trackHeader (s : State) (count flags : Nat) : List Byte :=
  let f := s.img.prv
  le 4 (f.k % 2 ^ 32) ++ le 2 f.id ++ zeros 2 ++ le 4 count ++ le 4 flags ++ le 8 s.time.tb ++ zeros 8

/-- A record of stream 6 (R257). -/
def featRecord (handle : Nat) (x y : Int) (state : Nat) (stale accept : Bool) (conf age : Nat) : List Byte :=
  le 4 handle ++ le 4 (code 32 x) ++ le 4 (code 32 y) ++ le 1 (state + 8 * bit stale + 16 * bit accept)
    ++ le 1 conf ++ le 2 age

/-- What stream 6 remembers of a feature: generation and state. -/
def seenCode (t : Track) : Nat := t.gen * 8 + t.state

/-- Insertion of a record by slot. -/
def insertRec (r : Nat × List Byte) : List (Nat × List Byte) → List (Nat × List Byte)
  | [] => [r]
  | q :: t => if r.1 < q.1 then r :: q :: t else q :: insertRec r t

/-- TRACK_STREAMS (R257): streams 5 and 6 at S.
DEDUCED (log 102). -/
def trackStreams (s : State) (flags : Nat) : State :=
  let k := s.img.prv.k % 2 ^ 32
  let s := if s.fc 0x0B0030 0 1 = 1 then
      let l := liveSubjects s
      queueRecord s 5 k 0 (trackHeader s l.length flags ++ l.flatMap (fun p => p.2.bytes)) true
    else s
  let s :=
    if s.fc 0x0B0030 1 1 = 1 then
      let all := decide (s.fc 0x0B0030 2 1 = 1)
      let acc := fun i => decide (mget 0 s.ptr.outcome i = 1)
      let pick := (liveFeatures s).filter (fun p =>
        all || acc p.1 || decide (mget 0 s.ken.sixSeen p.1 ≠ seenCode p.2))
      let recs := pick.map (fun p =>
        (p.1, featRecord (handleOf p.1 p.2) p.2.x p.2.y p.2.state p.2.stale (acc p.1) p.2.conf p.2.age))
      let gone := s.ken.freed.map (fun x => (x.slot, featRecord x.handle x.x x.y 0 false false x.conf x.age))
      let l := (gone ++ recs).foldl (fun l r => insertRec r l) []
      let s := queueRecord s 6 k 0 (trackHeader s l.length flags ++ l.flatMap (fun r => r.2)) true
      { s with ken := { s.ken with
        sixSeen := (liveFeatures s).map (fun p => (p.1, seenCode p.2)) } }
    else s
  { s with ken := { s.ken with freed := [] } }

/-- A write of KEN_CMD_HANDLE and its companions: the copy of a source (R254).
DESIGN CHOICE (log 161). -/
def kenCopy (s : State) (src : Src) (a : Nat) : Nat :=
  match src with
  | .nlk => (s.cur a).toNat
  | .mgb => (mget 0 s.regs.mgbCopy a).toNat
  | .shp => (mget 0 s.regs.shpCopy a).toNat

/-- The 64-bit group set of a source (R254). -/
def kenGroups (s : State) (src : Src) : Nat := kenCopy s src 0x0B0044 + kenCopy s src 0x0B0048 * 2 ^ 32

/-- A write to KEN_CMD_OP (R254, R261). -/
def kenOpWrite (s : State) (src : Src) (v : Word) : State :=
  let h := kenCopy s src 0x0B0040
  match field v 0 2 with
  | 1 => queueCmd s (.opKill h)
  | 2 => queueCmd s (.setGroups h (kenGroups s src))
  | 3 => queueCmd s (.setPersist h (decide (field v 2 1 = 1)))
  | _ => s

/-- KEN_CMD_KILL (R254). -/
def execKenCmdKill (src : Src) (s : State) : Host.Outcome State Fault Refusal :=
  .next (whenReg s fun s => kenOpWrite s src 1)

/-- KEN_CMD_SET_GROUPS (R254). -/
def execKenCmdSetGroups (src : Src) (s : State) : Host.Outcome State Fault Refusal :=
  .next (whenReg s fun s => kenOpWrite s src 2)

/-- KEN_CMD_SET_PERSIST (R254). -/
def execKenCmdSetPersist (src : Src) (value : Bool) (s : State) : Host.Outcome State Fault Refusal :=
  .next (whenReg s fun s => kenOpWrite s src (if value then 7 else 3))

/-- KEN_CUE_GO (R255): queues the GO trigger of a cue. -/
def execKenCueGo (_src : Src) (cue : Nat) (s : State) : Host.Outcome State Fault Refusal :=
  .next (whenReg s fun s => queueCmd s (.cueGo (cue % 256)))

end Sys2Proof.Machine
end

