-- ==== Sys2Proof/Machine/Match.lean ====
section
/-!
DEFINITION. Pointer matching (R267 to R284): due and ready jobs, dispatch, the search, the fit, the
acceptance rule and the filter, lane checking, the cut-off and the replay.
-/

namespace Sys2Proof.Machine

/-- The match cut-off C (R23, R276), in bus counts from E; in a fixed ratio to the chain period. -/
def cutAt (s : State) : Nat := s.time.t * 87 / 100

/-- The end of the replay window (R23).
DESIGN CHOICE (log 221). -/
def replayEnd (s : State) : Nat := s.time.t * 885 / 1000

/-- The lanes in service, 64 being the spare that replaces a lane (R281). -/
def lanesUp (s : State) : List Nat :=
  (upto 64).filter (fun l => !s.ptr.retired.contains l) ++ (if s.ptr.spareFor.isSome then [64] else [])

/-- When a job must end to commit (R25, R283): a re-run by the end of the replay window, any other by S.
DESIGN CHOICE (log 221). -/
def lastEnd (s : State) : Nat := if s.ptr.cut then replayEnd s else s.time.t * 9 / 10

/-- Step 6 has loaded the Pointer control cores from firmware (R463, R477). -/
def coresUp (s : State) : Bool := decide (s.boot.cfgCopy ≠ 0) && !s.boot.romOnly

/-- The lane set is healthy (R284): enough lanes, and every control core loaded and checking in; a core that misses
its check-in is a fault of the lane set. -/
def laneHealth (s : State) : Bool :=
  coresUp s && decide (s.boot.coreFail = 0) && !s.sys.failed.contains .lanes
    && decide (min 64 (orIf (s.fa 0x0C0000 0 6) 1) ≤ (lanesUp s).length)

/-- PTR_STATUS (R293), at its reset value until a start has loaded the control cores.
DESIGN CHOICE (log 182). -/
def ptrStatus (s : State) : Nat :=
  if coresUp s = false then 0x00FF0000
  else bit (laneHealth s) * 2 ^ 31 + bit (!s.ptr.retired.contains 64) * 2 ^ 30
    + bit s.ptr.spareFor.isSome * 2 ^ 29 + (s.ptr.shadow.getD 0xFF) * 65536 + (lanesUp s).length

/-- PTR_RETIRED0 to PTR_RETIRED2 (R293). -/
def ptrRetired (s : State) (i : Nat) : Nat :=
  ((upto 32).map (fun b => bit (s.ptr.retired.contains (32 * i + b)) * 2 ^ b)).sum

/-- A lane or the spare leaves service (R281, R282). -/
def retire (s : State) (l : Nat) : State :=
  if s.ptr.retired.contains l then s
  else
    let p := { s.ptr with retired := l :: s.ptr.retired, retiredNow := true }
    let p :=
      if l = 64 then { p with spareFor := none }
      else if p.spareFor = none ∧ p.retired.contains 64 = false then { p with spareFor := some l }
      else p
    logReg (bump { s with ptr := p } 0x0C0088) 0x03 1 0x0C0088 l 0

/-- A set that stops being healthy is a T3 unit fault (R284). -/
def healthCheck (s : State) : State :=
  let h := laneHealth s
  let was := s.ptr.healthy
  let s := { s with ptr := { s.ptr with healthy := h } }
  if was && !h then utFault s .lanes else s

/-- The template half size (R269). -/
def halfOf (t : Track) : Nat := if t.subj then 16 else 8

/-- The geometry of a job (R267 to R269): instants, template position, prediction. -/
structure Job where
  slot : Nat
  track : Track
  tq : Nat
  tp : Nat
  prev : Int × Int
  pred : Int × Int
deriving DecidableEq, Repr

/-- The job of a track in the open tick.
DESIGN CHOICE (log 222). -/
def jobOf (s : State) (i : Nat) (t : Track) : Job :=
  let tq := (s.prevPyr t.source).instAt t.source t.x t.y
  let tp := instCur s t.source t.x t.y
  { slot := i, track := t, tq := tq, tp := tp, prev := t.at_ tq, pred := t.at_ tp }

/-- A position in Q16.16 at a level scale, rounded (R269). -/
def atScale (v : Int) (lam : Nat) : Int := roundDiv v (65536 * 2 ^ (lam + 1) : Nat)

/-- The template centre row and the start row of level 2 (R273). -/
def Job.rows2 (j : Job) : Int × Int :=
  let t2 := atScale j.prev.2 2
  (t2, t2 + atScale (j.pred.2 - j.prev.2) 2)

/-- Source rows `lo` to `hi`, clipped to a frame of `h` rows (R273). -/
def clipRows (lo hi : Int) (h : Nat) : List Nat :=
  let a := max 0 lo
  let b := min ((h : Int) - 1) hi
  (upto (b + 1 - a).toNat).map (fun (d : Nat) => a.toNat + d)

/-- The footprint in the current frame (R273). -/
def Job.footCur (j : Job) (h : Nat) : List Nat :=
  let c := j.rows2.2
  let g : Int := if j.track.subj then 20 else 12
  clipRows (8 * (c - g)) (8 * (c + g) - 1) h

/-- The footprint in the previous frame (R273). -/
def Job.footPrev (j : Job) (h : Nat) : List Nat :=
  let t := j.rows2.1
  let g : Int := halfOf j.track
  clipRows (8 * (t - g)) (8 * (t + g) - 1) h

/-- Every pyramid row over a source row is valid and ready, at each level of a frame of `h` rows that reaches it
(R265). -/
def rowHas (p : Pyr) (h r : Nat) : Bool :=
  (upto 3).all (fun lam => decide (h / 2 ^ (lam + 1) ≤ r / 2 ^ (lam + 1)) || p.has lam (r / 2 ^ (lam + 1)))

/-- A source row can still become valid: its tile-row is read by the main pass, its pyramid rows hold no
uncorrectable word, and a row of an auxiliary source is still to come or usable (R265, R273). -/
def rowHope (s : State) (src r : Nat) : Bool :=
  let p := s.curPyr src
  (upto 3).all (fun lam => p.sound lam (r / 2 ^ (lam + 1)))
    && (if src = 0 then s.img.cur.plan.rows.contains (r / 128)
        else !s.ptr.cut || rowHas p (frameH s src) r)

/-- The job is runnable (R273): in a frame still arriving, rows to come belong to the footprint. -/
def runnable (s : State) (j : Job) : Bool :=
  let q := s.prevPyr j.track.source
  let h := pyrRows s j.track.source q
  (j.footPrev h).all (rowHas q h)
    && (j.footCur (frameH s j.track.source)).all (rowHope s j.track.source)

/-- The job is ready (R273). -/
def ready (s : State) (j : Job) : Bool :=
  let src := j.track.source
  runnable s j && (j.footCur (frameH s src)).all (rowHas (s.curPyr src) (frameH s src))

/-- The tracks that are due a job in the open tick and have not started it, subjects by slot and then
features from the cursor on (R267, R276). -/
def dueJobs (s : State) : List Job :=
  let due := (liveTracks s).filter (fun p =>
    decide (p.2.state ≠ 4) && s.ptr.present.contains p.2.source && !s.ptr.started.contains p.1)
  let cur := s.fc 0x0C0038 0 18
  let subj := due.filter (fun p => p.2.subj)
  let feat := due.filter (fun p => !p.2.subj)
  (subj ++ feat.filter (fun p => decide (cur ≤ p.1)) ++ feat.filter (fun p => decide (p.1 < cur))).map
    (fun p => jobOf s p.1 p.2)

/-- The job may start under the feature cap (R277). -/
def underCap (s : State) (j : Job) : Bool := j.track.subj || decide (s.ptr.featStarted < (s.cur 0x0C0034).toNat)

/-- A lane may take a job: it is free, and the shadowed lane's journal has room (R283). -/
def laneFree (s : State) (l : Nat) : Bool :=
  (look s.ptr.running l).isNone
    && (decide (s.ptr.shadow ≠ some l) || decide (s.ptr.journal.length < 16384))

/-- A job starts on a lane (R276); the journal of the shadowed lane takes its descriptor and the slot's
before-image (R283). -/
def startJob (s : State) (l : Nat) (j : Job) : State :=
  let p := s.ptr
  let p := { p with
    running := put p.running l (j.slot, s.time.tb), started := j.slot :: p.started,
    featStarted := p.featStarted + bit (!j.track.subj) }
  let p := if p.shadow = some l then
      { p with journal := p.journal ++ [{ slot := j.slot, subj := j.track.subj, lane := l,
                                          frame := (s.curPyr j.track.source).frame, order := p.journal.length,
                                          tq := j.tq, tp := j.tp, image := j.track }] }
    else p
  { s with ptr := p }

/-- The 160 bytes of a tick-journal entry (R543). -/
def JrnEntry.bytes (e : JrnEntry) : List Byte :=
  le 4 e.slot ++ le 1 (bit e.subj) ++ le 1 e.lane ++ zeros 2 ++ le 4 (e.frame % 2 ^ 32) ++ le 4 e.order
    ++ le 8 e.tq ++ le 8 e.tp ++ e.image.bytes

/-- Free lanes take the first ready jobs in order (R276).
DEDUCED (log 98). -/
def dispatchLanes : List Nat → List Job → State → State
  | [], _, s => s
  | l :: ls, js, s =>
    match js.find? (fun j => underCap s j && ready s j) with
    | none => s
    | some j => dispatchLanes ls (js.filter (fun q => decide (q.slot ≠ j.slot))) (startJob s l j)

/-- MATCH_JOB_DISPATCH (R276): from the known-answer job on and before C. -/
def dispatch (s : State) : State :=
  if s.sys.tier = 3 ∧ s.ptr.kat = true ∧ s.ptr.cut = false ∧ s.time.tb < s.time.e + cutAt s then
    dispatchLanes ((lanesUp s).filter (laneFree s)) (dueJobs s) s
  else s

/-- The re-runs of journaled jobs, in journal order, on the lanes in service (R283). -/
def dispatchReplay : List Nat → State → State
  | [], s => s
  | l :: ls, s =>
    match s.ptr.replay with
    | [] => s
    | e :: rest =>
      dispatchReplay ls (bump { s with ptr := { s.ptr with
        running := put s.ptr.running l (e.slot, s.time.tb), replay := rest } } 0x0C008C)

/-- Whether the template area at a level position lies inside the level (R270). -/
def areaIn (p : Pyr) (lam h : Nat) (c : Int × Int) : Bool :=
  decide ((h : Int) ≤ c.1 ∧ c.1 + h ≤ p.lw lam ∧ (h : Int) ≤ c.2 ∧ c.2 + h ≤ p.lh lam)

/-- A template pixel: of the previous pyramid, or without a stated value outside the level (R269).
DESIGN CHOICE (log 96). -/
def templPx (p : Pyr) (lam : Nat) (u v : Int) : Int :=
  if 0 ≤ u ∧ u < p.lw lam ∧ 0 ≤ v ∧ v < p.lh lam then (p.px lam u.toNat v.toNat : Nat)
  else ((Config.templateEdge lam u v).toNat : Nat)

/-- The offsets of the template area, row by row (R269). -/
def areaOffs (h : Nat) : List (Int × Int) :=
  (upto (2 * h)).flatMap (fun (j : Nat) => (upto (2 * h)).map (fun (i : Nat) => ((i : Int) - h, (j : Int) - h)))

/-- The template of a job at a level: offsets with values. -/
def templateAt (q : Pyr) (lam h : Nat) (t : Int × Int) : List ((Int × Int) × Int) :=
  (areaOffs h).map (fun o => (o, templPx q lam (t.1 + o.1) (t.2 + o.2)))

/-- A pixel of the current level inside the frame. -/
def curPx (p : Pyr) (lam : Nat) (c o : Int × Int) : Int :=
  (p.px lam (c.1 + o.1).toNat (c.2 + o.2).toNat : Nat)

/-- δ at the start of a level (R270). -/
def deltaAt (s : State) (p : Pyr) (lam h : Nat) (tm : List ((Int × Int) × Int)) (c : Int × Int) : Int :=
  if areaIn p lam h c then
    let m : Int := s.fa 0x0C0008 24 8
    clampI (-m) m (roundDiv ((tm.map (fun q => curPx p lam c q.1 - q.2)).sum) (tm.length : Nat))
  else 0

/-- The part of a template offset: 0 to 3, by quadrant (R267). -/
def partOf (o : Int × Int) : Nat := (if 0 ≤ o.1 then 1 else 0) + (if 0 ≤ o.2 then 2 else 0)

/-- The sums of absolute differences by part (R270). -/
def partSums (p : Pyr) (lam : Nat) (tm : List ((Int × Int) × Int)) (d : Int) (c : Int × Int) : List Nat :=
  (upto 4).map (fun k => ((tm.filter (fun q => decide (partOf q.1 = k))).map
    (fun q => (curPx p lam c q.1 - q.2 - d).natAbs)).sum)

/-- The metric d(p) of R270; none where it is infinite. -/
def metric (subj : Bool) (p : Pyr) (lam h : Nat) (tm : List ((Int × Int) × Int)) (d : Int)
    (c : Int × Int) : Option Nat :=
  if areaIn p lam h c then
    let l := partSums p lam tm d c
    some (if subj then l.sum - l.foldl max 0 else l.sum)
  else none

/-- The part of largest sum, one-hot, the lowest on a tie (R275). -/
def droppedPart (l : List Nat) : Nat :=
  let m := l.foldl max 0
  match l.findIdx? (fun v => decide (v = m)) with
  | some i => 2 ^ i
  | none => 0

/-- The positions of a search square, by row and then by column. -/
def square (c : Int × Int) (r : Nat) : List (Int × Int) :=
  (upto (2 * r + 1)).flatMap (fun (j : Nat) => (upto (2 * r + 1)).map (fun (i : Nat) =>
    (c.1 + (i : Int) - r, c.2 + (j : Int) - r)))

/-- The Chebyshev distance of two positions. -/
def cheb (a b : Int × Int) : Nat := max (a.1 - b.1).natAbs (a.2 - b.2).natAbs

/-- best of R269: the least metric, then the least distance to the start, then raster order. -/
def bestOf (c : Int × Int) (l : List ((Int × Int) × Option Nat)) : Option ((Int × Int) × Nat) :=
  l.foldl (fun (b : Option ((Int × Int) × Nat)) (q : (Int × Int) × Option Nat) =>
    match q.2, b with
    | none, b => b
    | some d, none => some (q.1, d)
    | some d, some (bp, bd) =>
      if d < bd ∨ (d = bd ∧ cheb q.1 c < cheb bp c) then some (q.1, d) else some (bp, bd)) none

/-- What the coarse levels of a search leave: the correction, whether a best lay on a rim, and whether
a level had no finite position. -/
structure Coarse where
  corr : Int × Int
  edge : Bool
  out : Bool
deriving DecidableEq, Repr

/-- One level of the search (R269): its start, δ, template, best and radius. -/
def levelSearch (s : State) (cur prev : Pyr) (j : Job) (lam : Nat) (corr : Int × Int) :
    (Int × Int) × (Int × Int) × Int × List ((Int × Int) × Int) × Option ((Int × Int) × Nat) × Nat :=
  let h := halfOf j.track
  let t := (atScale j.prev.1 lam, atScale j.prev.2 lam)
  let c := (t.1 + atScale (j.pred.1 - j.prev.1) lam + 2 * corr.1,
            t.2 + atScale (j.pred.2 - j.prev.2) lam + 2 * corr.2)
  let r := if lam = 2 then 4 else 2
  let tm := templateAt prev lam h t
  let d := deltaAt s cur lam h tm c
  (t, c, d, tm, bestOf c ((square c r).map (fun p => (p, metric j.track.subj cur lam h tm d p))), r)

/-- A coarse level of the search (R269). -/
def coarseLevel (s : State) (cur prev : Pyr) (j : Job) (x : Coarse) (lam : Nat) : Coarse :=
  let (_, c, _, _, b, r) := levelSearch s cur prev j lam x.corr
  match b with
  | none => { x with corr := (2 * x.corr.1, 2 * x.corr.2), out := true }
  | some (p, _) =>
    { x with corr := (2 * x.corr.1 + (p.1 - c.1), 2 * x.corr.2 + (p.2 - c.2)),
             edge := x.edge || decide (cheb p c = r) }

/-- The fit on one axis (R271): frac in 1/256, the curvature when the axis has a fit, and SPLIT. -/
def fitAxis (d0 : Nat) (lo hi : Option Nat) : Int × Nat × Bool :=
  match lo, hi with
  | some a, some b =>
    let den : Int := (a : Int) - 2 * (d0 : Int) + b
    if 0 < den then (clampI (-128) 128 (roundDiv (128 * ((a : Int) - b)) den), den.toNat, false)
    else (0, 0, true)
  | _, _ => (0, 0, false)

/-- A value stored in 32 bits, saturating. -/
def sat32 (v : Int) : Int := clampI (-2147483648) 2147483647 v

/-- The result of a job: its MATCH field, the position and confidence, and whether it is accepted. -/
structure JobResult where
  mat : MatchRec
  zx : Int
  zy : Int
  conf : Nat
  accept : Bool
deriving DecidableEq, Repr

/-- CONF of R272 from D₀, the curvature and N′. -/
def confOf (s : State) (d0 k n : Nat) : Nat :=
  let eMax := orIf (s.fa 0x0C0008 0 8) 1
  let kMin := orIf (s.fa 0x0C0008 8 8) 1
  let a := eMax * n - d0
  if 16 * k < kMin * n then 255 * a * (16 * k) / (eMax * n * (kMin * n)) else 255 * a / (eMax * n)

/-- The search, fit and acceptance of a job (R269 to R273, R275); `f` supplies the parts of MATCH that a
search without a finite position leaves open.
DESIGN CHOICE (log 97). -/
def runJob (s : State) (j : Job) (lane f : Nat) : JobResult :=
  let src := j.track.source
  let cur := s.curPyr src
  let prev := s.prevPyr src
  let tried := cur.frame % 2 ^ 32
  let x := [2, 1].foldl (coarseLevel s cur prev j) { corr := (0, 0), edge := false, out := false }
  let (t, c, d, tm, b, r) := levelSearch s cur prev j 0 x.corr
  match (if x.out then none else b) with
  | none =>
    { mat := { err := f % 65536, curv := f / 2 ^ 16 % 65536, dx := sgn 16 (f / 2 ^ 32),
               dy := sgn 16 (f / 2 ^ 48), ofs := sgn 8 (f / 2 ^ 64), part := f / 2 ^ 72 % 16, lane := lane,
               flags := bit x.edge + 2 + 4 * (f / 2 ^ 76 % 2), tried := tried },
      zx := j.pred.1, zy := j.pred.2, conf := 0, accept := false }
  | some (p, d0) =>
    let h := halfOf j.track
    let m := fun q => metric j.track.subj cur 0 h tm d q
    let (fx, kx, sx) := fitAxis d0 (m (p.1 - 1, p.2)) (m (p.1 + 1, p.2))
    let (fy, ky, sy) := fitAxis d0 (m (p.1, p.2 - 1)) (m (p.1, p.2 + 1))
    let k := min kx ky
    let n := if j.track.subj then 768 else 256
    let zx := j.prev.1 + 131072 * (p.1 - t.1) + 512 * fx
    let zy := j.prev.2 + 131072 * (p.2 - t.2) + 512 * fy
    let conf := confOf s d0 k n
    let inside := decide (0 ≤ zx ∧ zx < 65536 * (cur.w : Int) ∧ 0 ≤ zy ∧ zy < 65536 * (cur.h : Int))
    { mat := { err := min 65535 ((512 * d0 + n) / (2 * n)), curv := min 65535 ((512 * k + n) / (2 * n)),
               dx := clampI (-32768) 32767 (roundDiv (zx - j.pred.1) 256),
               dy := clampI (-32768) 32767 (roundDiv (zy - j.pred.2) 256), ofs := d,
               part := if j.track.subj then droppedPart (partSums cur 0 tm d p) else 0, lane := lane,
               flags := bit (x.edge || decide (cheb p c = r)) + 4 * bit (sx || sy), tried := tried },
      zx := zx, zy := zy, conf := conf, accept := decide (s.fa 0x0C0008 16 8 ≤ conf) && inside }

/-- One axis of the filter update (R274): new position, velocity and acceleration. `dc` is Δ in bus
counts.
DEDUCED (log 95). -/
def filterAxis (s : State) (t : Track) (x v a z pred : Int) (dc : Int) : Int × Int × Int :=
  let vm : Int := s.fa 0x0C0014 0 16 * 65536
  let vel := fun (num den : Int) => clampI (-vm) vm (roundDiv num den)
  let (al, be, ga) : Int × Int × Int :=
    if t.subj then (s.fa 0x0C0010 0 8, s.fa 0x0C0010 8 8, s.fa 0x0C0010 16 8)
    else (s.fa 0x0C000C 0 8, s.fa 0x0C000C 8 8, 0)
  let r := z - pred
  let pos := pred + roundDiv (al * r) 256
  match t.hits with
  | 0 => (z, 0, 0)
  | 1 => (z, vel ((z - x) * 256 * 750000) dc, 0)
  | _ =>
    if t.subj then
      (pos, vel (v * 16 * 750000 * dc + a * dc * dc + be * r * 16 * 750000 * 750000) (16 * 750000 * dc),
       sat32 (roundDiv (a * dc * dc + 2 * ga * r * 16 * 750000 * 750000) (dc * dc)))
    else (pos, vel (v * dc + be * r * 750000) dc, a)

/-- The commit of a job (R274). -/
def commitJob (s : State) (j : Job) (r : JobResult) : State :=
  let t := s.slot j.slot
  let s := { s with ptr := { s.ptr with outcome := put s.ptr.outcome j.slot (if r.accept then 1 else 2) } }
  if r.accept then
    let dc : Int := max ((j.tp : Int) - t.tMeas) 187500
    let (x, vx, ax) := filterAxis s t t.x t.vx t.ax r.zx j.pred.1 dc
    let (y, vy, ay) := filterAxis s t t.y t.vy t.ay r.zy j.pred.2 dc
    setSlot s j.slot { t with
      mat := r.mat, conf := r.conf, frameLast := r.mat.tried, tMeas := j.tp, x := sat32 x, y := sat32 y,
      vx := sat32 vx, vy := sat32 vy, ax := ax, ay := ay }
  else setSlot s j.slot { t with mat := r.mat }

/-- The time a job takes in bus counts (R277). -/
def jobCounts (t : Track) : Nat := if t.subj then 2400 else 600

/-- The solve point of the open tick is still to come: no track update is applied after it (R25).
DESIGN CHOICE (log 221). -/
def beforeSolve (s : State) : Bool := !s.ptr.solved && decide (s.time.tb ≤ s.time.e + s.time.t * 9 / 10)

/-- The result that a lane leaves when it miscomputes (R544): nothing of it is as the search gives it.
DESIGN CHOICE (log 101). -/
def wrongResult (r : JobResult) (f : Nat) : JobResult :=
  { mat := { r.mat with err := f % 65536, curv := f / 2 ^ 16 % 65536, dx := sgn 16 (f / 2 ^ 32),
                        dy := sgn 16 (f / 2 ^ 48), ofs := sgn 8 (f / 2 ^ 64), part := f / 2 ^ 72 % 16,
                        flags := f / 2 ^ 76 % 8 },
    zx := sgn 32 (f / 2 ^ 80), zy := sgn 32 (f / 2 ^ 112), conf := f / 2 ^ 144 % 256,
    accept := decide (f / 2 ^ 152 % 2 = 1) }

/-- MATCH_JOB_COMPLETE (R274): the job of a slot on a lane ends and commits; a free lane takes the next.  A lane that
miscomputes leaves a wrong update (R544).
DESIGN CHOICE (log 97). -/
def execMatchJobComplete (slot : Nat) (by_ : LaneEnd) (s : State) : Host.Outcome State Fault Refusal :=
  .next (whenTier 3 s fun s =>
    match look s.ptr.running by_.lane with
    | some (i, t0) =>
      if i = slot ∧ t0 + jobCounts (s.slot slot) ≤ s.time.e + lastEnd s ∧ beforeSolve s = true then
        let t := s.slot slot
        let s := reach s (t0 + jobCounts t)
        let s := { s with ptr := { s.ptr with running := unput s.ptr.running by_.lane } }
        let (f, s) := drawFree s
        let j := jobOf s slot t
        let r := runJob s j by_.lane f
        let (r, s) := if by_.wrong then let (g, s) := drawFree s; (wrongResult r g, s) else (r, s)
        let s := commitJob s j r
        if s.ptr.cut then dispatchReplay [by_.lane] s else dispatch s
      else s
    | none => s)

/-- The first slot of the next tile-row, whose rows may be neighbours of a listed pixel (R161), ends by the time at
which a tile-row is ready: no burst pass comes between (R23, R139).
DESIGN CHOICE (log 190). -/
def nextInTime (p : Plan) (tm row : Nat) : Bool :=
  p.rows.contains (row + 1) && decide (p.loOf (row + 1) ≤ p.loOf row + 6000 + 31 * tm)

/-- Every row that the values of a tile-row rest on, and that is read by the time it is ready, has been captured
(R23, R161).
DESIGN CHOICE (log 190). -/
def rowComplete (f : Frame) (p : Plan) (tm row : Nat) : Bool :=
  (look f.main (32 * row + 31)).isSome &&
    (!nextInTime p tm row || (look f.main (32 * (row + 1))).isSome)

/-- PYRAMID_READY (R23, R265): for the array the tile-row's pyramid and statistics; for an auxiliary
source a level-0 row with the rows above it. -/
def execPyramidReady (src row : Nat) (s : State) : Host.Outcome State Fault Refusal :=
  .next (whenTier 2 s fun s =>
    if src = 0 then
      let f := s.img.prv
      if s.img.cur.plan.rows.contains row && rowComplete f s.img.cur.plan (slotCounts s.readSet) row
          && !f.ready.contains row then
        let s := reach s (s.time.e + s.img.cur.plan.loOf row + 6000)
        let s := { s with img := { s.img with prv := { f with ready := row :: f.ready } } }
        dispatch (buildArray (statRow s row) row)
      else s
    else if src ≤ 2 ∧ s.ptr.cut = false then dispatch (buildAux s src row)
    else s)

/-- The tick's matching begins at an edge (R276 to R278, R293): nothing started and no lane shadowed; in T3 the
budget and the cursor. -/
def ptrEdge (s : State) : State :=
  let n := subjSlots s
  let cur := if s.ptr.cursorLo = n then s.ptr.nextCursor else n
  let s := { s with ptr := { s.ptr with
    cursorLo := n, nextCursor := cur, shadow := none, running := [], started := [], featStarted := 0, outcome := [],
    journal := [],
    replay := [], badJournal := [], kat := false, cut := false, booked := false, solved := false,
    retiredNow := false, unfinished := false }, sct := { s.sct with probed := [], pairs := [], freeAt := s.time.tb } }
  if s.sys.tier < 3 then s
  else
    let tm := slotCounts (if s.time.k = 0 then s.regs.act else s.regs.prev)
    let r := 9000 + 32 * tm
    let b := (lanesUp s).length * 2 * (cutAt s - r) / 1200
    let due := (liveSubjects s).filter (fun p =>
      decide (p.2.state ≠ 4) && s.ptr.present.contains p.2.source)
    let f := b - 4 * due.length
    let f := if s.img.prv.therm = 0 then f else f * orIf (s.fa 0x0A0060 24 8) 1 / 256
    setFld (setRegN (setRegN s 0x0C0030 b) 0x0C0034 f) 0x0C0038 0 18 cur

/-- The next lane in service after the one shadowed last (R282). -/
def nextShadow (s : State) : Option Nat :=
  let l := (upto 64).filter (fun x => !s.ptr.retired.contains x)
  match s.ptr.lastShadow with
  | none => l.head?
  | some p =>
    match l.find? (fun x => decide (p < x)) with
    | some x => some x
    | none => l.head?

/-- KNOWN_ANSWER_JOB (R281, R282): at E + 4 µs failing lanes are retired, the spare first; the lane that
the spare shadows in the tick is named, and matching may begin. -/
def execKnownAnswerJob (failing : List Nat) (s : State) : Host.Outcome State Fault Refusal :=
  .next (whenTier 3 s fun s =>
    if s.ptr.kat then s
    else
      inCycle (reach s (s.time.e + 3000)) fun s =>
      let units := (64 :: upto 64).filter (fun l => failing.contains l && !s.ptr.retired.contains l)
      let s := units.foldl (fun s l => retire (bump s 0x0C0080) l) s
      let free := decide (s.fa 0x0C0000 8 1 = 1 ∧ s.ptr.spareFor = none) && !s.ptr.retired.contains 64
      let sh := if free then nextShadow s else none
      let s := { s with ptr := { s.ptr with
        kat := true, shadow := sh, lastShadow := if sh.isSome then sh else s.ptr.lastShadow } }
      let s := healthCheck s
      if s.sys.tier = 3 ∧ s.sys.phase = .run then dispatch s else s)

/-- The signature comparison at C (R282): what the two known answers retire, and whether the shadowed
lane's work is replayed. -/
def shadowCompare (s : State) (agree laneOk spareOk : Bool) : State :=
  match s.ptr.shadow with
  | none => s
  | some l =>
    if agree || s.ptr.journal.isEmpty then s
    else
      let s := bumpBy (bump s 0x0C0084) 0x0C0080 (bit (!laneOk) + bit (!spareOk))
      let s := if spareOk then s else retire s 64
      if laneOk && !spareOk then s
      else
        let s := retire s l
        let img := s.ptr.journal
        let s := img.foldl (fun s e =>
          if s.ptr.badJournal.contains e.slot then s else setSlot s e.slot e.image) s
        { s with ptr := { s.ptr with
          replay := img.filter (fun e => !s.ptr.badJournal.contains e.slot),
          outcome := s.ptr.outcome.filter (fun p => !img.any (fun e => decide (e.slot = p.1))) } }

/-- The place of a window in the order of R289: by source, then kind, then slot or beacon, then number. -/
def ProbeWin.key (w : ProbeWin) : Nat := ((w.src * 4 + w.kind) * 2 ^ 20 + w.idx) * 2 ^ 20 + w.m

/-- The pairings kept at C (R291): by distance, then slot, then window. -/
def keepPairs : List Pairing → List Pairing → List Pairing
  | [], kept => kept
  | p :: t, kept =>
    if kept.any (fun q => decide (q.win.key = p.win.key ∨ q.slot = p.slot)) then keepPairs t kept
    else keepPairs t (kept ++ [p])

/-- Insertion of a pairing in the order of R291. -/
def insertPair (p : Pairing) : List Pairing → List Pairing
  | [] => [p]
  | q :: t =>
    if p.dist < q.dist ∨ (p.dist = q.dist ∧ (p.slot < q.slot
        ∨ (p.slot = q.slot ∧ p.win.key < q.win.key))) then p :: q :: t
    else q :: insertPair p t

/-- A kept pairing re-acquires its subject (R291). -/
def reacquire (s : State) (p : Pairing) : State :=
  let t := s.slot p.slot
  let k := (s.curPyr t.source).frame % 2 ^ 32
  let s := setSlot s p.slot { t with
    x := p.win.x, y := p.win.y, vx := 0, vy := 0, ax := 0, ay := 0,
    tMeas := instCur s t.source p.win.x p.win.y, frameLast := k, conf := 255 - 4 * p.dist,
    mat := { MatchRec.zero with tried := k } }
  bump { s with ptr := { s.ptr with outcome := put s.ptr.outcome p.slot 5 } } 0x0D0098

/-- SCENT_PAIRING (R291). -/
def scentPairing (s : State) : State :=
  let l := s.sct.pairs.foldl (fun l p => insertPair p l) []
  let kept := keepPairs l []
  let s := bumpBy s 0x0D009C (l.length - kept.length)
  kept.foldl reacquire s

/-- OWN windows of a LOST subject: the spiral of R289. -/
def spiral (q : Nat) : Int × Int :=
  if q = 0 then (0, 0)
  else
    let r := (isqrt q + 1) / 2
    let n := q - (2 * r - 1) * (2 * r - 1)
    let side := n / (2 * r)
    let e : Int := (n % (2 * r) : Nat)
    let r : Int := r
    match side with
    | 0 => (r, -r + 1 + e)
    | 1 => (r - 1 - e, r)
    | 2 => (-r, r - 1 - e)
    | _ => (-r + 1 + e, -r)

/-- The probe windows of a source, in the order of R289, without those whose centre lies outside. -/
def windowsOf (s : State) (src : Nat) : List ProbeWin :=
  let subj := (liveSubjects s).filter (fun p => decide (p.2.source = src))
  let cand := (subj.filter (fun p => decide (p.2.state = 1))).map (fun p =>
    ({ src := src, kind := 0, idx := p.1, m := 0, x := p.2.x, y := p.2.y, w := p.2.w, h := p.2.h } : ProbeWin))
  let beac := ((detect s src).1.zipIdx).map (fun (q : Beacon × Nat) =>
    ({ src := src, kind := 1, idx := q.2, m := 0, x := q.1.pos.1, y := q.1.pos.2, w := q.1.box.1,
       h := q.1.box.2 } : ProbeWin))
  let own := s.fc 0x0D0000 0 8
  let ring := orIf (s.fc 0x0D0000 8 8) 1
  let mine := (subj.filter (fun p => decide (p.2.state = 4))).flatMap (fun p => (upto own).map (fun m =>
    let (a, b) := spiral ((p.2.probes * own + m) % ((2 * ring + 1) * (2 * ring + 1)))
    ({ src := src, kind := 2, idx := p.1, m := m, x := p.2.x + a * p.2.w * 32768,
       y := p.2.y + b * p.2.h * 32768, w := p.2.w, h := p.2.h } : ProbeWin)))
  (cand ++ beac ++ mine).filter (fun w => inFrame s src w.x w.y)

/-- The window list of the tick, source by source (R289).
DEDUCED (log 100). -/
def windowList (s : State) : List ProbeWin := s.ptr.present.flatMap (windowsOf s)

/-- The rows under a window are ready (R289).
DEDUCED (log 99). -/
def winReady (s : State) (w : ProbeWin) : Bool :=
  let top := (w.y - 32768 * (w.h : Int)) / 65536
  let bot := (w.y + 32768 * (w.h : Int) - 1) / 65536
  (clipRows top bot (frameH s w.src)).all (rowHas (s.curPyr w.src) (frameH s w.src))

/-- A window has been processed in the tick. -/
def probedWin (s : State) (w : ProbeWin) : Bool := s.sct.probed.any (fun q => decide (q.key = w.key))

/-- The distinct numbers of a list. -/
def distinct (l : List Nat) : List Nat := l.eraseDups

/-- SCENT_PROBE (R289, R290): the descriptor unit takes the next window of the list whose rows are ready, for 320 bus
counts, which end by C.
DEDUCED (log 100). -/
def execScentProbe (s : State) : Host.Outcome State Fault Refusal :=
  .next (whenTier 3 s fun s =>
    let at_ := max s.time.tb s.sct.freeAt
    match (if s.ptr.cut = false ∧ s.sct.probed.length < s.fc 0x0D0004 0 16 ∧ at_ + 320 ≤ s.time.e + cutAt s then
        (windowList s).find? (fun w => !probedWin s w && winReady s w) else none) with
    | none => s
    | some w =>
      let s := reach s at_
      let d := descriptor (s.curPyr w.src) w.x w.y w.w w.h
      let hits : List ScentEntry := (upto 8).flatMap (fun b =>
        (s.scent (scentIdx (bandOf d b) b)).filter (fun e =>
          decide (e.key = bandOf d b ∧ e.band = b ∧ (s.slot e.slot).state = 4
            ∧ (s.slot e.slot).source = w.src)))
      let s := { s with sct := { s.sct with probed := s.sct.probed ++ [w], freeAt := at_ + 320 } }
      let s := bumpBy s 0x0D0090 hits.length
      let votes := clamp 1 8 (s.fc 0x0D0000 20 4)
      (distinct (hits.map (fun e => e.slot))).foldl (fun s i =>
        let mine := hits.filter (fun e => decide (e.slot = i))
        if votes ≤ (distinct (mine.map (fun e => e.band))).length then
          let ds := (mine.filter (fun e => (s.snap i e.snap).valid)).map (fun e =>
            hamming d (s.snap i e.snap).desc)
          let dist := ds.foldl min 256
          if dist ≤ s.fc 0x0D0000 24 8 then
            { s with sct := { s.sct with
              pairs := s.sct.pairs ++ [{ win := w, slot := i, dist := dist }] } }
          else bump s 0x0D0094
        else s) s)

/-- What the cut-off counts (R273, R277, R289), the next cursor (R276), and the beacons held (R248).
DEDUCED (log 89). DEDUCED (log 99). -/
def cutCounts (s : State) : State :=
  let left := dueJobs s
  let bad := left.filter (fun j => !runnable s j)
  let capped := if (s.cur 0x0C0034).toNat ≤ s.ptr.featStarted then
      left.filter (fun j => !j.track.subj && ready s j) else []
  let s := bumpBy (bumpBy s 0x0C0094 bad.length) 0x0C0098 capped.length
  let s := match left.find? (fun j => !j.track.subj) with
    | some j => { s with ptr := { s.ptr with nextCursor := j.slot } }
    | none => s
  let s := bumpBy s 0x0D008C ((windowList s).filter (fun w => !probedWin s w)).length
  [0, 1, 2].foldl (fun s src =>
    let (l, extra) := detect s src
    bumpBy { s with ken := { s.ken with found := mput [] s.ken.found src l } } 0x0B0090 extra) s

/-- The jobs in flight at C complete and commit, unless they end after S (R24, R25).
DESIGN CHOICE (log 221). -/
def finishRunning (s : State) : State :=
  let l := s.ptr.running
  let s := { s with ptr := { s.ptr with running := [] } }
  let late := s.time.e + s.time.t * 9 / 10
  l.foldl (fun s q =>
    let (f, s) := drawFree s
    let t := s.slot q.2.1
    let j := jobOf s q.2.1 t
    if late < q.2.2 + jobCounts t then { s with ptr := { s.ptr with outcome := put s.ptr.outcome q.2.1 3 } }
    else reach (commitJob s j (runJob s j q.1 f)) (q.2.2 + jobCounts t)) s

/-- MATCH_CUTOFF (R24, R276, R282, R283, R291).
DESIGN CHOICE (log 101). -/
def execMatchCutoff (agree laneOk spareOk : Bool) (s : State) : Host.Outcome State Fault Refusal :=
  .next (whenTier 3 s fun s =>
    if s.ptr.cut || !beforeSolve s then s
    else inCycle (reach s (s.time.e + cutAt s)) fun s =>
      let s := { s with ptr := { s.ptr with cut := true } }
      let s := cutCounts s
      let s := finishRunning s
      let s := shadowCompare s agree laneOk spareOk
      let s := scentPairing s
      let s := dispatchReplay (lanesUp s) s
      healthCheck s)

/-- The end of the replay window (R25, R28, R283): re-runs that are not complete leave their tracks STALE, counted
and logged.
DESIGN CHOICE (log 181). -/
def endReplay (s : State) : State :=
  let s := reach s (s.time.e + replayEnd s)
  let slots := s.ptr.running.map (fun q => q.2.1) ++ s.ptr.replay.map (fun e => e.slot)
  if slots = [] then s
  else
    let s := { s with ptr := { s.ptr with
      running := [], replay := [], unfinished := true,
      outcome := slots.foldl (fun m i => put m i 3) s.ptr.outcome } }
    logReg (bumpBy s 0x0C0090 slots.length) 0x06 1 0x0C0090 slots.length 0

/-- REPLAY_WINDOW_END (R25, R283). -/
def execReplayWindowEnd (s : State) : Host.Outcome State Fault Refusal :=
  .next (whenTier 3 s fun s =>
    if s.ptr.cut ∧ s.ptr.booked = false ∧ beforeSolve s = true then endReplay s else s)

/-- BOOKKEEPING (R25, R243): what the replay window has not finished is STALE. -/
def execBookkeeping (s : State) : Host.Outcome State Fault Refusal :=
  .next (whenTier 3 s fun s =>
    if s.ptr.cut ∧ s.ptr.booked = false ∧ beforeSolve s = true then
      let s := endReplay s
      let broken := s.ptr.badJournal
      let s := bookkeep { s with ken := { s.ken with broken := s.ken.broken ++ broken } }
      { s with ptr := { s.ptr with booked := true } }
    else s)

end Sys2Proof.Machine
end

