-- ==== Sys2Proof/Machine/Heel.lean ====
section
/-!
DEFINITION. The Heel aim solver (R296 to R317): camera and fixture records, targets, axis values,
deadband, slew and limits, lead adaptation, port states, overrides, and the solve list.
-/

namespace Sys2Proof.Machine

/-- A port that is OFF (R311). -/
def HeelPort.off : HeelPort :=
  { state := .off, noTarget := 0, hold := 0, flags := 0, parkDue := false, ovr := none, bindNew := false,
    wasCur := false, outs := [], vels := [], refs := [], lead := 0, hist := [], fb := [], newest := [],
    poses := [], fresh := false, solved := false, handle := 0, point := (0, 0, 0) }

/-- Port n of the Heel. -/
def State.hp (s : State) (n : Nat) : HeelPort := mget HeelPort.off s.heel.ports n

/-- Port n of the Heel changed. -/
def setHp (s : State) (n : Nat) (p : HeelPort) : State :=
  { s with heel := { s.heel with ports := mput HeelPort.off s.heel.ports n p } }

/-- The code of a Heel state (R311, R314). -/
def HeelState.code : HeelState → Nat
  | .off => 0
  | .tracking => 1
  | .holding => 2
  | .parked => 3

/-- Address of word i of fixture record n (R301). -/
def fixAddr (n i : Nat) : Nat := 0x0E0000 + 0x100 * n + 4 * i

/-- Word i of the committed fixture record n. -/
def fixW (s : State) (n i : Nat) : Word := s.act (fixAddr n i)

/-- A signed word of a fixture record. -/
def fixI (s : State) (n i : Nat) : Int := (fixW s n i).toInt

/-- Word i of the axis block of axis a (R302). -/
def axW (s : State) (n a i : Nat) : Word := fixW s n (16 + 8 * a + i)

/-- The axis is enabled (R302). -/
def axEn (s : State) (n a : Nat) : Bool := decide (field (axW s n a 7) 0 1 = 1)

/-- MODEL: 0 PAN_TILT, 1 TILT_PAN, 2 GIMBAL3, 3 LENS_ONLY, 4 IMAGE (R301). -/
def modelOf (s : State) (n : Nat) : Nat := field (fixW s n 0) 1 3

/-- BIND: 0 NONE, 1 HANDLE, 2 LABEL, 3 GROUP, 4 FIXED, 5 HOST (R301). -/
def bindOf (s : State) (n : Nat) : Nat :=
  let b := field (fixW s n 0) 4 3
  if 6 ≤ b then 0 else b

/-- The axis blocks that a model uses (R306). -/
def axUsed (model a : Nat) : Bool :=
  match a with
  | 0 | 1 => decide (model ≠ 3)
  | 2 => decide (model = 2)
  | _ => decide (model ≠ 4)

/-- The axes that a record processes: enabled, with a block that its model uses (R306). -/
def axes (s : State) (n : Nat) : List Nat :=
  (upto 5).filter (fun a => axEn s n a && axUsed (modelOf s n) a)

/-- ROT of a fixture record, Q2.30. -/
def fixRot (s : State) (n : Nat) : Mat := mkMat (fun i j => fixI s n (5 + 3 * i + j))

/-- The record is enabled and not invalid (R302). -/
def fixValid (s : State) (n : Nat) : Bool :=
  decide (modelOf s n ≤ 4) && rotOk (fixRot s n) && (upto 5).all (fun a =>
    !axEn s n a || decide (axW s n a 1 ≠ 0 ∧ field (axW s n a 2) 0 24 ≤ field (axW s n a 3) 0 24))

/-- CTRL.EN of a record. -/
def fixEn (s : State) (n : Nat) : Bool := decide (field (fixW s n 0) 0 1 = 1)

/-- CFG_ERR (R302). -/
def cfgErr (s : State) (n : Nat) : Bool := fixEn s n && !fixValid s n

/-- No configuration copy is in use, so ROM defaults stand (R37, R463). -/
def romDefaults (s : State) : Bool := decide (s.boot.cfgCopy = 0)

/-- The mode of port n as committed: 0 OFF, 1 DMX512-A, 2 LEASH (R321, R352); under ROM defaults every port is
OFF (R37). -/
def lshMode (s : State) (n : Nat) : Nat :=
  let m := s.fa (0x100000 + 0x100 * n) 0 2
  if m = 3 ∨ s.fa 0x108004 (n / 16) 1 = 0 ∨ romDefaults s = true then 0 else m

/-- The port is bound (R301). -/
def portBound (s : State) (n : Nat) : Bool :=
  fixEn s n && fixValid s n && decide (bindOf s n ≠ 0 ∧ lshMode s n ≠ 0)

/-- Word i of the committed camera record of a source (R297). -/
def camW (s : State) (src i : Nat) : Word := s.act (0x0E8000 + 0x80 * src + 4 * i)

/-- ROT of a camera record, Q2.30. -/
def camRot (s : State) (src : Nat) : Mat := mkMat (fun i j => (camW s src (9 + 3 * i + j)).toInt)

/-- MOUNT of a camera record. -/
def camMount (s : State) (src : Nat) : Nat := field (camW s src 19) 8 8

/-- The camera record is usable (R298). -/
def camUsable (s : State) (src : Nat) : Bool :=
  decide (field (camW s src 19) 0 1 = 1 ∧ camW s src 0 ≠ 0 ∧ camW s src 1 ≠ 0 ∧ camMount s src ≤ 128)
    && rotOk (camRot s src)

/-- The port offset o as an advance (R27, R326), in bus counts. -/
def advance (s : State) (n : Nat) : Nat :=
  (roundDiv ((min 3276 (s.fa (0x100004 + 0x100 * n) 0 12) * s.time.t : Nat)) 65536).toNat

/-- The latch time t_L of port n in the open tick (R303). -/
def latchAt (s : State) (n : Nat) : Nat := s.time.e + s.time.t - advance s n

/-- T_plan from the active values (R214, R347). -/
def planActive (s : State) : Nat × Nat := planOf s (trigMode s) (tminSet s) (s.fa 0x04C210 0 5)

/-- N of a DMX512-A port (R352). -/
def dmxSlots (cfg : Word) : Nat := clamp 24 512 (field cfg 16 10)

/-- The duration D of a DMX512-A packet in bus counts (R346). -/
def dmxTime (cfg : Word) : Nat := 750 * (188 + 44 * (dmxSlots cfg + 1))

/-- The refresh interval m of port n in ticks that a commit computes (R347); 0 outside DMX512-A mode. -/
def dmxM (s : State) (n : Nat) : Nat :=
  if lshMode s n = 1 then
    let (t, d) := planActive s
    ceilDiv ((dmxTime (s.act (0x100000 + 0x100 * n)) + 6000) * 20 * d) (19 * max 1 t)
  else 0

/-- A port of the Leash before its first frame.
DESIGN CHOICE (log 121). -/
def LshPort.off : LshPort :=
  { cfg := 0, seq := 0, sent := [], missed := 0, missNew := false, lost := false, kind := 0, conflict := false,
    unsent := false, overlap := false, cues := [], nextCseq := 1, newestSent := none, vals := [],
    flags := 0, slots := [], refresh := none, dmxM := 0, latch := none, latchTick := none, busy := 0, line := [] }

/-- Port n of the Leash. -/
def State.lp (s : State) (n : Nat) : LshPort := mget LshPort.off s.lsh n

/-- Port n of the Leash changed. -/
def setLp (s : State) (n : Nat) (p : LshPort) : State := { s with lsh := mput LshPort.off s.lsh n p }

/-- The open tick is a refresh tick of a DMX512-A port (R347, R348).
DEDUCED (log 119). -/
def refreshTick (s : State) (n : Nat) : Bool :=
  match (s.lp n).refresh with
  | some k => decide (k + (s.lp n).dmxM ≤ s.time.k)
  | none => true

/-- Ports with a Heel state other than OFF that the open tick's solve lists (R310). -/
def solveList (s : State) : List Nat :=
  (s.heel.ports.filter (fun p => decide (p.2.state ≠ .off))).map (fun p => p.1) |>.filter
    (fun n => decide (lshMode s n = 2) || (decide (lshMode s n = 1) && refreshTick s n))

/-- Insertion of a port by latch time, then number (R26). -/
def insertPort (s : State) (n : Nat) : List Nat → List Nat
  | [] => [n]
  | m :: t =>
    if latchAt s n < latchAt s m ∨ (latchAt s n = latchAt s m ∧ n < m) then n :: m :: t
    else m :: insertPort s n t

/-- The subject is usable for a port (R305). -/
def usableFor (s : State) (n : Nat) (t : Track) : Bool :=
  decide (t.state = 2 ∨ t.state = 3) && (decide (modelOf s n = 4) || camUsable s t.source)

/-- The usable members of the group of a port (R305). -/
def members (s : State) (n : Nat) : List (Nat × Track) :=
  (liveSubjects s).filter (fun p =>
    decide (p.2.groups / 2 ^ field (fixW s n 0) 8 6 % 2 = 1) && usableFor s n p.2)

/-- The camera of a subject in the stage frame: centre in mm, and a positive multiple of its rotation. -/
structure Cam where
  c : Point
  rot : Mat
deriving DecidableEq, Repr

/-- The angle of an axis of the head that carries a camera (R300).
DESIGN CHOICE (log 107). -/
def headAngle (s : State) (n a : Nat) (outs : Option Pose) : Int :=
  if axEn s n a = false then 0
  else
    match outs.bind (fun p => look p.outs a), (axW s n a 1).toInt with
    | none, _ => Config.mountPose n a
    | some _, 0 => Config.mountPose n a
    | some y, k => (y - (axW s n a 0).toInt) * 2 ^ 260 / k

/-- The rotation from the head to the base of a fixture, times a power of 2, with its exponent (R300, R306). -/
def headRot (s : State) (n : Nat) (p : Option Pose) : Mat × Nat :=
  let one := fxOne
  let psi := headAngle s n 0 p
  let th := headAngle s n 1 p
  let rz : Mat := ((fxCos psi, -fxSin psi, 0), (fxSin psi, fxCos psi, 0), (0, 0, one))
  let ry : Mat := ((fxCos th, 0, -fxSin th), (0, one, 0), (fxSin th, 0, fxCos th))
  match modelOf s n with
  | 0 => (rz.mul ry, 512)
  | 1 => (ry.mul rz, 512)
  | 2 =>
    let ph := headAngle s n 2 p
    let rx : Mat := ((one, 0, 0), (0, fxCos ph, fxSin ph), (0, -fxSin ph, fxCos ph))
    ((rz.mul ry).mul rx, 768)
  | _ => (((1, 0, 0), (0, 1, 0), (0, 0, 1)), 0)

/-- The camera that sees a subject, at the measurement instant of its frame (R297, R300).
DESIGN CHOICE (log 108). -/
def camOf (s : State) (t : Track) : Cam :=
  let src := t.source
  let c : Vec := ((camW s src 6).toInt, (camW s src 7).toInt, (camW s src 8).toInt)
  match camMount s src with
  | 0 => { c := { num := c, den := 256 }, rot := camRot s src }
  | n + 1 =>
    let at_ := instCur s src t.x t.y
    let pose := (s.hp n).poses.find? (fun p => decide (p.tb < at_))
    let (h, k) := headRot s n pose
    let base := fixRot s n
    let pos : Vec := (fixI s n 2, fixI s n 3, fixI s n 4)
    { c := { num := (pos.map (· * 2 ^ (k + 30))).add (base.applyT (h.apply c)), den := 256 * 2 ^ (k + 30) },
      rot := base.t.mul (h.mul (camRot s src)) }

/-- The passes of the undistortion of R299 from (xd, yd, zd), which stands for (xd / zd, yd / zd), exact (R313): none
where f is not positive. -/
def undistort (k1 k2 : Int) (d : Vec) : Nat → Vec → Option Vec
  | 0, u => some u
  | n + 1, (x, y, z) =>
    let r := x * x + y * y
    let f := 2 ^ 28 * z ^ 4 + k1 * r * z ^ 2 + k2 * r ^ 2
    if f ≤ 0 then none
    else undistort k1 k2 d n (Vec.lowest (d.1 * 2 ^ 28 * z ^ 4, d.2.1 * 2 ^ 28 * z ^ 4, d.2.2 * f))

/-- STAGE_POINT (R299, R313): the stage point of an image position in the parts of `fineParts`, exact from there and
from the camera on.
DESIGN CHOICE (log 105). -/
def stagePoint (s : State) (t : Track) (uv : Int × Int) : Option Point :=
  let w := fun (i : Nat) => camW s t.source i
  let fx : Int := (w 0).toNat
  let fy : Int := (w 1).toNat
  let xd : Vec := ((uv.1 - (w 2).toInt * fineParts) * fy, (uv.2 - (w 3).toInt * fineParts) * fx, fineParts * fx * fy)
  match undistort (w 4).toInt (w 5).toInt xd 3 xd with
  | none => none
  | some u =>
    let cam := camOf s t
    let d := cam.rot.apply u
    let den := cam.c.den
    let num := ((t.height : Int) * 256 + (w 18).toInt) * (den / 256) - cam.c.num.2.2
    let dz := d.2.2
    let far := 1000000 * den * dz
    if dz = 0 ∨ num * dz ≤ 0 ∨ far * far < num * num * dot d d then none
    else
      let m : Int := dz.natAbs
      some (Point.lowest
        { num := (cam.c.num.map (· * m)).add (d.map (· * (num.natAbs : Int))), den := den * m })

/-- What the target of a solve is: a stage point in mm, or an image position (u, v) in source pixels over a common
denominator. -/
inductive Target where
  | stage (p : Point)
  | image (u v den : Int)
  | nothing
deriving DecidableEq, Repr

/-- A target with its handle and the flags of R314 that its making sets. -/
structure Aim where
  target : Target
  handle : Nat
  flags : Nat
deriving DecidableEq, Repr

/-- No target. -/
def Aim.nothing (flags : Nat) : Aim := { target := .nothing, handle := 0, flags := flags }

/-- The horizon t_H of port n (R303). -/
def horizon (s : State) (n : Nat) : Nat :=
  ((latchAt s n : Int) + 750 * (((fixW s n 14).toNat : Int) + (s.hp n).lead)).toNat

/-- A subject predicted to a horizon, exact, with whether τ was limited (R303). -/
def predictTo (s : State) (t : Track) (th : Nat) : (Int × Int) × Bool :=
  let mx := 750000 * orIf (s.fa 0x0E8400 0 16) 1
  if t.tMeas + mx < th then (t.fineAt (t.tMeas + mx), true) else (t.fineAt th, false)

/-- The aim at one subject, with the counts of R299 and R303. -/
def aimAt (s : State) (n : Nat) (t : Track) : Target × Nat × State :=
  let (uv, clip) := predictTo s t (horizon s n)
  let s := if clip then bump s 0x0E8484 else s
  let fl := 256 * bit clip
  if modelOf s n = 4 then (.image uv.1 uv.2 (65536 * fineParts), fl, s)
  else
    match stagePoint s t uv with
    | some p => (.stage p, fl, s)
    | none => (.nothing, fl + 128, bump s 0x0E8480)

/-- Flags joined without adding a bit twice. -/
def orFlags (a b : Nat) : Nat := a ||| b

/-- COAST and AUX of a contributing subject (R305). -/
def subjFlags (t : Track) : Nat := 512 * bit (decide (t.state = 3)) + 1024 * bit (decide (t.source ≠ 0))

/-- The aim at a named subject (R305). -/
def aimSubject (s : State) (n i : Nat) (t : Track) : Aim × State :=
  let (g, fl, s) := aimAt s n t
  match g with
  | .nothing => (Aim.nothing fl, s)
  | _ => ({ target := g, handle := handleOf i t, flags := fl + subjFlags t }, s)

/-- The stage points of group members, with flags (R305). -/
def groupAims : List (Nat × Track) → Nat → State → List Point × List (Int × Int) × Nat × State
  | [], _, s => ([], [], 0, s)
  | (_, t) :: rest, n, s =>
    let (g, fl, s) := aimAt s n t
    let (ps, us, fls, s) := groupAims rest n s
    match g with
    | .stage p => (p :: ps, us, orFlags (orFlags fl (subjFlags t)) fls, s)
    | .image u v _ => (ps, (u, v) :: us, orFlags (orFlags fl (subjFlags t)) fls, s)
    | .nothing => (ps, us, orFlags fl fls, s)

/-- The aim at a group (R305): the mean of the members' stage points, or for IMAGE of the predicted
positions of its source-0 members, exact (R313).
DESIGN CHOICE (log 105). -/
def aimGroup (s : State) (n : Nat) : Aim × State :=
  let ms := members s n
  let ms := if modelOf s n = 4 then ms.filter (fun p => decide (p.2.source = 0)) else ms
  let (ps, us, fl, s) := groupAims ms n s
  if us ≠ [] then
    ({ target := .image (us.map (·.1)).sum (us.map (·.2)).sum (65536 * fineParts * (us.length : Nat)),
       handle := 0, flags := fl }, s)
  else if ps ≠ [] then ({ target := .stage (Point.mean ps), handle := 0, flags := fl }, s)
  else (Aim.nothing fl, s)

/-- The handle binding (R305): a handle that is not current is counted when a commit has just named it
or when the port's last solve found it current.
DEDUCED (log 113). -/
def aimHandle (s : State) (n : Nat) : Aim × State :=
  let p := s.hp n
  match current s (fixW s n 1).toNat with
  | some i =>
    let s := setHp s n { p with bindNew := false, wasCur := true }
    let t := s.slot i
    if t.subj && usableFor s n t then aimSubject s n i t else (Aim.nothing 0, s)
  | none =>
    let s := if p.bindNew || p.wasCur then bump s 0x0B0080 else s
    (Aim.nothing 0, setHp s n { p with bindNew := false, wasCur := false })

/-- The target of a port without an override that replaces it (R305). -/
def aimBind (s : State) (n : Nat) : Aim × State :=
  match bindOf s n with
  | 1 => aimHandle s n
  | 2 =>
    let lab := field (fixW s n 1) 0 16
    match (liveSubjects s).find? (fun p => decide (lab ≠ 0 ∧ p.2.label = lab)) with
    | some (i, t) => if usableFor s n t then aimSubject s n i t else (Aim.nothing 0, s)
    | none => (Aim.nothing 0, s)
  | 3 => aimGroup s n
  | 4 =>
    if modelOf s n = 4 then (Aim.nothing 0, s)
    else
      let v : Vec := (fixI s n 56, fixI s n 57, fixI s n 58)
      ({ target := .stage { num := v, den := 256 }, handle := 0, flags := 0 }, s)
  | _ => (Aim.nothing 0, s)

/-- An axis value num / den as output counts (R309): of the counts within one of the exact value (R313) the one that
the free number picks.
DESIGN CHOICE (log 105). -/
def toCounts (s : State) (n a : Nat) (num den : Int) (free : Nat) : Int :=
  let q := 16 * den
  let x := (axW s n a 0).toInt * q + (axW s n a 1).toInt * num
  let lo := -((q - x) / q)
  let hi := (x + q) / q
  lo + (free % (hi - lo + 1).toNat : Nat)

/-- One solution of R306: the pan and tilt values, whether it is the alternate, and n of R307. -/
structure Cand where
  pan : Int
  tilt : Int
  flip : Bool
  n : Int
deriving DecidableEq, Repr

/-- The candidates for a direction in the base frame, base solutions first (R306, R307). -/
def candidates (model : Nat) (d : Vec) : List Cand :=
  let (pan, tilt, pan2, tilt2) :=
    if model = 1 then
      let th := fxAtan2 d.2.2 d.1
      let ps := fxAtan2 (d.2.1 * fineOne) (fineRoot (d.1 * d.1 + d.2.2 * d.2.2))
      (ps, th, fxPi - ps, th + fxPi)
    else
      let ps := fxAtan2 d.2.1 d.1
      let th := fxAtan2 (d.2.2 * fineOne) (fineRoot (d.1 * d.1 + d.2.1 * d.2.1))
      (ps, th, ps + fxPi, fxPi - th)
  let shifts : List Int := [-1, 0, 1]
  shifts.map (fun n => { pan := pan + 2 * fxPi * n, tilt := tilt, flip := false, n := n })
    ++ shifts.map (fun n => { pan := pan2 + 2 * fxPi * n, tilt := tilt2, flip := true, n := n })

/-- The roll of GIMBAL3 for a direction and a candidate (R306), from the direction itself; from the free pan angle where
it points along the first axis. -/
def rollOf (s : State) (n : Nat) (d : Vec) (c : Cand) : Int :=
  let z := (fixRot s n).col 2
  let side := d.1 * z.2.1 - d.2.1 * z.1
  let up := (d.1 * d.1 + d.2.1 * d.2.1) * z.2.2 - d.2.2 * (d.1 * z.1 + d.2.1 * z.2.1)
  if d.1 ≠ 0 ∨ d.2.1 ≠ 0 then
    let m : Int := if c.flip then -1 else 1
    fxAtan2 (m * side * fineRoot (dot d d)) (m * up * fineOne)
  else
  let sp := fxSin c.pan
  let cp := fxCos c.pan
  let st := fxSin c.tilt
  let ct := fxCos c.tilt
  let r : Vec := (sp, -cp, 0)
  let u : Vec := (-fxMul st cp, -fxMul st sp, ct)
  fxAtan2 (-dot r z) (dot u z)

/-- The limit excess of an axis value in counts (R307).
DEDUCED (log 111). -/
def excess (s : State) (n a : Nat) (y : Int) : Nat :=
  let lo : Int := field (axW s n a 2) 0 24
  let hi : Int := field (axW s n a 3) 0 24
  (max 0 (max (lo - y) (y - hi))).toNat

/-- A candidate converted to counts, by axis. -/
def candCounts (s : State) (n : Nat) (c : Cand) (free : Nat) : List (Nat × Int) :=
  ((axes s n).filter (fun a => decide (a < 2))).map (fun a =>
    (a, toCounts s n a (if a = 0 then c.pan else c.tilt) fxOne (free / 8 ^ a)))

/-- The cost of R307 over the two axes, on the common denominator of their largest speeds.
DEDUCED (log 111). -/
def candCost (s : State) (n : Nat) (prev : SMap Int) (ys : List (Nat × Int)) : Nat :=
  let vm := fun (a : Nat) => orIf (axW s n a 4).toNat 256
  (ys.map (fun y =>
    match look prev y.1 with
    | some p => (y.2 - p).natAbs * vm (1 - y.1)
    | none => 0)).foldl max 0

/-- The candidate taken (R307): within the limits at least cost, else at least excess; the first of
equals.
DEDUCED (log 112). -/
def chooseCand (s : State) (n : Nat) (prev : SMap Int) (l : List (Cand × List (Nat × Int))) :
    Option (Cand × List (Nat × Int)) :=
  let exc := fun (q : Cand × List (Nat × Int)) => (q.2.map (fun y => excess s n y.1 y.2)).foldl max 0
  let inside := l.filter (fun q => decide (exc q = 0))
  let least := fun (f : Cand × List (Nat × Int) → Nat) (l : List (Cand × List (Nat × Int))) =>
    l.foldl (fun (b : Option (Cand × List (Nat × Int))) q =>
      match b with
      | none => some q
      | some p => if f q < f p then some q else some p) none
  if inside = [] then least exc l else least (fun q => candCost s n prev q.2) inside

/-- The axis values of a solution: counts by axis, FLIP, or nothing where the target lies within
100 mm (R306 to R308). -/
def axisTargets (s : State) (n : Nat) (g : Target) (prev : SMap Int) (free : Nat) :
    Option (List (Nat × Int) × Bool) :=
  match g with
  | .nothing => none
  | .image u v den => some ((axes s n).map (fun a =>
      (a, toCounts s n a (if a = 0 then u else v) den (free / 8 ^ a))), false)
  | .stage p =>
    let pos : Vec := (fixI s n 2, fixI s n 3, fixI s n 4)
    let v := (p.num.map (· * 256)).sub (pos.map (· * p.den))
    let d := (fixRot s n).apply v
    let near := 100 * 256 * 2 ^ 30 * p.den
    if dot d d < near * near then none
    else
      let dist := fineRoot (dot v v)
      let lens := ((axes s n).filter (fun a => decide (3 ≤ a))).map (fun a =>
        (a, if a = 3 then toCounts s n a (1000 * 256 * p.den * fineOne) dist (free / 8 ^ a)
          else toCounts s n a (2 * fxAtan2 ((fixW s n 59).toNat * p.den * fineOne) (2 * dist)) fxOne (free / 8 ^ a)))
      if modelOf s n = 3 then some (lens, false)
      else
        let cs := ((candidates (modelOf s n) d).zipIdx).map (fun (q : Cand × Nat) =>
          (q.1, candCounts s n q.1 (free / 8 ^ (5 + 2 * q.2))))
        match chooseCand s n prev cs with
        | none => none
        | some (c, ys) =>
          let roll := ((axes s n).filter (fun a => decide (a = 2))).map (fun a =>
            (a, toCounts s n a (rollOf s n d c) fxOne (free / 8 ^ a)))
          some (ys ++ roll ++ lens, c.flip)

/-- Sign of an integer. -/
def sign (v : Int) : Int := if v < 0 then -1 else if v = 0 then 0 else 1

/-- The sign of x + y·√p. -/
def surdSign1 (x y : Int) (p : Nat) : Int :=
  let b := if p = 0 then 0 else sign y
  if sign x = b ∨ b = 0 then sign x
  else if x = 0 then b
  else sign x * sign (x * x - y * y * p)

/-- The sign of x + y·√p + z·√q. -/
def surdSign (x y : Int) (p : Nat) (z : Int) (q : Nat) : Int :=
  let b := if p = 0 then 0 else sign y
  let c := if q = 0 then 0 else sign z
  let t := if b = c ∨ c = 0 then b else if b = 0 then c else b * sign (y * y * p - z * z * q)
  if sign x = t ∨ t = 0 then sign x
  else if x = 0 then t
  else sign x * surdSign1 (x * x - y * y * p - z * z * q) (-2 * y * z) (p * q)

/-- The velocity num / den in lowest terms. -/
def Vel.ratio (num : Int) (den : Nat) : Vel :=
  let g := max 1 (Nat.gcd num.natAbs den)
  ⟨num / g, den / g, 0, 0⟩

/-- No velocity. -/
def Vel.zero : Vel := ⟨0, 1, 0, 0⟩

/-- A velocity with a rational one added. -/
def Vel.addRatio (v : Vel) (num : Int) (den : Nat) : Vel :=
  { Vel.ratio (v.num * den + num * v.den) (v.den * den) with sg := v.sg, rad := v.rad }

/-- The sign of a − b. -/
def Vel.cmp (a b : Vel) : Int :=
  surdSign (16 * (a.num * b.den - b.num * a.den)) (a.sg * a.den * b.den) a.rad (-b.sg * a.den * b.den) b.rad

/-- A velocity with the opposite sign. -/
def Vel.neg (v : Vel) : Vel := { v with num := -v.num, sg := -v.sg }

/-- A velocity between two bounds; the upper one governs. -/
def Vel.clamp (v lo hi : Vel) : Vel :=
  let v := if v.cmp lo < 0 then lo else v
  if hi.cmp v < 0 then hi else v

/-- round(v·dt) for dt in bus counts (R309), half up. -/
def Vel.travel (v : Vel) (dt : Nat) : Int :=
  let n := v.rad * (2 * v.den * dt) ^ 2
  let r := isqrt n
  let surd : Int := if 0 < v.sg then r else if v.sg = 0 then 0 else if r * r = n then -r else -(r + 1)
  (32 * v.num * dt + 12000000 * v.den + surd) / (24000000 * v.den)

/-- The velocity of R309 to cover `d` counts in `dt` bus counts, within VMAX, AMAX and the braking limit. -/
def slewed (vmax amax : Nat) (d : Int) (vPrev : Vel) (dt : Nat) : Vel :=
  let v := Vel.ratio (d * 750000) dt
  let v := if 0 < vmax then v.clamp (Vel.ratio (-vmax) 256) (Vel.ratio vmax 256) else v
  if amax = 0 then v
  else
    let v := v.clamp (vPrev.addRatio (-((amax * dt : Nat) : Int)) 192000000)
      (vPrev.addRatio (amax * dt : Nat) 192000000)
    let brake : Vel := ⟨0, 1, 1, 2 * amax * d.natAbs⟩
    match v.cmp Vel.zero with
    | 0 => Vel.zero
    | .negSucc _ => if brake.cmp v.neg < 0 then brake.neg else v
    | _ => if brake.cmp v < 0 then brake else v

/-- AXIS_PROCESS (R309, R313): output, velocity and reference of an axis, and its flags LIMIT, SLEW and
DEADBAND; `dt` in bus counts.
DEDUCED (log 110). DEDUCED (log 112). DEDUCED (log 115). -/
def axisProcess (s : State) (n a : Nat) (yt yPrev : Int) (vPrev : Vel) (yRef : Int) (dt : Nat) (db : Bool) :
    Int × Vel × Int × Nat :=
  let dead := db && decide ((yt - yRef).natAbs < field (axW s n a 6) 0 24)
  let yt := if dead then yRef else yt
  let v := slewed (axW s n a 4).toNat (axW s n a 5).toNat (yt - yPrev) vPrev dt
  let y := yPrev + v.travel dt
  let lo : Int := field (axW s n a 2) 0 24
  let hi : Int := field (axW s n a 3) 0 24
  let out := decide (y < lo ∨ hi < y)
  (if out then clampI lo hi y else y, if out then Vel.zero else v, yt,
   bit out + 2 * bit (decide (v.cmp (Vel.ratio ((yt - yPrev) * 750000) dt) ≠ 0)) + 4 * bit dead)

/-- The axes of a solution processed in order (R309); `start` marks the first solution after PARKED. -/
def processAxes (start db : Bool) (dt : Nat) : List (Nat × Int) → Nat → State → State
  | [], _, s => s
  | (a, yt) :: rest, n, s =>
    let p := s.hp n
    let fresh := start || (look p.outs a).isNone
    let fb := if start then (look p.newest a).map (fun v => (v : Int)) else none
    let yPrev := if fresh then fb.getD yt else (look p.outs a).getD yt
    let vPrev := if fresh then Vel.zero else (look p.vels a).getD Vel.zero
    let yRef := if fresh then yt else (look p.refs a).getD yt
    let (y, v, r, fl) := axisProcess s n a yt yPrev vPrev yRef dt db
    let s := if fl % 2 = 1 then bump s 0x0E8488 else s
    let s := setHp s n { p with
      outs := put p.outs a y, vels := put p.vels a v, refs := put p.refs a r, flags := orFlags p.flags fl }
    processAxes start db dt rest n s

/-- y and ω of the command history at a time (R304), from the newest pair that brackets it, exact (R313): the output
times h, the change of output over the pair, and h, the bus counts between its horizons. -/
def histAt (f : LeadPoint → Option Int) (at_ : Nat) : List LeadPoint → Option (Int × Int × Nat)
  | b :: a :: t =>
    if a.horizon ≤ at_ ∧ at_ ≤ b.horizon ∧ a.horizon < b.horizon then
      match f a, f b with
      | some ya, some yb =>
        let h := b.horizon - a.horizon
        some (ya * h + (yb - ya) * ((at_ : Int) - a.horizon), yb - ya, h)
      | _, _ => none
    else histAt f at_ (a :: t)
  | _ => none

/-- LEAD_ADAPT (R304) for one acknowledged feedback.
DEDUCED (log 117). -/
def leadAdapt (s : State) (n : Nat) (fb : Nat × SMap Nat) : State :=
  let p := s.hp n
  let pan := histAt (fun x => x.pan) fb.1 p.hist
  let tilt := histAt (fun x => x.tilt) fb.1 p.hist
  let w := fun (q : Option (Int × Int × Nat)) => (q.map (fun x => (x.2.1.natAbs, x.2.2))).getD (0, 1)
  let a := if (w pan).1 * (w tilt).2 < (w tilt).1 * (w pan).2 then 1 else 0
  match (if a = 0 then pan else tilt), look fb.2 a with
  | some (y, dy, h), some pf =>
    if dy ≠ 0 ∧ (fixW s n 60).toNat * h ≤ dy.natAbs * 750000 * 256 then
      let pol := fixW s n 15
      let mx : Int := 1000 * field pol 24 8
      let num := (field pol 16 8 : Int) * (y - (pf : Int) * h) * 1000 * sign dy
      let c := p.lead + roundDiv num (256 * 750000 * (dy.natAbs : Int))
      setHp s n { p with lead := clampI (-mx) mx c }
    else s
  | _, _ => s

/-- The feedback that waits is taken at the port's solve (R304, R333).
DEDUCED (log 117). -/
def takeFeedback (s : State) (n : Nat) : State :=
  let l := (s.hp n).fb
  let s := setHp s n { s.hp n with fb := [] }
  if field (fixW s n 0) 7 1 = 1 ∧ lshMode s n = 2 then l.foldl (fun s fb => leadAdapt s n fb) s else s

/-- The commanded outputs of a solution enter the history (R304). -/
def pushHist (s : State) (n th : Nat) : State :=
  let p := s.hp n
  if field (fixW s n 0) 7 1 = 1 ∧ lshMode s n = 2 then
    setHp s n { p with
      hist := ({ horizon := th, pan := look p.outs 0, tilt := look p.outs 1 } :: p.hist).take 32 }
  else s

/-- HOLD_TICKS (R301). -/
def holdTicks (s : State) (n : Nat) : Nat := orIf (field (fixW s n 15) 0 16) 1

/-- A solve without a target (R311, R316): a HOLDING port commands its last outputs again, at this horizon (R304).
DEDUCED (log 114). -/
def noTargetSolve (s : State) (n th : Nat) : State :=
  let p := s.hp n
  let p := { p with noTarget := min 65535 (p.noTarget + 1), fresh := true, handle := 0, point := (0, 0, 0) }
  let zero := p.vels.map (fun q => (q.1, Vel.zero))
  let held := { p with flags := orFlags p.flags 8, vels := zero, solved := true }
  match p.state with
  | .tracking => pushHist (setHp s n { held with state := .holding, hold := 1 }) n th
  | .holding =>
    if holdTicks s n ≤ p.hold then setHp s n { held with parkDue := true }
    else pushHist (setHp s n { held with hold := p.hold + 1 }) n th
  | _ => setHp s n p

/-- A solve with axis values (R309, R311). -/
def targetSolve (s : State) (n : Nat) (ys : List (Nat × Int)) (db : Bool) (dt th : Nat) : State :=
  let p := s.hp n
  let start := decide (p.state = .parked)
  let zero := p.vels.map (fun q => (q.1, Vel.zero))
  let rest := fun (v : SMap Vel) => v.map (fun q => if ys.any (fun y => decide (y.1 = q.1)) then q else (q.1, Vel.zero))
  let vels := if p.state = .holding then zero else rest p.vels
  let s := setHp s n { p with
    state := .tracking, noTarget := 0, hold := 0, parkDue := false, fresh := true, solved := true,
    vels := vels }
  pushHist (processAxes start db dt ys n s) n th

/-- The port parks by an override (R311, R312).
DEDUCED (log 114). -/
def parkOverride (s : State) (n : Nat) : State :=
  let p := s.hp n
  setHp s n { p with
    state := .parked, hold := 0, parkDue := false, fresh := true, solved := false, handle := 0,
    point := (0, 0, 0) }

/-- The override that stands at a solve: one whose solves are spent stands no more (R312).
DEDUCED (log 116). -/
def standing (p : HeelPort) : Option Ovr :=
  match p.ovr with
  | some o => if o.left = some 0 then none else some o
  | none => none

/-- One solve is taken from the TTL of the override (R312). -/
def spendTtl (s : State) (n : Nat) : State :=
  let p := s.hp n
  setHp s n { p with ovr := p.ovr.map (fun o => { o with left := o.left.map (· - 1) }) }

/-- A stage point in Q24.8 (R314). -/
def pointField (p : Point) : Vec := p.num.map (fun x => roundDiv (256 * x) p.den)

/-- The solution for an aim (R306 to R309). -/
def solveAim (s : State) (n : Nat) (g : Aim) (dt th : Nat) : State :=
  let (free, s) := drawFree s
  let p := s.hp n
  let prev : SMap Int := if p.state = .parked then p.newest.map (fun q => (q.1, (q.2 : Int))) else p.outs
  let s := setHp s n { p with flags := orFlags p.flags g.flags }
  match axisTargets s n g.target prev free with
  | none => noTargetSolve s n th
  | some (ys, flip) =>
    let p := s.hp n
    let point := match g.target with
      | .stage v => pointField v
      | _ => (0, 0, 0)
    targetSolve (setHp s n { p with
      flags := orFlags p.flags (64 * bit flip), handle := g.handle, point := point }) n ys true dt th

/-- HEEL_SOLVE (R303, R305, R311, R312): one port.
DEDUCED (log 110). DEDUCED (log 115). -/
def solvePort (s : State) (n : Nat) : State :=
  let tl := latchAt s n
  let dt := match (s.lp n).latch with
    | some t => if t < tl then tl - t else s.time.t
    | none => s.time.t
  let s := takeFeedback s n
  let p := s.hp n
  let s := setHp s n { p with flags := 0, parkDue := false }
  let th := horizon s n
  match standing p with
  | none =>
    let (g, s) := aimBind s n
    solveAim s n g dt th
  | some o =>
    let s := spendTtl s n
    let s := setHp s n { s.hp n with flags := 16 }
    match o.mode with
    | 1 =>
      solveAim s n { target := .stage { num := (o.px, o.py, o.pz), den := 256 }, handle := 0, flags := 0 } dt th
    | 2 =>
      let ys := ((axes s n).filter (fun a => decide (o.mask / 2 ^ a % 2 = 1))).map (fun a =>
        (a, ((o.axes.getD a 0 % 2 ^ 24 : Nat) : Int)))
      targetSolve (setHp s n { s.hp n with handle := 0, point := (0, 0, 0) }) n ys false dt th
    | _ => parkOverride s n

/-- The bus counts that a solve costs (R310). -/
def solveCost (s : State) (n : Nat) : Nat :=
  match standing (s.hp n), bindOf s n with
  | none, 3 => 200 + 24 * ((members s n).length - 1)
  | _, _ => 200

/-- The listed ports solved in order until one cannot complete by H (R310): those left are held. -/
def solveAll (limit : Nat) : List Nat → Nat → State → State
  | [], _, s => s
  | n :: t, spent, s =>
    let cost := spent + solveCost s n
    if limit < cost then { s with heel := { s.heel with held := n :: t } }
    else solveAll limit t cost (solvePort s n)

/-- The Heel's part of S (R26, R310, R462).
DESIGN CHOICE (log 221). -/
def heelSolve (s : State) : State :=
  if s.sys.tier = 3 ∧ 0 < s.time.k then
    let l := (solveList s).foldl (fun l n => insertPort s n l) []
    let s := { s with heel := { s.heel with listed := l, held := [] } }
    solveAll (s.time.t * 94 / 100 - s.time.t * 9 / 10) l 0 s
  else s

/-- HEEL_PORT_STATUS[n] from the port (R316). -/
def portStatus (s : State) (n : Nat) : Nat :=
  let p := s.hp n
  let held := decide (n ∈ s.heel.held)
  let fl := orFlags (orFlags p.flags (32 * bit held)) (2048 * bit (cfgErr s n))
  p.noTarget * 65536 + fl * 4 + p.state.code

/-- HEEL_PORT_PARK (R311): a HOLDING port whose count has reached HOLD_TICKS parks at its next no-target
solve. -/
def execHeelPortPark (n : Nat) (s : State) : Host.Outcome State Fault Refusal :=
  .next (whenTier 3 s fun s =>
    let p := s.hp n
    if p.state = .holding ∧ p.parkDue = true then
      let s := setHp s n { p with
        state := .parked, parkDue := false, hold := 0, solved := false, flags := p.flags - p.flags / 8 % 2 * 8 }
      logReg (bump s 0x0E848C) 0x01 0 (0x0E8800 + 4 * n) (portStatus s n) n
    else s)

/-- OVERRIDE_TTL_EXPIRY (R312): an override whose solves are spent ends. -/
def execOverrideTtlExpiry (n : Nat) (s : State) : Host.Outcome State Fault Refusal :=
  .next (whenAwake s fun s =>
    let p := s.hp n
    match p.ovr with
    | some o => if o.left = some 0 then setHp s n { p with ovr := none } else s
    | none => s)

/-- The echo record of a port (R314). -/
def echoRecord (s : State) (n : Nat) : List Byte :=
  let p := s.hp n
  let held := decide (n ∈ s.heel.held)
  let fl := orFlags (orFlags p.flags (32 * bit held)) (2048 * bit (cfgErr s n))
  le 1 n ++ le 1 p.state.code ++ le 2 fl ++ le 4 p.handle ++ le 4 (code 32 p.point.1)
    ++ le 4 (code 32 p.point.2.1) ++ le 4 (code 32 p.point.2.2)
    ++ le 4 (code 32 ((fixW s n 14).toInt + p.lead))
    ++ (upto 5).flatMap (fun a => le 4 (code 24 ((if (axes s n).contains a then look p.outs a else none).getD 0)))
    ++ le 4 (code 32 p.lead)

/-- TRK_FLAGS of the frame now read (R177, R280). -/
def trkFlags (s : State) : Nat :=
  bit s.ptr.retiredNow + 2 * bit s.ptr.unfinished + 4 * bit (decide (s.img.prv.therm ≠ 0))

/-- Ports whose solution the H of the tick finds missing: listed, and held or never solved (R26, R310).
DEDUCED (log 118). -/
def heldPorts (s : State) : List Nat :=
  if s.sys.tier = 3 ∧ 0 < s.time.k then
    (solveList s).filter (fun n => !(s.hp n).fresh)
  else []

/-- HEEL_DEADLINE (R26, R310, R314 to R316): at H the port buffers are final; the header holds the timebase at S
(R257), and tick 0 has solved no port (R462).
DEDUCED (log 118). DESIGN CHOICE (log 221). -/
def execHeelDeadline (s : State) : Host.Outcome State Fault Refusal :=
  .next (whenTier 3 s fun s =>
    if s.heel.done then s
    else
      let s := reach s (s.time.e + s.time.t * 94 / 100)
      let held := heldPorts s
      let s := { s with heel := { s.heel with held := held, done := true } }
      let s := held.foldl (fun s n => if portBound s n then bump s (0x0E8C00 + 4 * n) else s) s
      let s := if held ≠ [] then bump s 0x0E8494 else s
      let done := ((solveList s).filter (fun n => (s.hp n).fresh)).length
      let s := setRegN s 0x0E8404 (min 255 held.length * 256 + min 255 done)
      let s := (upto 128).foldl (fun s n =>
        setRegN (setRegN s (0x0E8800 + 4 * n) (portStatus s n)) (0x0E8A00 + 4 * n) (code 32 (s.hp n).lead)) s
      if 0 < s.time.k then
        let live := (s.heel.ports.filter (fun p => decide (p.2.state ≠ .off))).map (fun p => p.1)
        let f := s.img.prv
        let head := le 4 (f.k % 2 ^ 32) ++ le 2 f.id ++ zeros 2 ++ le 4 live.length ++ le 4 (trkFlags s)
          ++ le 8 (s.time.e + s.time.t * 9 / 10) ++ zeros 8
        queueRecord s 7 (f.k % 2 ^ 32) 0 (head ++ live.flatMap (echoRecord s)) true
      else s)

/-- A port of the Heel at a commit (R301, R302, R311, R305): OFF and PARKED, and a fresh binding. -/
def heelCommitPort (s : State) (n : Nat) : State :=
  let p := s.hp n
  let on := fixEn s n && fixValid s n && decide (lshMode s n ≠ 0)
  let oldCtrl := s.prv (fixAddr n 0)
  let oldArg := s.prv (fixAddr n 1)
  let new := decide (bindOf s n = 1 ∧ (field oldCtrl 4 3 ≠ 1 ∨ oldArg ≠ fixW s n 1))
  let p := { p with
    bindNew := (p.bindNew || new) && decide (bindOf s n = 1), wasCur := p.wasCur && !new && decide (bindOf s n = 1),
    fresh := false }
  let p := if field (fixW s n 0) 7 1 = 0 then { p with hist := [] } else p
  if on then
    setHp s n (if p.state = .off then { p with state := .parked } else p)
  else
    setHp s n { HeelPort.off with
      bindNew := p.bindNew, wasCur := p.wasCur, lead := p.lead, newest := p.newest, poses := p.poses }

/-- The Heel at a commit. -/
def heelEdge (s : State) : State :=
  let s := (upto 128).foldl heelCommitPort s
  { s with heel := { s.heel with listed := [], held := [], done := false } }

/-- AIM_OVERRIDE at its reception (R19, R312): stored for the next solve, or refused and counted.
DEDUCED (log 116). -/
def aimOverride (s : State) (o : Override) : State :=
  let p := s.hp o.port
  if 127 < o.port ∨ p.state = .off ∨ 3 < o.mode ∨ (o.mode = 1 ∧ modelOf s o.port = 4) then bump s 0x0E8490
  else if o.mode = 0 then setHp s o.port { p with ovr := none }
  else
    setHp s o.port { p with
      ovr := some { mode := o.mode, left := if o.ttl = 0 then none else some o.ttl, mask := o.axmask % 32,
                    px := o.px, py := o.py, pz := o.pz, axes := o.axes } }

end Sys2Proof.Machine
end

