-- ==== Sys2Proof/Machine/Collar.lean ====
section
/-!
DEFINITION. The solve point (R26): the Collar (R176 to R181), the track streams, the tracking-need masks
(R279), the feature seeder and the Heel's solve.
-/

namespace Sys2Proof.Machine

/-- A set of numbers as a mask of bits. -/
def bitsOf (l : List Nat) : Nat := (l.map (fun i => 2 ^ i)).sum

/-- TILE_FLAGS of a tile of the frame now read (R179). -/
def tileFlags (s : State) (t : Nat) : Nat :=
  let f := s.img.prv
  let x := mget TileExp.off f.tiles t
  let dropped := x.exps.any (fun e => e.dropped)
  bit x.clipped + 2 * bit dropped + 4 * bit x.gateEmpty + 8 * bit (x.blockedA || x.blockedB)
    + 16 * f.plan.burstCode t + 64 * bit (!s.img.cur.plan.rows.contains (t / 64))
    + 128 * bit (((heldExp s t 0).isNone && (heldExp s t 1).isNone))

/-- START and LEN of an exposure in the exposure map (R181). -/
def mapExpo (x : TileExp) (n : Nat) : List Byte :=
  let e := x.exp n
  if e.exists_ then
    match (if n = 1 ∧ x.gateEmpty = false then x.gate else none) with
    | some g => le 3 g.1 ++ le 3 g.2
    | none => le 3 e.start ++ le 3 e.len
  else zeros 6

/-- Exposure-map entry t (R181). -/
def mapEntry (s : State) (t : Nat) : List Byte :=
  let f := s.img.prv
  let x := mget TileExp.off f.tiles t
  let w := entryOf s.regs.prev t
  let drop := bitsOf ((upto 4).filter (fun n => (x.exp (n + 1)).dropped))
  (upto 4).flatMap (fun n => mapExpo x (n + 1))
    ++ le 1 (w.mode + 4 * w.cgA + 8 * w.cgB + 16 * w.again + 64 * bit (isSubst f s.regs.prev t))
    ++ le 1 (drop + 16 * bit x.blockedA + 32 * bit x.blockedB + 64 * bit x.clipped + 128 * bit x.gateEmpty)
    ++ le 4 ((tileSpan s t).getD 0xFFFFFFFF) ++ zeros 2

/-- A burst pass in the Collar (R177). -/
def passEntry (p : Pass) : List Byte :=
  le 4 p.start ++ le 8 (rowMask p.rows) ++ le 1 (if p.shed then 2 else 1) ++ zeros 3

/-- The normalised windows of a stream in the Collar (R142, R177). -/
def winEntries (m : SMap Word) (therm st : Nat) : List Byte :=
  (upto 16).flatMap (fun w =>
    match winOf m therm st w with
    | some x => if x.empty then zeros 8 else le 2 x.x0 ++ le 2 x.y0 ++ le 2 x.x1 ++ le 2 x.y1
    | none => zeros 8)

/-- The window bits of a stream (R142, R153): enabled, clipped, empty. -/
def winBits (m : SMap Word) (therm st : Nat) : Nat × Nat × Nat :=
  let on := (upto 16).filterMap (fun w => (winOf m therm st w).map (fun x => (w, x)))
  (bitsOf (on.map (fun p => p.1)), bitsOf ((on.filter (fun p => p.2.clipped)).map (fun p => p.1)),
   bitsOf ((on.filter (fun p => p.2.empty)).map (fun p => p.1)))

/-- The STREAM byte of the Collar (R177). -/
def streamByte (m : SMap Word) (therm st : Nat) : Nat :=
  let o := rget m (0x070040 + 4 * st)
  binOf m therm st + 8 * field o 0 2 + 32 * orIf (field o 4 2) 3 + 128 * bit (streamEn m st)

/-- TICK_FLAGS (R178), for the OR of the tile flags and the states of the auxiliary pairs; STATS_PARTIAL where a
tile-row is not read. -/
def tickFlags (s : State) (tiles : List Nat) (aux : List Nat) : Nat :=
  let f := s.img.prv
  let m := s.regs.prev
  let anyT := fun (b : Nat) => bit (tiles.any (fun v => decide (v / b % 2 = 1)))
  let anyA := fun (b : Nat) => bit (aux.any (fun v => decide (v / b % 2 = 1)))
  f.mode + 4 * bit f.synth + 8 * bit f.glHold + 16 * bit f.glSlew + 32 * bit f.glRange
    + 64 * bit f.plan.floorRaised + 128 * bit f.deferNlk + 256 * bit f.deferMgb + 512 * bit f.deferShp
    + 1024 * bit f.plan.obRun + 2048 * bit (decide (f.therm = 2)) + 4096 * bit f.tcValid
    + 8192 * field (rget m 0x050000) 0 1 + 16384 * field (rget m 0x04C008) 0 1
    + 2 ^ 15 * anyT 1 + 2 ^ 16 * anyT 2 + 2 ^ 17 * anyT 8 + 2 ^ 18 * anyT 4
    + 2 ^ 19 * bit (!f.plan.refused.isEmpty) + 2 ^ 20 * anyA 2 + 2 ^ 21 * anyA 4 + 2 ^ 22 * anyA 8
    + 2 ^ 23 * bit (decide (s.img.cur.plan.rows.length < 48) || s.sys.rdoStopped)

/-- Outcomes of the tick by class: matched and stale (R280). -/
def outcomeCounts (s : State) (subj : Bool) : Nat × Nat :=
  let mine := s.ptr.outcome.filter (fun p => decide (p.1 < subjSlots s) == subj)
  ((mine.filter (fun p => decide (p.2 = 1 ∨ p.2 = 2 ∨ p.2 = 5))).length,
   (mine.filter (fun p => decide (p.2 = 3))).length)

/-- The tracking summary of the Collar (R177, R280): zeros when it closes in T2. -/
def trackSummary (s : State) : List Byte :=
  if s.sys.tier = 3 then
    let (fm, fs) := outcomeCounts s false
    let (sm, ss) := outcomeCounts s true
    le 4 fm ++ le 4 fs ++ le 2 sm ++ le 2 ss ++ le 4 (trkFlags s)
  else zeros 16

/-- The Collar record of the frame now read (R177).
DESIGN CHOICE (log 225). -/
def collarRecord (s : State) : List Byte :=
  let f := s.img.prv
  let m := s.regs.prev
  let p := f.plan
  let tiles := (upto 3072).map (tileFlags s)
  let aux := (upto 8).map (fun q => auxEntry s q f)
  let flags := tickFlags s tiles (aux.map (fun b => leAt b 0 1))
  let ten := decide (field (rget m 0x050000) 0 1 = 1)
  let ped := if ten then field (rget m 0x050004) 16 10 else field (rget m 0x050004) 0 12
  let (start1, len1) := f.trig1.getD (0xFFFFFFFF, 0)
  let run := p.passes.filter (fun q => !q.shed)
  let (e0, c0, m0) := winBits m f.therm 0
  let (e1, c1, m1) := winBits m f.therm 1
  let passes := (p.passes.take 16).flatMap passEntry
  le 4 0x31524C43 ++ le 2 1 ++ le 2 0x1000 ++ le 4 (f.k % 2 ^ 32) ++ le 2 f.id ++ le 2 f.calGen
    ++ le 8 f.tb ++ le 4 f.period ++ le 4 flags ++ le 8 f.tcWord ++ le 4 f.tcAge
    ++ le 4 start1 ++ le 4 len1 ++ le 2 ped ++ le 2 (field (rget m 0x070000) 0 7)
    ++ le 8 (rowMask s.img.cur.plan.rows) ++ le 8 (rowMask s.img.cur.plan.needRefused)
    ++ le 4 p.endAt ++ le 1 run.length ++ le 1 (p.passes.length - run.length)
    ++ le 2 p.accepted.length ++ le 2 p.refused.length ++ le 2 p.shedTiles.length ++ le 4 p.floor ++ zeros 8
    ++ passes ++ zeros (256 - passes.length) ++ winEntries m f.therm 0 ++ winEntries m f.therm 1
    ++ le 2 e0 ++ le 2 c0 ++ le 2 m0 ++ le 2 e1 ++ le 2 c1 ++ le 2 m1
    ++ (upto 3).flatMap (fun st => le 1 (streamByte m f.therm st)) ++ zeros 1
    ++ le 4 (orIf (field (rget m 0x070014) 0 24) 1)
    ++ le 2 (orIf (field (rget m 0x070010) 0 16) 0x1000) ++ le 2 (field (rget m 0x07000C) 0 12)
    ++ le 2 (orIf (field (rget m 0x07000C) 16 12) 1) ++ le 2 (field (rget m 0x070018) 0 16)
    ++ le 2 (field (rget m 0x080004) 0 12) ++ le 2 (field (rget m 0x070030) 0 16)
    ++ (upto 4).flatMap (fun c => le 2 (field (rget m (0x070020 + 4 * c)) 0 16)) ++ zeros 8
    ++ (upto 8).flatMap (fun i => le 4 (rget m (0x070080 + 8 * i)).toNat
        ++ le 1 (field (rget m (0x070084 + 8 * i)) 0 5) ++ zeros 3)
    ++ trackSummary s ++ zeros 32 ++ aux.flatten ++ zeros 128
    ++ tiles.flatMap (fun v => le 1 v)

/-- COLLAR_CLOSE (R176): the record and the exposure map enter the ring slot, and stream 4. -/
def closeCollar (s : State) : State :=
  let f := s.img.prv
  if f.collar then
    let rec_ := collarRecord s
    let map := (upto 3072).flatMap (mapEntry s)
    let s := { s with stat := { s.stat with
      collars := put s.stat.collars (f.k % 4) { record := rec_, map := map } } }
    let s := { s with img := { s.img with prv := { f with collar := false } } }
    let k := f.k % 2 ^ 32
    if field (rget s.regs.prev 0x070050) 0 1 = 1 then
      if field (rget s.regs.prev 0x070050) 1 1 = 1 then
        queueRecord (queueRecord s 4 k 0 rec_ false) 4 k 0 map true
      else queueRecord s 4 k 0 rec_ true
    else s
  else s

/-- The footprint of a track for the next main pass (R279): predicted to E + T/2 of the open tick, with
the frame just tracked as the previous frame. -/
def needRows (s : State) (t : Track) : List Nat :=
  let tq := instCur s 0 t.x t.y
  let tp := s.time.e + s.time.t / 2
  let j : Job := { slot := 0, track := t, tq := tq, tp := tp, prev := t.at_ tq, pred := t.at_ tp }
  distinct ((j.footCur 6144).map (fun r => r / 128))

/-- TRACKING_MASKS (R279): the tile-rows of subjects and of features. -/
def trackMasks (s : State) : State :=
  let rows := fun (l : List (Nat × Track)) =>
    let mine := (l.filter (fun p => decide (p.2.source = 0 ∧ p.2.state ≠ 4))).map (fun p => needRows s p.2)
    (upto 48).filter (fun j => mine.any (fun r => r.contains j))
  { s with img := { s.img with subjRows := rows (liveSubjects s), featRows := rows (liveFeatures s) } }

/-- SOLVE_POINT (R26, R176, R249, R257, R279, R310): what S does once in a tick; in T2 the Collar alone.
DESIGN CHOICE (log 221). -/
def execSolvePoint (s : State) : Host.Outcome State Fault Refusal :=
  .next (whenTier 2 s fun s =>
    if s.ptr.solved then s
    else
      let s := reach s (s.time.e + s.time.t * 9 / 10)
      let s := { s with ptr := { s.ptr with solved := true } }
      let s := closeCollar s
      if s.sys.tier = 3 then
        let s := heelSolve s
        let s := if 0 < s.time.k then trackStreams s (trkFlags s) else s
        let s := trackMasks s
        let s := runSeeder s
        { s with ken := { s.ken with stable := true } }
      else s)

end Sys2Proof.Machine
end

