-- ==== Sys2Proof/Machine/Leash.lean ====
section
/-!
DEFINITION. The Leash ports (R318 to R358): latches, AIM and PARK frames, DMX512-A packets,
acknowledgements, and the cue journal.
-/

namespace Sys2Proof.Machine

/-- Base address of the registers of port n (R351). -/
def lshReg (n ofs : Nat) : Nat := 0x100000 + 0x100 * n + ofs

/-- The mode that a configuration word in effect gives (R352). -/
def modeIn (cfg : Word) : Nat := let m := field cfg 0 2; if m = 3 then 0 else m

/-- Bit rate of a configuration word, LEASH (R352). -/
def lshRate (cfg : Word) : Nat :=
  match field cfg 2 2 with
  | 1 => 6000000
  | 2 => 12000000
  | _ => 3000000

/-- NCH and NCUE of a configuration word (R352). -/
def nchOf (cfg : Word) : Nat := min 16 (field cfg 4 5)
def ncueOf (cfg : Word) : Nat := min 4 (field cfg 9 3)

/-- ACK_EN of a configuration word. -/
def ackEn (cfg : Word) : Bool := decide (field cfg 12 1 = 1)

/-- The bus clock runs from REFCLK and the rate of the port exceeds f_REF / 8 (R323). -/
def clkLow (s : State) (n : Nat) : Bool :=
  let cfg := (s.lp n).cfg
  let (num, den) := refStep s.clk.refCode
  let r := if modeIn cfg = 1 then 250000 else lshRate cfg
  decide (modeIn cfg ≠ 0 ∧ s.clk.busSrc = 1 ∧ countsPerSec * den < 8 * r * num)

/-- LSH_PORT_STATUS[n] (R354). -/
def lshStatus (s : State) (n : Nat) : Nat :=
  let p := s.lp n
  p.dmxM * 2 ^ 16 + bit p.overlap * 256 + bit p.unsent * 128 + bit p.conflict * 64
    + bit (clkLow s n) * 32 + bit p.lost * 16 + p.kind * 4 + modeIn p.cfg

/-- LSH_CUE_STATUS[n] (R355). -/
def cueStatus (s : State) (n : Nat) : Nat := (s.lp n).nextCseq * 65536 + (s.lp n).cues.length

/-- Outstanding cues are discarded, with a log entry (R344). -/
def discardCues (s : State) (n : Nat) : State :=
  let p := s.lp n
  if p.cues = [] then s
  else
    logReg (setLp s n { p with cues := [] }) 0x06 1 (lshReg n 0x0C) p.cues.length n

/-- The committed configuration comes into effect (R321). -/
def adoptCfg (s : State) (n : Nat) : State :=
  setLp s n { s.lp n with cfg := if lshMode s n = 0 then 0 else s.act (lshReg n 0) }

/-- A port at a commit (R321, R326, R344, R347): m is recomputed at every commit. -/
def leashCommitPort (s : State) (n : Nat) : State :=
  let new := s.act (lshReg n 0)
  let old := s.prv (lshReg n 0)
  let off := decide (s.fp 0x108004 (n / 16) 1 = 1 ∧ s.fa 0x108004 (n / 16) 1 = 0)
  let s := if decide (field new 0 4 ≠ field old 0 4) || off then discardCues s n else s
  let s := if 3276 < s.fa (lshReg n 4) 0 12 then bump s (lshReg n 0x38) else s
  let s := if (s.lp n).busy ≤ s.time.e then adoptCfg s n else s
  let p := s.lp n
  setLp s n { p with dmxM := dmxM s n, refresh := if lshMode s n = 1 then p.refresh else none }

/-- The Leash at a commit. -/
def leashEdge (s : State) : State := (upto 128).foldl leashCommitPort s

/-- The channel of an axis, where one of its first NCH channels carries it (R325). -/
def chanOf (s : State) (n a : Nat) : Nat := field (axW s n a 7) 1 4

/-- The channel values of a solution (R325).
DEDUCED (log 120). -/
def channels (s : State) (n nch : Nat) : List Nat :=
  (upto nch).map (fun c =>
    match ((axes s n).filter (fun a => decide (chanOf s n a = c))).head? with
    | some a =>
      match look (s.hp n).outs a with
      | some y => code 24 y
      | none => s.fa (lshReg n (0x40 + 4 * c)) 0 24
    | none => s.fa (lshReg n (0x40 + 4 * c)) 0 24)

/-- Two axes of a record share a channel; an axis has a channel beyond the last (R325). -/
def chanFlags (s : State) (n nch : Nat) : Bool × Bool :=
  let cs := (axes s n).map (chanOf s n)
  (decide ((distinct cs).length < cs.length), cs.any (fun c => decide (nch ≤ c)))

/-- The park values of a port (R325). -/
def parkValues (s : State) (n nch : Nat) : List Nat := (upto nch).map (fun c => s.fa (lshReg n (0x80 + 4 * c)) 0 24)

/-- What a transmission carries, by the first row of R324 that applies. -/
inductive Content where
  | park
  | held
  | aim
deriving DecidableEq, Repr

/-- The row of R324 that applies at a latch. -/
def contentOf (s : State) (n : Nat) : Content :=
  let p := s.hp n
  if s.sys.tier < 3 then .park
  else
    match p.state with
    | .off => .park
    | .parked => .park
    | _ => if p.fresh then .aim else if p.solved then .held else .park

/-- KIND of a transmission (R354). -/
def Content.kind : Content → Nat
  | .aim => 1
  | .held => 2
  | .park => 3

/-- The flags of an AIM frame with a new solution (R324, R330). -/
def aimFlags (p : HeelPort) : Nat :=
  2 * bit (decide (p.state = .holding)) + 4 * (p.flags / 16 % 2) + 8 * (p.flags / 512 % 2)

/-- Values and flags of a transmission (R324, R325).
DEDUCED (log 120). -/
def contentVals (s : State) (n nch : Nat) : Content → List Nat × Nat
  | .park => (parkValues s n nch, 0)
  | .aim => (channels s n nch, aimFlags (s.hp n))
  | .held =>
    let l := (s.lp n).vals.take nch
    (l ++ (channels s n nch).drop l.length, 1 + (s.lp n).flags / 2 * 2)

/-- PER of a frame (R330). -/
def perField (s : State) : Nat :=
  let t := if 2 ≤ s.img.cur.mode then max s.time.tmin (s.act 0x04C208).toNat else s.time.t
  min 65535 (ceilDiv t 12000)

/-- The eight bytes of a cue in a frame (R330). -/
def Cue.bytes (c : Cue) : List Byte := le 2 c.cseq ++ le 1 c.op ++ zeros 1 ++ le 4 c.arg.toNat

/-- The cues that a frame carries (R340, R343): the oldest outstanding whose write came before H.
DEDUCED (log 124). DESIGN CHOICE (log 221). -/
def frameCues (s : State) (n : Nat) : List Cue :=
  let p := s.lp n
  let h := s.time.e + s.time.t * 94 / 100
  ((p.cues.filter (fun c => decide (c.tb < h) && (ackEn p.cfg || decide (c.sends ≤ field p.cfg 13 3)))).take
    (ncueOf p.cfg))

/-- A LEASH frame (R329, R330). -/
def leashFrame (s : State) (n : Nat) (c : Content) : List Byte :=
  let p := s.lp n
  let (vals, flags) := contentVals s n (nchOf p.cfg) c
  let cues := frameCues s n
  let b := le 1 (match c with | .park => 0x52 | _ => 0x51) ++ le 1 n ++ le 1 p.seq ++ le 3 s.time.k
    ++ le 2 (perField s) ++ le 1 flags ++ le 1 (vals.length + 32 * cues.length) ++ le 2 (s.fc 0x108008 0 16)
    ++ vals.flatMap (fun v => le 3 v) ++ cues.flatMap Cue.bytes
  b ++ le 2 (crc16 b)

/-- The slot bytes that a channel fills: first slot and bytes, most significant first (R349). -/
def slotBytes (s : State) (n c v : Nat) : Nat × List Byte :=
  let m := s.act (lshReg n (0xC0 + 4 * c))
  let w := orIf (field m 10 2) 1
  (field m 0 10, ((le 3 v).reverse).take w)

/-- Slots filled by the channels in ascending order: the map from slot to byte, and overlap (R349). -/
def fillSlots (s : State) (n nSlots : Nat) (vals : List Nat) : SMap Byte × Bool :=
  (vals.zipIdx).foldl (fun (acc : SMap Byte × Bool) (q : Nat × Nat) =>
    let (slot, bs) := slotBytes s n q.2 q.1
    if slot = 0 ∨ nSlots < slot then acc
    else
      (bs.zipIdx).foldl (fun (acc : SMap Byte × Bool) (b : Byte × Nat) =>
        let i := slot + b.2
        if nSlots < i then acc else (put acc.1 i b.1, acc.2 || (look acc.1 i).isSome)) acc) ([], false)

/-- A DMX512-A packet: the start code and N slots (R345, R349).
DEDUCED (log 120). -/
def dmxPacket (s : State) (n : Nat) (vals : List Nat) : List Byte × Bool :=
  let k := dmxSlots (s.lp n).cfg
  let (m, ovl) := fillSlots s n k vals
  (zeros 1 ++ (rangeFrom 1 k).map (fun i => (look m i).getD 0), ovl)

/-- The outputs of a transmitted solution are noted for a camera on the head (R300): those latched last stand until
others are latched.
DESIGN CHOICE (log 108). -/
def pushPose (s : State) (n : Nat) (c : Content) : State :=
  match c with
  | .park => s
  | _ =>
    let p := s.hp n
    let outs := p.outs.filter (fun q => decide (q.1 < 3))
    if p.poses.head?.map (fun q => q.outs) = some outs then s
    else setHp s n { p with poses := { tb := latchAt s n, outs := outs } :: p.poses }

/-- ACK_MISS (R332, R334): the newest frame meets the port's next latch, once; a frame that does not increment the
counter ends the run of those that do. -/
def checkMiss (s : State) (n : Nat) : State :=
  let p := s.lp n
  match p.sent with
  | f :: rest =>
    if f.met then s
    else
      let p := { p with sent := { f with met := true } :: rest }
      if f.acked = false ∧ ackEn p.cfg = true then
        bump (setLp s n { p with missed := p.missed + 1, missNew := true }) (lshReg n 0x28)
      else setLp s n { p with missed := 0 }
  | [] => s

/-- TB counts that some bits take at a rate (R322, R323): the bus clock, or REFCLK, cycles to their last boundary. -/
def bitsTime (s : State) (bits rate : Nat) : Nat :=
  if s.clk.busSrc = 1 then
    let (num, den) := refStep s.clk.refCode
    (s.time.frac + (roundDiv ((bits * countsPerSec * den : Nat)) (rate * num : Nat)).toNat * num) / den
  else (roundDiv ((bits * countsPerSec : Nat)) rate).toNat

/-- TB counts that a LEASH frame takes (R322, R328). -/
def frameTime (s : State) (len rate : Nat) : Nat := bitsTime s (10 * len) rate

/-- A LEASH frame goes out (R324, R330, R340, R343).
DESIGN CHOICE (log 121). -/
def sendLeash (s : State) (n : Nat) : State :=
  let c := contentOf s n
  let b := leashFrame s n c
  let p := s.lp n
  let (vals, flags) := contentVals s n (nchOf p.cfg) c
  let (conf, uns) := chanFlags s n (nchOf p.cfg)
  let mine := (frameCues s n).map (fun q => q.cseq)
  let cues := p.cues.map (fun q =>
    if mine.contains q.cseq then
      { q with first := some (q.first.getD s.time.k), sends := q.sends + 1 } else q)
  let newest := mine.foldl (fun (m : Option Nat) q =>
    match m with
    | none => some q
    | some x => some (if newer16 q x then q else x)) p.newestSent
  let entry := { seq := p.seq, tb := latchAt s n, acked := false, met := false }
  let p := { p with
    seq := (p.seq + 1) % 256, sent := (entry :: p.sent).take 8,
    kind := c.kind, cues := cues, newestSent := newest, line := b,
    busy := s.time.tb + frameTime s b.length (lshRate p.cfg) }
  let p := match c with
    | .aim => { p with vals := vals, flags := flags, conflict := conf, unsent := uns }
    | .held => { p with vals := vals, flags := flags }
    | .park => p
  pushPose (setLp s n p) n c

/-- The slots of a held DMX512-A packet (R324, R345): the last packet's, cut to N; those beyond it as the last
outputs fill them.
DESIGN CHOICE (log 180). -/
def heldPacket (s : State) (n : Nat) : List Byte :=
  let p := s.lp n
  let all := (dmxPacket s n (contentVals s n (nchOf p.cfg) .held).1).1
  zeros 1 ++ p.slots.take (dmxSlots p.cfg) ++ all.drop (1 + p.slots.length)

/-- A DMX512-A refresh (R324, R347 to R349): DMX_REFRESH.
DEDUCED (log 119). -/
def sendDmx (s : State) (n : Nat) : State :=
  let p := s.lp n
  if s.time.tb < p.busy + 6000 then bump s (lshReg n 0x3C)
  else
    let c := contentOf s n
    let nch := nchOf p.cfg
    let (b, ovl) := match c with
      | .held => (heldPacket s n, p.overlap)
      | _ => dmxPacket s n (contentVals s n nch c).1
    let (conf, uns) := chanFlags s n nch
    let p := { p with
      kind := c.kind, overlap := ovl, slots := b.drop 1, line := b, refresh := some s.time.k,
      busy := s.time.tb + bitsTime s (47 + 11 * (dmxSlots p.cfg + 1)) 250000 }
    let p := match c with
      | .aim => { p with conflict := conf, unsent := uns }
      | _ => p
    pushPose (setLp s n p) n c

/-- LEASH_LATCH (R20, R22, R303, R318, R324): once in a tick, at E + T + o, which comes before the edge
that opens the next tick; the transmission starts with the first cycle of its clock from there on (R322, R323).
DEDUCED (log 46). -/
def execLeashLatch (n : Nat) (s : State) : Host.Outcome State Fault Refusal :=
  .next (whenTick s fun s =>
    if n < 128 ∧ (s.lp n).latchTick ≠ some s.time.k then
      let t := latchAt s n
      let s := if (s.lp n).busy ≤ t then adoptCfg s n else s
      match modeIn (s.lp n).cfg with
      | 2 =>
        let s := checkMiss (reachCycle s t) n
        let s := setLp s n { s.lp n with latch := some t, latchTick := some s.time.k }
        if clkLow s n then s else sendLeash s n
      | 1 =>
        if lshMode s n = 1 ∧ refreshTick s n = true then
          let s := checkMiss (reachCycle s t) n
          let s := setLp s n { s.lp n with latch := some t, latchTick := some s.time.k }
          if clkLow s n then s else sendDmx s n
        else s
      | _ => s
    else s)

/-- LOSS_TICKS (R352). -/
def lossTicks (s : State) (n : Nat) : Nat := orIf (s.fc (lshReg n 0) 28 4) 1

/-- PARTNER_LOST (R334). -/
def execPartnerLost (n : Nat) (s : State) : Host.Outcome State Fault Refusal :=
  .next (whenAwake s fun s =>
    let p := s.lp n
    if n < 128 ∧ p.lost = false ∧ p.missNew = true ∧ lossTicks s n ≤ p.missed then
      let s := setLp s n { p with lost := true }
      barkEvent (logReg s 0x01 1 (lshReg n 8) (lshStatus s n) n) 4
    else s)

/-- CUE_RELEASE (R341): a processed CACK.
DEDUCED (log 122). -/
def processCack (s : State) (n cack : Nat) : State :=
  let p := s.lp n
  if cack = 0 then s
  else
    match (match p.newestSent with | some m => newer16 cack m | none => true) with
    | true => bump s (lshReg n 0x2C)
    | false =>
      let cur := s.fc (lshReg n 0x18) 0 16
      let s := if cur = 0 ∨ newer16 cack cur = true then setRegN s (lshReg n 0x18) cack else s
      setLp s n { p with cues := p.cues.filter (fun q =>
        decide (32768 ≤ (cack + 65536 - q.cseq) % 65536)) }

/-- The feedback of an ACK: positions by axis, in ascending axis order (R331). -/
def feedbackOf (mask : Nat) (bs : List Byte) : SMap Nat :=
  let as_ := (upto 5).filter (fun a => decide (mask / 2 ^ a % 2 = 1))
  (as_.zipIdx).map (fun (q : Nat × Nat) => (q.1, leAt bs (8 + 3 * q.2) 3))

/-- A valid ACK (R332 to R334); one that comes after its frame was counted does not end the run of counted frames.
DEDUCED (log 123). -/
def validAck (s : State) (n : Nat) (bs : List Byte) (f : SentFrame) : State :=
  let p := s.lp n
  let was := p.lost
  let s := setLp s n { p with
    sent := p.sent.map (fun g => if g.seq = f.seq then { g with acked := true } else g),
    missed := if f.met then p.missed else 0, missNew := false, lost := false }
  let s := if was then logReg s 0x01 0 (lshReg n 8) (lshStatus s n) n else s
  let s := setRegN s (lshReg n 0x1C) (leAt bs 2 1 * 256 + leAt bs 3 1)
  let s := processCack s n (leAt bs 4 2)
  let m := leAt bs 6 1
  if m = 0 then s
  else
    let h := s.hp n
    let fb := feedbackOf m bs
    setHp s n { h with
      newest := fb, fb := if h.state = .off then [] else h.fb ++ [(f.tb, fb)] }

/-- Bits set in FBMASK. -/
def maskCount (m : Nat) : Nat := ((upto 5).filter (fun a => decide (m / 2 ^ a % 2 = 1))).length

/-- LEASH_ACK (R320, R332): a frame received on LPn_RX. -/
def execLeashAck (n : Nat) (bs : List Byte) (framingOk : Bool) (s : State) :
    Host.Outcome State Fault Refusal :=
  .next (whenAwake s fun s =>
    let p := s.lp n
    let len := bs.length
    if 128 ≤ n ∨ modeIn p.cfg ≠ 2 ∨ ackEn p.cfg = false then s
    else if framingOk = false ∨ len < 2 ∨ crc16 (bs.take (len - 2)) ≠ leAt bs (len - 2) 2 then
      bump s (lshReg n 0x20)
    else if leAt bs 0 1 ≠ 0x61 ∨ leAt bs 1 1 ≠ n ∨ 32 ≤ leAt bs 6 1
        ∨ len ≠ 10 + 3 * maskCount (leAt bs 6 1) then bump s (lshReg n 0x24)
    else
      match p.sent.find? (fun f => decide (f.seq = leAt bs 2 1)) with
      | none => bump s (lshReg n 0x24)
      | some f => if f.acked then processCack s n (leAt bs 4 2) else validAck s n bs f)

/-- CUE_EXPIRED (R342): a cue outstanding CUE_TTL ticks after its first transmission.
DEDUCED (log 124). -/
def execCueExpired (n cseq : Nat) (s : State) : Host.Outcome State Fault Refusal :=
  .next (whenAwake s fun s =>
    let p := s.lp n
    let ttl := s.fc 0x108000 0 16
    match p.cues.find? (fun c => decide (c.cseq = cseq)) with
    | some c =>
      if n < 128 ∧ ttl ≠ 0 ∧ (c.first.any (fun k => decide (k + ttl ≤ s.time.k))) = true then
        let s := setLp s n { p with cues := p.cues.filter (fun c => decide (c.cseq ≠ cseq)) }
        logReg (bump s (lshReg n 0x34)) 0x06 1 (lshReg n 0x34) (n * 65536 + cseq) c.op
      else s
    | none => s)

/-- CUE_SENDS_DONE (R343): without acknowledgements a cue leaves after CUE_SENDS + 1 frames.
DEDUCED (log 124). -/
def execCueSendsDone (n cseq : Nat) (s : State) : Host.Outcome State Fault Refusal :=
  .next (whenAwake s fun s =>
    let p := s.lp n
    if n < 128 ∧ ackEn p.cfg = false then
      setLp s n { p with cues := p.cues.filter (fun c =>
        decide (c.cseq ≠ cseq ∨ c.sends ≤ field p.cfg 13 3)) }
    else s)

/-- A write of OP to LSH_CUE_OP[n] (R338, R339). -/
def cueOpWrite (s : State) (src : Src) (n op : Nat) : State :=
  let p := s.lp n
  let op := op % 256
  if op = 0 ∨ 128 ≤ n then s
  else if lshMode s n ≠ 2 ∨ s.fa (lshReg n 0) 9 3 = 0 ∨ 64 ≤ p.cues.length then bump s (lshReg n 0x30)
  else
    let c : Cue := { cseq := p.nextCseq, op := op, arg := BitVec.ofNat 32 (kenCopy s src (lshReg n 0x10)),
                     tb := s.time.tb, first := none, sends := 0 }
    setLp s n { p with cues := p.cues ++ [c], nextCseq := p.nextCseq % 65535 + 1 }

/-- LSH_CUE_OP (R338). -/
def execLshCueOp (src : Src) (n op : Nat) (s : State) : Host.Outcome State Fault Refusal :=
  .next (whenReg s fun s => cueOpWrite s src n op)

end Sys2Proof.Machine
end

