-- ==== Sys2Proof/Machine/Tick.lean ====
section
/-!
DEFINITION. The tick edge (R20 to R22, R85, R130, R150, R461): what closes with a tick, the commit,
the period, the plan and the clipped exposures of the tick that opens, and the four kinds of edge.
-/

namespace Sys2Proof.Machine

/-- A frame before anything is known of it. -/
def Frame.empty : Frame := State.resetFrame

/-- The frames that end with a tick on the META streams (R382): that of the log, and those of the statistics with no
record to come. -/
def endRecords (s : State) : State :=
  let s := endMeta s 10 (s.time.k % 2 ^ 32)
  (s.nlk.frames.filter (fun f => decide (1024 ≤ f.1))).foldl (fun s f =>
    if f.2.frame = s.time.k % 2 ^ 32 then s else endStats s f.2.frame) s

/-- The pulse of a TICK output in a tick of period T from E (R407, R408): it rises after the pin delay and one DELAY
modulo T, and lasts DIV bus counts or until one count before E + T; in 1/64 bus counts.
DESIGN CHOICE (log 202). -/
def tickPulse (o : ClkOut) (e t : Nat) : Option (Nat × Nat) :=
  let rise := 64 * e + clamp 432 720 Config.tickPin + o.delay % (64 * t)
  let fall := min (rise + 64 * o.div) (64 * (e + t - 1))
  if rise < fall then some (rise, fall) else none

/-- The longest period that the open tick can have (R22, R80): its own in FREE and GENLOCK, T_max otherwise. -/
def longestTick (s : State) : Nat := s.time.cmp - s.time.e

/-- The TICK outputs at an edge (R408): the pulse of the tick that opens. -/
def tickPulses (s : State) : State :=
  (upto 4).foldl (fun s i =>
    let o := s.out i
    if o.running = true ∧ o.src = 4 then setOut s i { o with pulse := tickPulse o s.time.e (longestTick s) }
    else s) s

/-- The TICK outputs at the end of a tick of length T (R408): its pulse, now that its period is known. -/
def closePulses (s : State) (len : Nat) : State :=
  (upto 4).foldl (fun s i =>
    let o := s.out i
    if o.running = true ∧ o.src = 4 ∧ o.pulse.isSome then
      setOut s i { o with lastPulse := tickPulse o s.time.e len }
    else s) s

/-- The tick that ends at an edge: its period (R75, R93), its TRIG1 interval (R82), and what the
auxiliary inputs and the pyramids keep of it.
DEDUCED (log 58). -/
def closeTick (s : State) (at_ : Nat) : State :=
  let len := at_ - s.time.e
  let s := setRegN s 0x04C218 len
  let g := if s.img.cur.mode = 3 then gateOf s 0 (ceilDiv len 32) else none
  let s := { s with img := { s.img with cur := { s.img.cur with period := len % 2 ^ 32, trig1 := g } } }
  endRecords (keepInsts (auxEdge (keepSizes (closePulses s len))))

/-- The commits of the open brackets, with the deferral bits of the new frame (R88). -/
def deferAll (s : State) (at_ : Nat) : (Bool × Bool × Bool) × State :=
  let (a, s) := deferOne at_ s .nlk
  let (b, s) := deferOne at_ s .mgb
  let (c, s) := deferOne at_ s .shp
  ((a, b, c), s)

/-- The temperatures sampled at an edge (R63, R223, R541).
DEDUCED (log 65). -/
def sampleTemps (s : State) (env : EdgeEnv) : State :=
  let tj := env.tj
  let max0 := BitVec.ofNat 16 (s.fc 0x130004 16 16)
  let mx := if s.fc 0x04C00C 16 1 = 0 ∨ max0.toInt < tj.toInt then tj else max0
  let s := setRegN s 0x130004 (mx.toNat * 65536 + tj.toNat)
  let s := setRegN s 0x04C00C (65536 + env.light.toNat)
  let hot := decide ((256 * tripTemp s : Nat) ≤ tj.toInt)
  let s := { s with sys := { s.sys with tripEdges := if hot then min 8 (s.sys.tripEdges + 1) else 0 } }
  thermalEdge s tj

/-- F_k of the tick that opens (R135, R591): without a plan the floor has no configured tile-row. -/
def floorNow (s : State) (first : Bool) : Nat :=
  if first || decide (s.sys.tier ≤ 1) || s.sys.rdoStopped then 33000
  else
    let p := s.img.cur.plan
    floorOf (slotCounts s.regs.prev) (configuredRows s.regs.prev (p.accepted ++ p.shedTiles)).length

/-- The floor is counted where it raises T_min, and logged when F_k has changed (R135, R590). -/
def raiseFloor (s : State) (f : Nat) : State :=
  if tminSet s < f then
    let s := bump s 0x060090
    if s.img.lastFloor = f then s
    else logReg { s with img := { s.img with lastFloor := f } } 0x02 0 0x060014 f 0
  else if s.img.lastFloor = f then s else { s with img := { s.img with lastFloor := 0 } }

/-- The period of the tick that opens at E, with the GENLOCK conditions that it enters or leaves
(R75 to R80, R99, R590).  The period before is that of the tick timer in FREE and GENLOCK, and the one that
has passed in the other modes.
DEDUCED (log 64). -/
def openPeriod (s : State) (e mode0 : Nat) (first : Bool) : State :=
  let last := if mode0 < 2 then s.time.t else e - s.time.e
  let f := floorNow s first
  let s := raiseFloor s f
  let tmin := max (tminSet s) f
  let enter := decide (edgeKind s = 1) && (first || decide (mode0 ≠ 1))
  let s := if enter then { s with time := { s.time with glMark := s.clk.pulse16 } } else s
  let old := (s.time.glHold, s.time.glSlew, s.time.glRange, s.time.glWait)
  let p := periodAt s e tmin last first
  let s := if p.clip then bump s 0x04C22C else s
  let s := { s with time := { s.time with
    e := e, t := p.t, cmp := p.cmp, tmin := tmin, tickOpen := true, glHold := p.hold,
    glSlew := p.slew, glRange := p.range, glWait := p.wait } }
  if old = (p.hold, p.slew, p.range, p.wait) then s
  else logReg s 0x01 1 0x04C214 (trigStatus s) 0

/-- The plan of the tick that opens, from the commits of its edge and of the edge before (R130 to R140,
R591), with the tracking-need rows of the last solve point of T3; T1 and a sequencer out of service have none.
DEDUCED (log 48). DESIGN CHOICE (log 172). -/
def planNow (s : State) (first : Bool) : Plan :=
  if s.sys.tier ≤ 1 ∨ s.sys.rdoStopped = true then { Plan.idle with floorRaised := decide (tminSet s < 33000) }
  else
    let p := s.img.cur.plan
    let cfg := if first then [] else configuredRows s.regs.prev (p.accepted ++ p.shedTiles)
    let due := s.cnv.due.isSome
    let patient := match s.cnv.due with
      | some n => decide (s.fc 0x060010 0 8 ≤ n)
      | none => false
    let q := makePlan s.regs.act s.regs.prev first cfg s.img.subjRows s.img.featRows due patient
      (s.time.t - 30000)
    { q with floorRaised := decide (tminSet s < q.floor) }

/-- The masks of clipped and of empty windows of a stream at a commit (R142, R153). -/
def winMasks (s : State) (therm st : Nat) : Nat × Nat :=
  let l := (upto 16).filterMap (fun w => (winOf s.regs.act therm st w).map (fun x => (w, x)))
  (((l.filter (fun p => p.2.clipped)).map (fun p => 2 ^ p.1)).sum,
   ((l.filter (fun p => p.2.empty)).map (fun p => 2 ^ p.1)).sum)

/-- Windows of a stream normalised at a commit: status and counter (R142, R153, R154). -/
def windowStatus (s : State) (st : Nat) : State :=
  let l := (upto 16).filterMap (winOf s.regs.act s.sys.thermStage st)
  let (c, e) := winMasks s s.sys.thermStage st
  bumpBy (setRegN s (0x060050 + 4 * st) (e * 65536 + c)) 0x060094
    (l.filter (fun x => x.clipped || x.empty)).length

/-- The plan's registers and counters (R150, R154).
DEDUCED (log 52). -/
def planRegs (s : State) (p : Plan) : State :=
  let shed := (p.passes.filter (fun q => q.shed)).length
  let m := rowMask p.rows
  let s := setRegN s 0x060014 p.floor
  let s := setRegN s 0x060018 (p.accepted.length * 2 ^ 19 + bit p.floorRaised * 2 ^ 18
    + bit p.obRun * 2 ^ 17 + shed * 2 ^ 12 + (p.passes.length - shed) * 2 ^ 7 + p.rows.length)
  let s := setRegN s 0x06001C p.endAt
  let s := setRegN (setRegN s 0x060020 (half m 0)) 0x060024 (half m 1)
  let s := bumpBy (bumpBy s 0x060080 shed) 0x060084 p.refused.length
  let s := bumpBy s 0x060088 p.needRefused.length
  let s := windowStatus (windowStatus s 0) 1
  if s.cnv.due.isSome && !p.obRun then refreshWaits (bump s 0x06008C) else s

/-- The frames move on: frame k + 1 opens with its plan and its clipped exposures (R20, R73, R176).
DEDUCED (log 60). DEDUCED (log 61). -/
def openFrameAt (s : State) (e : Nat) (first synth : Bool) (gl : Bool × Bool × Bool)
    (defer : Bool × Bool × Bool) (p : Plan) : State :=
  let on := decide (2 ≤ s.sys.tier) && !s.sys.rdoStopped
  let (tiles, clips, drops) := if on then clipAll s.regs.act p s.time.t else ([], 0, 0)
  let s := bumpBy (bumpBy s 0x04C120 clips) 0x04C124 drops
  let mode := tickMode s
  let f := { Frame.empty with
    k := s.time.k, tb := e, id := s.regs.settingsId, mode := mode,
    synth := synth || (first && decide (edgeKind s = 2)), glHold := gl.1, glSlew := gl.2.1,
    glRange := gl.2.2, deferNlk := defer.1, deferMgb := defer.2.1, deferShp := defer.2.2,
    therm := s.sys.thermStage, collar := decide (2 ≤ s.sys.tier), plan := p, tiles := tiles }
  let tm := slotCounts (if first then s.regs.act else s.regs.prev)
  { s with img := { s.img with
    prv := if first then Frame.empty else { s.img.cur with calGen := s.fc 0x050014 0 16 },
    cur := f, hist := (e, levelAt s.img.hist e) :: s.img.hist.filter (fun h => decide (e < h.1)),
    blocks := p.blocks tm (slotCounts s.regs.act),
    flushed := false, gateMiss := false, ended := false, wait := [] } }

/-- The links in use begin training at the first tick edge of a start that has reached T2 (R360, R365, R394, R459). -/
def startLinks (s : State) : State :=
  if s.sys.tier ≤ 1 then s
  else (upto 2).foldl (fun s l =>
    if linkUsed s l then setLink s l { s.link l with
      state := if s.clk.sLock then .training else .down, retry := !s.clk.sLock, fresh := true }
    else s) s

/-- The watchdog at an edge (R538): edges without service are counted.
DEDUCED (log 145). -/
def watchdogEdge (s : State) (first : Bool) (env : EdgeEnv) : State :=
  { s with sys := { s.sys with wdMissed := if first || env.served then 0 else min 4 (s.sys.wdMissed + 1) } }

/-- The confirmation window at an edge: it and its checks start at E₀, from where uncorrectable errors count
(R500, R552), and it loses a tick at each later edge.  A check that has failed when it starts reverts the bank (R501).
DEDUCED (log 194). -/
def windowTick (s : State) (first : Bool) : State :=
  if first then
    let s := { s with sys := { s.sys with uncorr := false } }
    if s.upd.state = 5 then
      if s.sys.fell || !s.ptr.healthy then confirmFails s
      else { s with upd := { s.upd with checksOk := true } }
    else s
  else { s with upd := { s.upd with confirmLeft := s.upd.confirmLeft - 1 } }

/-- The first edge of a start (R411, R459): what was held off until it begins. -/
def beginRun (s : State) : State := startLinks (startOuts s)

/-- The effects of an edge at which a tick opens (R21); the Collar of its frame shows the GENLOCK conditions as they
stood when the edge came.
DESIGN CHOICE (log 109). -/
def edgeEffects (first synth : Bool) (at_ : Nat) (env : EdgeEnv) (s : State) : State :=
  let s := if first then s else closeTick s at_
  let s := correctedWords (correctedWords s false env.ceSram) true env.ceEdram
  let mode0 := s.img.cur.mode
  let (defer, s) := deferAll s at_
  let k := if first then 0 else s.time.k + 1
  let s := { s with sys := { s.sys with phase := .run, edgeSeen := true },
                    time := { s.time with k := k, madeBy := if first then tickMode s else mode0 } }
  let s := if first then beginRun s else s
  let s := commitRegs s first at_
  let s := if first then s else auxCommit (refreshEdge s)
  let s := watchdogEdge (sampleTemps s env) first env
  let gl := (s.time.glHold, s.time.glSlew, s.time.glRange)
  let s := openPeriod s at_ mode0 first
  let s := if first then { s with time := { s.time with madeBy := tickMode s } } else s
  let s := tickPulses s
  let p := planNow s first
  let s := planRegs s p
  let s := openFrameAt s at_ first synth gl defer p
  let s := stampTc s at_
  let s := if 2 ≤ s.sys.tier then openPyramids s else s
  let s := if 2 ≤ s.sys.tier ∧ first = false then openBank s else s
  let s := windowTick s first
  ptrEdge (kennelEdge (leashEdge (heelEdge s)))

/-- A tick opens at an edge (R21), in one bus cycle.
DEDUCED (log 62). DESIGN CHOICE (log 179). -/
def openTick (first synth : Bool) (at_ : Nat) (env : EdgeEnv) (s : State) : State :=
  inCycle (reach s at_) (edgeEffects first synth at_ env)

/-- A tick is open and its edge can come: no tick opens while the clock is slow (R432).
DEDUCED (log 59). -/
def edgeDue (s : State) : Bool :=
  decide (s.sys.phase = .run) && s.time.tickOpen && !s.time.slow

/-- TICK_EDGE (R21, R429, R430): the match of the tick timer in FREE and GENLOCK.
DEDUCED (log 59). -/
def execTickEdge (env : EdgeEnv) (s : State) : Host.Outcome State Fault Refusal :=
  .next (if edgeDue s && decide (s.img.cur.mode < 2) then openTick false false s.time.cmp env s else s)

/-- A pin change is a TRIG0 edge (R79): to the active level, which stays for TRIG0_FILT bus counts. -/
def isTrig0 (s : State) (high : Bool) (held : Nat) : Bool :=
  decide (s.fa 0x04C200 2 1 = 0) == high && decide (s.fc 0x04C20C 0 10 ≤ held)

/-- TRIG0_EDGE (R79, R80): the tick edge follows the pin by the path delay; an early one is ignored and
counted; from T_min to T_max it opens the tick.
DEDUCED (log 59). -/
def execTrig0Edge (pin : PinEdge) (env : EdgeEnv) (s : State) : Host.Outcome State Fault Refusal :=
  .next (if edgeDue s && decide (2 ≤ s.img.cur.mode) && isTrig0 s pin.level.high pin.level.held then
      let t := pin.at_ + trigDelay (s.fc 0x04C20C 0 10) pin.level.slip
      if t < s.time.e + s.time.tmin then bump (reach s t) 0x04C220
      else if t ≤ s.time.cmp then openTick false false t env s else s
    else s)

/-- SYNTHETIC_EDGE (R80): at T_max without a TRIG0 edge.
DEDUCED (log 59). -/
def execSyntheticEdge (env : EdgeEnv) (s : State) : Host.Outcome State Fault Refusal :=
  .next (if edgeDue s && decide (2 ≤ s.img.cur.mode) then
      openTick false true s.time.cmp env (bump s 0x04C224)
    else s)

/-- FIRST_TICK_EDGE (R461): tick 0 of a start.
DEDUCED (log 60). -/
def execFirstTickEdge (env : EdgeEnv) (s : State) : Host.Outcome State Fault Refusal :=
  .next (if s.sys.phase = .waitFirst ∧ s.time.slow = false then openTick true false s.time.cmp env s else s)

end Sys2Proof.Machine
end

