-- ==== Sys2Proof/Machine/Timers.lean ====
section
/-!
DEFINITION. The general timers GT0 to GT7 (R422 to R428, R436 to R438).
-/

namespace Sys2Proof.Machine

/-- Control register of timer n (R436). -/
def gtCtrl (n : Nat) : Nat := 0x018100 + 0x20 * n

/-- A source may write timer n (R428). -/
def gtWritable (src : Src) (n : Nat) : Bool := decide (n < 8 ∧ (4 ≤ n ∨ src = .shp))

/-- The compare after a fire at `count`, and the points skipped: one addition, and the catch-up of a
past compare (R422). -/
def nextCompare (compare interval count : Nat) : Nat × Nat :=
  let c := compare + interval
  if c ≤ count then
    let m := (count - c) / interval + 1
    (c + m * interval, m)
  else (c, 0)

/-- TB as its 64-bit counter holds it (R420). -/
def State.tb64 (s : State) : Nat := s.time.tb % 2 ^ 64

/-- The interval that an addition in this bus cycle uses: as it stood at the end of the cycle before (R422,
R424). -/
def gtInterval (s : State) (n : Nat) : Nat :=
  match (s.timer n).ivOld with
  | some (t, v) => if t = s.time.tb then v else (s.cur (gtCtrl n + 4)).toNat
  | none => (s.cur (gtCtrl n + 4)).toNat

/-- The timer has fired in this bus cycle: it fires once in a cycle (R422). -/
def gtFired (s : State) (n : Nat) : Bool := (s.timer n).fired.any (fun f => decide (f.tb = s.time.tb))

/-- What an armed timer does in a bus cycle (R422): when its count has reached COMPARE it fires, and
interrupts the Shepherd if IE is set, on the slow clock when the Shepherd runs again (R431).
DESIGN CHOICE (log 5). -/
def gtCycle (s : State) (n : Nat) : State :=
  let t := s.timer n
  let count := s.tb64 / 2 ^ t.presc
  if s.fc (gtCtrl n) 0 1 = 1 ∧ t.armed = true ∧ t.compare ≤ count ∧ gtFired s n = false then
    let interval := gtInterval s n
    let old : GtFire := ⟨s.time.tb, t.compare, t.armed, decide (s.fc 0x018200 n 1 = 1),
      decide (field s.clk.irq n 1 = 1), s.cur (gtCtrl n + 0x14)⟩
    let t := { t with fired := some old }
    let s := setReg s 0x018200 (s.cur 0x018200 ||| BitVec.ofNat 32 (2 ^ n))
    let s := if s.fc (gtCtrl n) 1 1 = 1 ∧ s.time.slow = false then
        { s with clk := { s.clk with irq := s.clk.irq ||| BitVec.ofNat 32 (2 ^ n) } }
      else s
    if interval = 0 then setTimer s n { t with armed := false }
    else
      let (c, m) := nextCompare t.compare interval count
      bumpBy (setTimer s n { t with compare := c % 2 ^ 64 }) (gtCtrl n + 0x14) m
  else s

/-- The instant at which TB reaches a value of its 64 bits: now when it is past (R420, R422). -/
def whenTb (s : State) (v : Nat) : Nat := s.time.tb + (v - s.tb64)

/-- TIMER_FIRE (R422): the clock reaches the compare of an armed timer. -/
def execTimerFire (n : Nat) (s : State) : Host.Outcome State Fault Refusal :=
  .next (whenReg s fun s =>
    let t := s.timer n
    if n < 8 ∧ s.fc (gtCtrl n) 0 1 = 1 ∧ t.armed = true then
      gtCycle (reachCycle s (whenTb s (t.compare * 2 ^ t.presc))) n
    else s)

/-- A write of INTERVAL (R424): the interval before this bus cycle is kept for an addition in it. -/
def gtIntervalWrite (s : State) (src : Src) (n : Nat) (v : Word) : State :=
  if gtWritable src n then
    setReg (setTimer s n { s.timer n with ivOld := some (s.time.tb, gtInterval s n) }) (gtCtrl n + 4) v
  else s

/-- A write of PEND (R426, R438): a bit whose timer fires in this bus cycle stays. -/
def gtPendWrite (s : State) (src : Src) (v : Word) : State :=
  (upto 8).foldl (fun s n =>
    if field v n 1 = 1 ∧ gtWritable src n = true ∧ gtFired s n = false then
      let s := setFld s 0x018200 n 1 0
      { s with clk := { s.clk with irq := setField s.clk.irq n 1 0 } }
    else s) s

/-- A write of TMR_TICK_INTERVAL (R424, R429): the interval before this bus cycle is kept for an edge in
it. -/
def tickIntervalWrite (s : State) (v : Word) : State :=
  setReg { s with time := { s.time with ivOld := some (s.time.tb, tickInterval s) } } 0x018040 v

/-- A write of COMPARE_LO (R423, R425, R426): an old match that is due fires first; in the cycle after the write the
whole compare is applied, and a passed one fires. -/
def gtCompareLo (s : State) (src : Src) (n : Nat) (v : Word) : State :=
  if gtWritable src n then
    let s := clockCycle (gtCycle s n)
    let t := s.timer n
    let hi := match t.heldHi with
      | some h => h.toNat
      | none => t.compare / 2 ^ 32
    gtCycle (setTimer s n { t with compare := hi * 2 ^ 32 + v.toNat, heldHi := none, armed := true }) n
  else s

/-- A write of COMPARE_HI is held (R425). -/
def gtCompareHi (s : State) (src : Src) (n : Nat) (v : Word) : State :=
  if gtWritable src n then setTimer s n { s.timer n with heldHi := some v } else s

/-- A timer that is disabled in the cycle of its match has not fired (R426). -/
def gtUnfire (s : State) (n : Nat) : State :=
  let t := s.timer n
  match t.fired with
  | some f =>
    if f.tb = s.time.tb then
      let s := setReg (setFld s 0x018200 n 1 (bit f.pend)) (gtCtrl n + 0x14) f.missed
      let s := { s with clk := { s.clk with irq := setField s.clk.irq n 1 (bit f.irq) } }
      setTimer s n { t with compare := f.compare, armed := f.armed, fired := none }
    else s
  | none => s

/-- A write of GT_CTRL (R423, R426, R427): PRESC is applied when EN changes from 0 to 1, and a compare that has passed
fires in the cycle after; a match in the cycle in which EN is cleared does not fire.
DEDUCED (log 139). -/
def gtControl (s : State) (src : Src) (n : Nat) (v : Word) : State :=
  if gtWritable src n then
    let was := decide (s.fc (gtCtrl n) 0 1 = 1)
    let s := setReg s (gtCtrl n) (v &&& 0xF0003)
    if !was && decide (s.fc (gtCtrl n) 0 1 = 1) then
      gtCycle (clockCycle (setTimer s n { s.timer n with presc := s.fc (gtCtrl n) 16 4, armed := true })) n
    else if was && decide (s.fc (gtCtrl n) 0 1 = 0) then gtUnfire s n
    else s
  else s

/-- GT_COMPARE_LO (R425). -/
def execGtCompareLo (src : Src) (n : Nat) (v : Word) (s : State) : Host.Outcome State Fault Refusal :=
  .next (whenReg s fun s => gtCompareLo s src n v)

/-- GT_ENABLE (R423, R427). -/
def execGtEnable (src : Src) (n : Nat) (v : Word) (s : State) : Host.Outcome State Fault Refusal :=
  .next (whenReg s fun s => gtControl s src n (v ||| 1))

end Sys2Proof.Machine
end

