-- ==== Sys2Proof/Machine/RegFile.lean ====
section
/-!
DEFINITION. Register accesses (R10 to R18, R85 to R87, R428): what a read returns to a source, what it
does to a counter, and what a write does, by access code, effect class and register.
-/

namespace Sys2Proof.Machine

/-- The register has one copy per source (R254, R338). -/
def isCopied (a : Nat) : Bool :=
  decide (a = 0x0B0040 ∨ a = 0x0B0044 ∨ a = 0x0B0048) || (elem a 0x100010 0x100 128).isSome

/-- Words of the imaging, tracking and aim units that are views of other state.
DEDUCED (log 138). -/
def dynUnits (s : State) (a : Nat) : Option Nat :=
  match a with
  | 0x000020 => some (topPyr s)
  | 0x050008 => some (s.fc a 0 3 + 8 * bit s.cnv.due.isSome + 16 * s.cnv.nextGain)
  | 0x090008 => some (auxStatus s 0)
  | 0x090408 => some (auxStatus s 1)
  | 0x0A0004 => some (s.fc a 1 3 * 2 + bit s.ae.running.isSome + 16 * s.sys.thermStage)
  | 0x0B0050 => some s.ken.cmds.length
  | 0x0B0054 => some (kenStatus s)
  | 0x0B0058 => some (liveFeatures s).length
  | 0x0C0020 => some (ptrStatus s)
  | 0x0C0024 => some (ptrRetired s 0)
  | 0x0C0028 => some (ptrRetired s 1)
  | 0x0C002C => some (ptrRetired s 2)
  | 0x0D0008 => some (scentValid s)
  | 0x030104 => some (updStatus s (updComplete s))
  | 0x030110 => some (markedUnits s)
  | 0x030114 => some (verifyPos s)
  | _ =>
    match elem a 0x034000 4 4096 with
    | some n => some (updBitmap s n)
    | none =>
      match elem a 0x020100 4 16 with
      | some i => some (leAt s.otp.challenge (4 * i) 4)
      | none =>
        match elem a 0x100008 0x100 128 with
        | some n => some (lshStatus s n)
        | none => (elem a 0x10000C 0x100 128).map (cueStatus s)

/-- AUX_BIND with its status bits (R207). -/
def bindView (s : State) (b : Nat) (w : Word) : Word :=
  setField (setField w 31 1 (bit (decide (b = 1) && bindDup s))) 30 1 (bit (s.aux.missing.contains b))

/-- The register of a source before any view: staged tick-edge fields come first (R87). -/
def stagedView (s : State) (src : Src) (a : Nat) : Word :=
  match s.regs.staged src with
  | none => s.cur a
  | some g =>
    match g.find? (fun x => decide (x.1 = a)) with
    | none => s.cur a
    | some (_, mask, v) => (s.cur a &&& ~~~mask) ||| (v &&& mask)

/-- What a register reads to a source (R11, R13, R87). -/
def readWord (s : State) (src : Src) (a : Nat) : Word :=
  match (dynTop s a).orElse fun _ => (dynSys s a).orElse fun _ => dynUnits s a with
  | some v => BitVec.ofNat 32 v
  | none =>
    if isCopied a then BitVec.ofNat 32 (kenCopy s src a)
    else if 0x021000 ≤ a ∧ a < 0x022000 ∧ a % 4 = 0 then
      BitVec.ofNat 32 (otpData s src ((a - 0x021000) / 0x40) ((a - 0x021000) % 0x40 / 4))
    else
      match elem a 0x090800 0x10 2 with
      | some b => bindView s b (stagedView s src a)
      | none => stagedView s src a

/-- A read subtracts what it returned from an RC field (R11); an address that no register occupies reads
0 (R13).
DEDUCED (log 159). -/
def readReg (s : State) (src : Src) (a : Nat) : Word × State :=
  let v := readWord s src a
  match descOf a with
  | some d => if d.rc then (v, setReg s a 0) else (v, s)
  | none => (0, s)

/-- The registers whose write is a command: nothing is stored. -/
def isCommand (a : Nat) : Bool :=
  decide (a ∈ [0x04C100, 0x0B0034, 0x0B004C, 0x020044, 0x020080, 0x030100, 0x030208])
    || (elem a 0x100014 0x100 128).isSome

/-- A write of a source is refused by an access restriction (R13): the timers of the Shepherd (R428), the
block registers of the management bus (R490), locked PLL-G registers (R415), and the fuse address while
BUSY (R519). -/
def isLocked (s : State) (src : Src) (a : Nat) : Bool :=
  if 0x018100 ≤ a ∧ a < 0x018200 then !gtWritable src ((a - 0x018100) / 0x20)
  else if (0x030200 ≤ a ∧ a ≤ 0x030208) ∨ (0x030280 ≤ a ∧ a < 0x030300) then decide (src ≠ .mgb)
  else if gMask a ≠ 0 then cleanUse s
  else decide (a = 0x020040) && s.otp.progBusy

/-- A write finds nothing that it may change: an unoccupied address, read-only fields, or a lock (R13). -/
def isRefused (s : State) (src : Src) (a : Nat) : Bool :=
  match descOf a with
  | none => true
  | some d =>
    isLocked s src a || (!isCommand a && decide (d.imm = 0 ∧ d.tick = 0 ∧ d.held = 0 ∧ d.w1c = 0))

/-- A register takes a write by its access codes and effect classes (R11, R12, R14, R86, R89). -/
def plainWrite (s : State) (src : Src) (a : Nat) (v : Word) : State :=
  match descOf a with
  | none => s
  | some d =>
    let imm := BitVec.ofNat 32 d.imm
    let tick := BitVec.ofNat 32 d.tick
    let held := BitVec.ofNat 32 d.held
    let w1c := BitVec.ofNat 32 d.w1c
    let s := setReg s a ((((s.cur a) &&& ~~~imm) ||| (v &&& imm)) &&& ~~~(v &&& w1c))
    let s := if held = 0 then s
      else { s with sys := { s.sys with held := stageWord s.sys.held a held v } }
    if tick = 0 then s
    else
      match s.regs.staged src with
      | some g =>
        { s with regs := s.regs.setStaged src (some (stageWord g a tick v)) (s.regs.commits src) }
      | none => landWord s (a, tick, v)

/-- A copied register takes the write of a source (R254, R338). -/
def copyWrite (s : State) (src : Src) (a : Nat) (v : Word) : State :=
  match src with
  | .nlk => setReg s a v
  | .mgb => { s with regs := { s.regs with mgbCopy := mput 0 s.regs.mgbCopy a v } }
  | .shp => { s with regs := { s.regs with shpCopy := mput 0 s.regs.shpCopy a v } }

/-- PEND bits written 1 are cleared with the count and the count last sent of their code; a code that has occurred in
this cycle stays pending with a count of 1 (R449). -/
def pendClear (s : State) (mask : Nat) : State :=
  let hit := fun (i : Nat) => decide (mask / 2 ^ i % 2 = 1)
  let now := fun (i : Nat) => decide (mget 0 s.mgb.seen i = s.time.tb + 1)
  let kept := (upto 7).foldl (fun m i => if now i then m + 2 ^ i else m) 0
  let s := setReg s 0x120010 (s.cur 0x120010 &&& ~~~(BitVec.ofNat 32 (mask % 128) &&& ~~~(BitVec.ofNat 32 kept)))
  { s with mgb := { s.mgb with
    cnt := (s.mgb.cnt.filter (fun p => !hit p.1 || now p.1)).map (fun p => if hit p.1 then (p.1, 1) else p),
    sent := s.mgb.sent.filter (fun p => !hit p.1) } }

/-- A start clears every PEND bit and count (R452). -/
def pendReset (s : State) : State :=
  let s := setReg s 0x120010 0
  { s with mgb := { s.mgb with cnt := [], sent := [], seen := [], abandoned := [] } }

/-- LATENCY of a fixture is written: its lead correction becomes 0 (R304).
DEDUCED (log 117). -/
def latencyWrite (s : State) (n : Nat) : State := setHp s n { s.hp n with lead := 0 }

/-- The registers of arrays whose write does more than store. -/
def arrayWrite (s : State) (src : Src) (a : Nat) (v : Word) : State :=
  match a / 0x8000 with
  | 2 =>
    if gMask a ≠ 0 then gWrite s a v
    else
      match elem a 0x010100 0x10 4, elem a 0x010104 0x10 4, elem a 0x010108 0x10 4, elem a 0x010060 4 3 with
      | some i, _, _, _ => outWrite s i 0 v
      | _, some i, _, _ => outWrite s i 1 v
      | _, _, some i, _ => outWrite s i 2 v
      | _, _, _, some 0 => ldWrite s .c v
      | _, _, _, some 1 => ldWrite s .s v
      | _, _, _, some _ => ldWrite s .g v
      | _, _, _, _ => plainWrite s src a v
  | 3 =>
    match elem a 0x018100 0x20 8, elem a 0x018108 0x20 8, elem a 0x01810C 0x20 8, elem a 0x018104 0x20 8 with
    | some n, _, _, _ => gtControl s src n v
    | _, some n, _, _ => gtCompareHi s src n v
    | _, _, some n, _ => gtCompareLo s src n v
    | _, _, _, some n => gtIntervalWrite s src n v
    | _, _, _, _ => plainWrite s src a v
  | 18 =>
    match elem a 0x090000 0x400 2 with
    | some p => auxCtrlWrite s p v
    | none => plainWrite s src a v
  | 20 =>
    match elem a 0x0A0400 4 96 with
    | some n => aeMaskWrite s n v
    | none => plainWrite s src a v
  | 28 =>
    match elem a 0x0E0038 0x100 128 with
    | some n => latencyWrite (plainWrite s src a v) n
    | none => plainWrite s src a v
  | 32 =>
    match elem a 0x100014 0x100 128 with
    | some n => cueOpWrite s src n (field v 0 8)
    | none => plainWrite s src a v
  | _ => plainWrite s src a v

/-- A write arrives at the register file (R18). The debug response is taken up by the ROM alone. -/
def writeReg (s : State) (src : Src) (a : Nat) (v : Word) : State :=
  if isRefused s src a then s
  else if isCopied a then copyWrite s src a v
  else
    match a with
    | 0x04C100 => expSet s src v
    | 0x050000 =>
      let s := plainWrite s src a v
      if field v 2 1 = 1 then refreshNow s else s
    | 0x0A0000 => aeCtrlWrite s v
    | 0x0B0034 => queueCmd s (.cueGo (field v 0 8))
    | 0x0B004C => kenOpWrite s src v
    | 0x018040 => tickIntervalWrite s v
    | 0x018200 => gtPendWrite s src v
    | 0x020044 => progGo s v none
    | 0x020080 => if field v 0 1 = 1 then { s with otp := { s.otp with latch := true } } else s
    | 0x030100 => updCommand s v
    | 0x030208 => if field v 0 1 = 1 then mbGo s none else s
    | 0x110000 =>
      let s := plainWrite s src a v
      let s := if field v 2 1 = 1 then retrain s 0 else s
      if field v 3 1 = 1 then retrain s 1 else s
    | 0x120010 => pendClear s (field v 0 7)
    | 0x130050 => archiveRead s (field v 0 17)
    | _ => arrayWrite s src a v

/-- RC_READ (R11): the counter's read subtracts the value it returned. -/
def execRcRead (src : Src) (a : Nat) (s : State) : Host.Outcome State Fault Refusal :=
  .next (whenReg s fun s =>
    let (v, s) := readReg s src a
    { s with regs := { s.regs with lastRead := v } })

/-- BARK_PEND_CLEAR (R449). -/
def execBarkPendClear (_src : Src) (mask : BitVec 7) (s : State) : Host.Outcome State Fault Refusal :=
  .next (whenReg s fun s => pendClear s mask.toNat)

end Sys2Proof.Machine
end

