-- ==== Sys2Proof/Machine/Image.lean ====
section
/-!
DEFINITION. The Evanaok configuration image (R470 to R476): checks, selection of a copy, and the
records.
-/

namespace Sys2Proof.Machine

/-- Flash address of a configuration copy: 0 A, 1 B (R466). -/
def cfgBase (c : Nat) : Nat := 0x100000 * (1 + c)

/-- A record of the image (R471). -/
structure CfgRec where
  type : Nat
  critical : Bool
  body : List Byte
  crcOk : Bool
deriving DecidableEq, Repr

/-- The records of an image (R471, R472): whether one runs past LENGTH, the records found, and whether
they end exactly at LENGTH.
DEDUCED (log 26). -/
def parseRecs (b : List Byte) (len : Nat) : Nat → Nat → List CfgRec → Bool × List CfgRec × Bool
  | 0, p, acc => (false, acc.reverse, decide (p = len))
  | n + 1, p, acc =>
    if len ≤ p then (false, acc.reverse, decide (p = len))
    else if len < p + 8 then (false, acc.reverse, false)
    else
      let blen := leAt b (p + 4) 4
      let size := 8 + (blen + 3) / 4 * 4
      if len < p + size + 4 then (true, acc.reverse, false)
      else
        let r := (b.drop p).take size
        let x : CfgRec :=
          { type := leAt r 0 2, critical := decide (leAt r 2 2 % 2 = 1), body := (r.drop 8).take blen,
            crcOk := decide (leAt b (p + size) 4 = crc32c r) }
        parseRecs b len n (p + size + 4) (x :: acc)

/-- The record types of R474. -/
def knownType (t : Nat) : Bool := decide (t ∈ [0x0001, 0x0002, 0x0010, 0x0011, 0x0012, 0x0020])

/-- The records of an image of LENGTH bytes. -/
def imageRecs (b : List Byte) : Bool × List CfgRec × Bool :=
  parseRecs b (leAt b 12 4) (leAt b 12 4 / 12 + 1) 64 []

/-- IMAGE_VALIDATE (R472): the first check that a copy fails, or 0.
DEDUCED (log 26). -/
def imageCheck (readOk : Bool) (b : List Byte) : Nat :=
  let len := leAt b 12 4
  if !readOk then 1
  else if ¬(leAt b 0 4 = 0x4B4E5645 ∧ leAt b 4 2 = 1 ∧ leAt b 6 2 = 64) then 2
  else if leAt b 20 2 ≠ 0x8160 then 3
  else if ¬(72 ≤ len ∧ len ≤ 1048576 ∧ len % 4 = 0) then 4
  else if leAt b 60 4 ≠ crc32c (b.take 60 ++ zeros 4 ++ (b.take len).drop 64) then 5
  else
    let (past, rs, ends) := imageRecs b
    if past then 6
    else if rs.any (fun r => !r.crcOk) then 7
    else if ends = false ∨ rs.length ≠ leAt b 16 4 then 8
    else if rs.any (fun r => r.critical && !knownType r.type) then 9
    else 0

/-- The bytes of a configuration copy: its LENGTH, where that is in range. -/
def copyBytes (s : State) (c : Nat) : List Byte :=
  let h := flashBytes s (cfgBase c) 64
  let len := leAt h 12 4
  if len ≤ 1048576 then flashBytes s (cfgBase c) (max 64 len) else h

/-- CONFIG_COPY_SELECT (R472, R473): the codes of BOOT_CFG_ERR, and the copy in use with its bytes.
DEDUCED (log 25). -/
def selectCopy (s : State) (readA readB : Bool) : (Nat × Nat) × Option (Nat × List Byte) :=
  let a := copyBytes s 0
  let b := copyBytes s 1
  let ea := imageCheck readA a
  let eb := imageCheck readB b
  if leAt a 8 4 < leAt b 8 4 then
    if eb = 0 then ((0, 0), some (1, b)) else ((ea, eb), if ea = 0 then some (0, a) else none)
  else if ea = 0 then ((0, 0), some (0, a))
  else ((ea, eb), if eb = 0 then some (1, b) else none)

/-- HOLDUP_RECORD_APPLY (R474, R475, R483).
DEDUCED (log 28). -/
def applyHoldup (s : State) (b : List Byte) : State :=
  let s := setRegN s 0x030020 (leAt b 0 4)
  let s := setRegN s 0x030024 (leAt b 6 2 * 65536 + leAt b 4 2)
  let s := setRegN (setRegN s 0x030028 (leAt b 8 4)) 0x03002C (leAt b 12 4)
  setRegN s 0x030030 (leAt b 16 1)

/-- Addresses at which register records act in a ROM-only start (R474).
DEDUCED (log 27). -/
def romAllowed (a : Nat) : Bool := decide (blockOf a ∈ [0x00, 0x03, 0x06, 0x20, 0x24, 0x26])

/-- A register write of the configuration (R14, R475): a Shepherd write; its restart-class fields act in
this start; a refused one is counted.
DEDUCED (log 32). -/
def cfgWrite (rom : Bool) (s : State) (a : Nat) (v : Word) : State :=
  if rom && !romAllowed a then s
  else if isRefused s .shp a then bump s 0x030084
  else
    let held := s.sys.held
    let s := writeReg s .shp a v
    match descOf a with
    | none => s
    | some d =>
      if d.held = 0 then s
      else
        let m := BitVec.ofNat 32 d.held
        setReg { s with sys := { s.sys with held := held } } a ((s.cur a &&& ~~~m) ||| (v &&& m))

/-- A word of a record body.
DEDUCED (log 28). -/
def bodyWord (b : List Byte) (i : Nat) : Word := BitVec.ofNat 32 (leAt b (4 * i) 4)

/-- CUE_ENTRY_LOAD (R476): one 48-byte entry. -/
def loadCue (s : State) (b : List Byte) : State :=
  let cue := leAt b 0 1
  let trig := leAt b 1 1
  if 2 < trig then s
  else if s.ken.cues.any (fun c => decide (c.cue = cue)) then bump s 0x030088
  else
    let d : Seed :=
      { cls := leAt b 2 1, source := leAt b 3 1, flags := leAt b 4 1 % 8, frame := 0,
        x := sgn 32 (leAt b 8 4), y := sgn 32 (leAt b 12 4), w := leAt b 16 2, h := leAt b 18 2,
        tag := leAt b 20 4, label := leAt b 24 2, height := leAt b 26 2, slot := leAt b 28 4,
        groups := leAt b 32 8 }
    { s with ken := { s.ken with cues := s.ken.cues ++
      [{ cue := cue, trigger := trig, seed := d, tcTime := leAt b 40 4, tcWindow := leAt b 44 2,
         armed := true }] } }

/-- Snapshots written to the album of a slot, with HOST set (R250, R252). -/
def putSnaps (s : State) (slot : Nat) : Nat → Nat → List Byte → State
  | 0, _, _ => s
  | n + 1, i, b =>
    if b.length < 64 then s
    else
      let x := Snap.ofBytes (b.take 64)
      putSnaps (setSnap s slot i { x with flags := x.flags % 4 + 4 }) slot n (i + 1) (b.drop 64)

/-- One record applied at step 6 (R474, R475); DEFECT records are taken together.
DEDUCED (log 27). DEDUCED (log 31). -/
def applyRec (rom : Bool) (s : State) (r : CfgRec) : State :=
  match r.type with
  | 0x0001 =>
    (upto (r.body.length / 8)).foldl (fun s i =>
      cfgWrite rom s ((bodyWord r.body (2 * i)).toNat % 2 ^ 24) (bodyWord r.body (2 * i + 1))) s
  | 0x0002 =>
    (upto (r.body.length / 4 - 1)).foldl (fun s i =>
      cfgWrite rom s ((leAt r.body 0 4) % 2 ^ 24 + 4 * i) (bodyWord r.body (i + 1))) s
  | 0x0011 =>
    if rom then s
    else (upto (r.body.length / 48)).foldl (fun s i => loadCue s ((r.body.drop (48 * i)).take 48)) s
  | 0x0012 =>
    if rom then s
    else
      let slot := leAt r.body 0 4
      if subjSlots s ≤ slot then bump s 0x0B00A0 else putSnaps s slot 64 0 (r.body.drop 8)
  | 0x0020 => s
  | 0x0010 => s
  | _ => bump s 0x030080

/-- One defect-list entry (R160): accepted when in range and greater than the last accepted one.
DEDUCED (log 29). -/
def loadDefect (acc : State × Option Nat × Nat) (w : Word) : State × Option Nat × Nat :=
  let (s, last, n) := acc
  let y := field w 13 13
  let key := 8192 * y + field w 0 13
  if 65536 ≤ n then acc
  else if 6143 < y ∨ last.any (fun l => decide (key ≤ l)) then (bump s 0x0700D0, last, n)
  else
    ({ s with stat := { s.stat with defects := put s.stat.defects key (field w 26 2) } }, some key, n + 1)

/-- The defect list of an image, in image order (R160, R185). -/
def loadDefects (s : State) (rs : List CfgRec) : State :=
  let ws := (rs.filter (fun r => decide (r.type = 0x0010))).flatMap (fun r =>
    (upto (r.body.length / 4)).map (bodyWord r.body))
  let (s, _, n) := ws.foldl loadDefect (s, none, 0)
  setRegN s 0x0700C0 n

/-- CONFIG_RECORDS_APPLY (R14, R475): the records in image order, then the held restart-class values, which
are discarded once applied.
DEDUCED (log 30). -/
def applyRecords (rom : Bool) (s : State) (rs : List CfgRec) : State :=
  let s := rs.foldl (applyRec rom) s
  let s := if rom then s else loadDefects s rs
  let s := s.sys.applying.foldl (fun s (q : Nat × Word × Word) =>
    setReg s q.1 ((s.cur q.1 &&& ~~~q.2.1) ||| (q.2.2 &&& q.2.1))) s
  if s.sys.applying = [] then s
  else setFld { s with sys := { s.sys with applying := [] } } 0x030000 16 1 1

end Sys2Proof.Machine
end

