-- ==== Sys2Proof/Machine/SelfTest.lean ====
section
/-!
DEFINITION. Converter repair, self-test and start calibration (R110, R111, R117 to R121, R124 to R128).
-/

namespace Sys2Proof.Machine

/-- One converter that fails its self-test (R118): 1 LATCH, 2 LEVEL, 3 SLOPE. -/
structure ConvFail where
  column : Nat
  bank : Nat
  spare : Option Nat
  test : Nat
deriving DecidableEq, Repr

/-- The median of `n` equal values and some others: the lower of the middle two for an even count.
DESIGN CHOICE (log 175). -/
def medianWith (v : Int) (n : Nat) (l : List Int) : Int :=
  let upTo := fun (x : Int) => (l.filter (fun y => decide (y ≤ x))).length + (if v ≤ x then n else 0)
  (((v :: l).foldr insertInt []).find? (fun x => decide ((n + l.length - 1) / 2 < upTo x))).getD v

/-- The comparators of a bank: 8,192 active columns, 64 of the strip and 260 spares, two lines each (R102). -/
def bankLines : Nat := 17032

/-- The group of a converter column: a tile column, or 64 for the optical-black strip (R102). -/
def convGroup (col : Nat) : Nat := if col < 8192 then col / 128 else 64

/-- Two tests are of one converter: a column of a bank, or a spare of a group of a bank. -/
def sameConv (a b : ConvTest) : Bool :=
  decide (a.bank = b.bank ∧ a.spare = b.spare) &&
    (if a.spare.isSome then decide (convGroup a.column = convGroup b.column) else decide (a.column = b.column))

/-- The tests of the listed converters, one of each. -/
def listedTests (env : StartEnv) : List ConvTest :=
  env.convTests.foldl (fun l t => if l.any (sameConv t) then l else l ++ [t]) []

/-- The converters of a bank that no test lists: their lines latch right and read the bank's levels. -/
def plainTests (env : StartEnv) (bank : Nat) : List ConvTest :=
  let (lo, hi) := env.levels.getD bank (0, 0)
  let line : LineTest := ⟨[0x0000, 0x1FFF, 0x0AAA, 0x1555], lo, hi⟩
  let all := (upto 8256).map (fun x => (x, none)) ++
    (upto 65).flatMap (fun g => (upto 4).map (fun sp => (128 * g, some sp)))
  let l := listedTests env
  (all.map (fun q => (⟨q.1, bank, q.2, line, line⟩ : ConvTest))).filter (fun t => !l.any (sameConv t))

/-- The medians of a bank over its comparators (R118): low average, high average and their difference, in
1/4 DN. -/
def bankMedians (env : StartEnv) (bank : Nat) : Int × Int × Int :=
  let (lo, hi) := env.levels.getD bank (0, 0)
  let l := ((listedTests env).filter (fun t => decide (t.bank = bank))).flatMap (fun t => [t.a, t.b])
  let n := bankLines - l.length
  (medianWith lo n (l.map (fun x => (x.low : Int))), medianWith hi n (l.map (fun x => (x.high : Int))),
   medianWith ((hi : Int) - lo) n (l.map (fun x => (x.high : Int) - x.low)))

/-- The first test that a line fails against the medians of its bank, or 0 (R118): LATCH, LEVEL by more than
24 DN, SLOPE by more than 2 %. -/
def lineFails (m : Int × Int × Int) (x : LineTest) : Nat :=
  let far := fun (a b : Int) => decide (96 < (a - b).natAbs)
  if x.latch ≠ [0x0000, 0x1FFF, 0x0AAA, 0x1555] then 1
  else if far x.low m.1 || far x.high m.2.1 then 2
  else if 2 * m.2.2.natAbs < 100 * (((x.high : Int) - x.low) - m.2.2).natAbs then 3
  else 0

/-- A converter fails when either of its lines does (R118): FAIL names the lowest test failed (R127).
DESIGN CHOICE (log 204). -/
def convFails (m : Int × Int × Int) (t : ConvTest) : Option ConvFail :=
  let a := lineFails m t.a
  let b := lineFails m t.b
  if a = 0 ∧ b = 0 then none
  else some { column := t.column, bank := t.bank, spare := t.spare,
              test := if a = 0 then b else if b = 0 then a else min a b }

/-- The converters of a bank that fail the self-test (R118): listed ones, and those at the bank's levels where
these are too far from the medians. -/
def bankFails (env : StartEnv) (bank : Nat) : List ConvFail :=
  let m := bankMedians env bank
  let (lo, hi) := env.levels.getD bank (0, 0)
  ((listedTests env).filter (fun t => decide (t.bank = bank))).filterMap (convFails m) ++
    (if lineFails m ⟨[0x0000, 0x1FFF, 0x0AAA, 0x1555], lo, hi⟩ = 0 then []
     else (plainTests env bank).filterMap (convFails m))

/-- The converters that fail the self-test (R118). -/
def failsOf (env : StartEnv) : List ConvFail := (upto 4).flatMap (bankFails env)

/-- Key of a converter: 8,256·bank + column. -/
def convKey (bank col : Nat) : Nat := 8256 * bank + col

/-- The self-test of a start, with the mapping under way (R117, R119): the spares in use by converter,
the repairs in fuse order, the ignored words, and the events made. -/
structure Mapping where
  /-- Spare in use by converter key. -/
  spare : SMap Nat
  /-- Converters with a fuse repair, in fuse order. -/
  fused : List Nat
  ignored : Nat
  retired : Nat
  unrepaired : List Nat
  /-- CNV_MAP words in order. -/
  entries : List Nat
deriving DecidableEq, Repr

/-- The first test that an active or optical-black converter fails, or 0 (R118, R127). -/
def convTest (fails : List ConvFail) (key : Nat) : Nat :=
  match fails.find? (fun f => decide (f.spare = none ∧ convKey f.bank f.column = key)) with
  | some f => f.test % 4
  | none => 0

/-- A spare of the group and bank of a converter fails its self-test (R118). -/
def spareBad (fails : List ConvFail) (key sp : Nat) : Bool :=
  fails.any (fun f => decide (f.spare = some sp ∧ f.bank = key / 8256 ∧
    convGroup f.column = convGroup (key % 8256)))

/-- A spare of the group and bank of a converter is in use. -/
def spareUsed (m : Mapping) (key sp : Nat) : Bool :=
  m.spare.any (fun p => decide (p.2 = sp ∧ p.1 / 8256 = key / 8256 ∧
    convGroup (p.1 % 8256) = convGroup (key % 8256)))

/-- A word of CNV_MAP (R127). -/
def mapWord (fails : List ConvFail) (kind key sp : Nat) : Nat :=
  2 ^ 31 + kind * 2 ^ 29 + convTest fails key * 2 ^ 18 + sp * 2 ^ 16 + key / 8256 * 2 ^ 14 + key % 8256

/-- FUSE_REPAIR_APPLY (R117): one repair word. -/
def fuseWord (fails : List ConvFail) (m : Mapping) (w : Nat) : Mapping :=
  let col1 := w % 16384
  let key := convKey (w / 16384 % 4) (col1 - 1)
  if col1 = 0 then m
  else if 8256 < col1 ∨ m.fused.contains key = true then { m with ignored := m.ignored + 1 }
  else
    match (upto 4).find? (fun sp => !spareUsed m key sp) with
    | none => { m with ignored := m.ignored + 1 }
    | some sp =>
      { m with spare := put m.spare key sp, fused := m.fused ++ [key],
               entries := m.entries ++ [mapWord fails 0 key sp] }

/-- The lowest free good spare of a converter takes it over, with its KIND, or it is unrepaired (R119). -/
def remap (fails : List ConvFail) (kind : Nat) (m : Mapping) (key : Nat) : Mapping :=
  match (upto 4).find? (fun sp => !spareUsed m key sp && !spareBad fails key sp) with
  | some sp =>
    { m with spare := put m.spare key sp, retired := m.retired + (if kind = 2 then 1 else 0),
             entries := m.entries ++ [mapWord fails kind key sp] }
  | none =>
    { m with unrepaired := m.unrepaired ++ [key], entries := m.entries ++ [mapWord fails 3 key 0] }

/-- Insertion of a converter by bank and column, once. -/
def insertKey (k : Nat) : List Nat → List Nat
  | [] => [k]
  | j :: t => if k < j then k :: j :: t else if k = j then j :: t else j :: insertKey k t

/-- REPAIR_MAPPING (R119): failed repairs are moved in fuse order, then failed converters without a
repair are retired in order of bank and column.  A failed spare stays in use by none but its mover. -/
def mapConverters (fails : List ConvFail) (words : List Nat) : Mapping :=
  let m := words.foldl (fuseWord fails)
    { spare := [], fused := [], ignored := 0, retired := 0, unrepaired := [], entries := [] }
  let moved := m.fused.filter (fun k => (look m.spare k).any (fun sp => spareBad fails k sp))
  let m := moved.foldl (fun m k => remap fails 1 { m with spare := unput m.spare k } k) m
  let failed := (fails.filterMap (fun f =>
    if f.spare = none ∧ f.bank < 4 ∧ f.column < 8256 then some (convKey f.bank f.column) else none))
  let alone := (failed.foldl (fun l k => insertKey k l) []).filter (fun k => !m.fused.contains k)
  alone.foldl (remap fails 2) m

/-- The condition of ST_PASS (R121). -/
def selfTestPass (bad : List Nat) : Bool :=
  let act := bad.filter (fun k => decide (k % 8256 < 8192))
  decide (act.length ≤ 64)
    && act.all (fun k => !(act.contains (k + 2) && decide (k % 8256 + 2 < 8192)))
    && (upto 4).all (fun b => (upto 4).all (fun g =>
        decide ((bad.filter (fun k => decide (k / 8256 = b ∧ 8192 ≤ k % 8256
          ∧ (k % 8256 - 8192) / 16 = g))).length ≤ 4)))

/-- The repair words that the fuse sense delivers: those of usable regions (R117, R512). -/
def repairWords (s : State) : List Nat :=
  (upto 512).filterMap (fun k => if regionUsable s (6 + k / 30) then some (otpEntry s 6 k) else none)

/-- The registers of a mapping (R124, R127): CNV_MAP holds its first 1,024 entries, and the counts of 10 bits
saturate.
DESIGN CHOICE (log 176). -/
def mapRegs (s : State) (m : Mapping) : State :=
  let s := ((m.entries.take 1024).zipIdx).foldl (fun s (q : Nat × Nat) => setRegN s (0x050400 + 4 * q.2) q.1) s
  setRegN s 0x05000C (min 1023 m.unrepaired.length * 2 ^ 20 + min 1023 m.retired * 2 ^ 10 + m.fused.length)

/-- The fuse repairs of a start (R117, R127), before any test: CNV_MAP lists them and CNV_FUSE_IGNORED counts
the words ignored. -/
def fuseRepairs (s : State) : State :=
  let m := (repairWords s).foldl (fuseWord [])
    { spare := [], fused := [], ignored := 0, retired := 0, unrepaired := [], entries := [] }
  mapRegs (bumpBy s 0x05002C m.ignored) m

/-- CONVERTER_SELF_TEST with the mapping and its registers (R118 to R121, R124, R127). -/
def selfTest (s : State) (fails : List ConvFail) : State :=
  let m := mapConverters fails (repairWords s)
  let s := mapRegs { s with cnv := { s.cnv with unrepaired := m.unrepaired } } m
  setFld s 0x050008 0 1 (bit (selfTestPass m.unrepaired))

/-- The fuse trim of a slope entry (R110, R509): slope and start codes; mid-code where its region is not usable
(R512).
DEDUCED (log 223). -/
def fuseTrim (s : State) (n : Nat) : Nat × Nat :=
  if regionUsable s (4 + n / 30) then (otpEntry s 4 n % 256, otpEntry s 4 n / 256) else (0x80, 0x80)

/-- The nearest limit of a trim code (R111). -/
def nearLimit (c : Int) : Int := if c < 128 then 0 else 255

/-- A trim found from its fuse code, left at its nearest limit where it misses its target (R110, R111). -/
def trimCodeOf (fuse : Nat) (steps : Int) (miss : Bool) : Nat :=
  let c := clampI 0 255 (fuse + steps)
  (if miss then nearLimit c else c).toNat

/-- The slope misses its target by more than 0.5 % (R111). -/
def slopeMisses (t : TrimResult) : Bool := decide (32768 < 200 * ((t.ratio : Int) - 32768).natAbs)

/-- The reset latch misses its target of 32 counts by more than 4 at 12-bit, of 8 by more than 1 at 10-bit
(R110, R111).
DESIGN CHOICE (log 177). -/
def startMisses (t : TrimResult) : Bool :=
  if t.n < 16 then decide (4 < ((t.median : Int) - 32).natAbs) else decide (1 < ((t.median : Int) - 8).natAbs)

/-- A trim that meets its targets at its fuse codes. -/
def exactTrim (n : Nat) : TrimResult :=
  { n := n, slope := 0, ratio := 32768, start := 0, median := if n < 16 then 32 else 8 }

/-- The trims of entry n (R110, R111, R126): codes and medians, and CAL_RANGE with its entry in the log where
one misses; ARG2 is n, 16 · depth + 4 · bank + gain.
DESIGN CHOICE (log 178). -/
def applyTrim (s : State) (t : TrimResult) : State :=
  let (fs, ft) := fuseTrim s t.n
  let s := setRegN s (0x050100 + 4 * t.n) (trimCodeOf fs t.slope (slopeMisses t) * 65536 + t.ratio % 65536)
  let s := setRegN s (0x050180 + 4 * t.n) (trimCodeOf ft t.start (startMisses t) * 65536 + t.median % 512)
  if slopeMisses t || startMisses t then logReg (setFld s 0x050008 2 1 1) 0x01 1 0x050008 1 t.n else s

/-- A slot in which every comparator reads dark: its reset target, and no signal (R106, R110). -/
def darkSlot : SlotCap := { reset := some (128 ^^^ 64), signal := some (576 ^^^ 288), caps := [] }

/-- The optical-black reads of one gain at a start (R110): eight passes of eight slots, at 12-bit, with the PED
that the configuration has written.
DESIGN CHOICE (log 206). -/
def calCtx (s : State) (slots : List SlotCap) (g : Nat) : ReadCtx :=
  darkCtx ((upto 64).map (fun i => (1536 + i, slots.getD (64 * g + i) darkSlot))) false (s.cur 0x050004) s.cnv

/-- An entry of the offset table from 64 samples (R112): their mean less PED in Q12.4.
DESIGN CHOICE (log 174). -/
def calEntry (c : ReadCtx) (bank x line : Nat) : Nat :=
  let sum := ((upto 64).map (fun i => ((c.code (6144 + 4 * i + bank) x line : Nat) : Int) - c.ped)).sum
  code 16 (clampI (-32768) 32767 (roundDiv sum 4))

/-- The comparators whose entry may differ from that of the others: those that a slot lists, and their
neighbours, which may stand in for one another (R120). -/
def calCells (slots : List SlotCap) (g : Nat) : List (Nat × Nat × Nat) :=
  (((slots.drop (64 * g)).take 64).flatMap (fun c => c.caps.flatMap (fun (x : Capture) =>
    [(x.row, x.col - 2, x.node), (x.row, x.col, x.node), (x.row, x.col + 2, x.node)]))).filter
      (fun q => decide (q.1 < 4 ∧ q.2.1 < 8192 ∧ q.2.2 < 2))

/-- The offset table of one gain (R110, R112), into a table: where dark comparators read exactly PED, only the
comparators listed have an entry other than 0. -/
def calGain (s : State) (slots : List SlotCap) (m : SMap Nat) (g : Nat) : SMap Nat :=
  let c := calCtx s slots g
  let plain : ReadCtx := { c with caps := c.caps.map (fun p => (p.1, { p.2 with caps := [] })) }
  let cells := if calEntry { plain with cnv := { s.cnv with unrepaired := [] } } 0 0 0 = 0 then calCells slots g
    else (upto 4).flatMap (fun b => (upto 8192).flatMap (fun x => [(b, x, 0), (b, x, 1)]))
  cells.foldl (fun m q => mput 0 m (offEntry g q.1 q.2.1 q.2.2) (calEntry c q.1 q.2.1 q.2.2)) m

/-- START_CALIBRATION (R107, R110 to R112, R124, R126): the 32 trims, the 32 optical-black passes with their
forced latches, and the offset table. -/
def startCalibration (s : State) (trims : List TrimResult) (slots : List SlotCap) : State :=
  let s := (upto 32).foldl (fun s n =>
    applyTrim s ((trims.find? (fun t => decide (t.n = n))).getD (exactTrim n))) s
  let s := bumpBy s 0x050020 ((slots.take 256).map slotForced).sum
  let s := { s with cnv := { s.cnv with offs := (upto 4).foldl (calGain s slots) [] } }
  setFld s 0x050008 1 1 1

end Sys2Proof.Machine
end

