-- ==== Sys2Proof/Machine/Start.lean ====
section
/-!
DEFINITION. Starts (R457 to R463, R515 to R529, R536, R544 to R547): what a start keeps, the eight
steps, the waits for REFCLK and for a debug response, reset, and supply excursions.
-/

namespace Sys2Proof.Machine

/-- What a start of a CAUSE keeps of the log (R545, R546): a cold start clears the log RAM; in a warm one the log
second goes on with TB. -/
def keptLog (s : State) (cold : Bool) : Log :=
  if cold then State.resetLog
  else { s.log with ceSram := 0, ceEdram := 0, cycle := 0 }

/-- What a start keeps, everything else at its reset value (R457, R458, R420, R526, R544).
DEDUCED (log 41). DESIGN CHOICE (log 220). DESIGN CHOICE (log 235). -/
def keepAtStart (s : State) (cause : Nat) : State :=
  let cold := decide (cause ≤ 1)
  let z := State.reset
  { z with
    freeCtr := s.freeCtr,
    pending := s.pending,
    log := keptLog s cold,
    time := { z.time with
      tb := if cold then 0 else s.time.tb,
      frac := if cold then 0 else s.time.frac,
      src := if cold then .slow else s.time.src,
      e := if cold then 0 else s.time.tb },
    clk := { z.clk with
      cLock := !cold && s.clk.cLock, cEnabled := !cold && s.clk.cLock,
      sLock := !cold && s.clk.sLock, sEnabled := !cold && s.clk.sLock,
      gLock := !cold && s.clk.gLock, gEnabled := !cold && s.clk.gLock, gEver := !cold && s.clk.gLock,
      refLost := !cold && s.clk.refLost,
      pulse16 := if !cold && s.clk.gLock then s.clk.pulse16 else none,
      period16 := if !cold && s.clk.gLock then s.clk.period16 else none },
    sys := { z.sys with
      phase := .waitFirst, pgoodLow := false, cause := cause, vpllOk := true, edgeSeen := s.sys.edgeSeen,
      lsN := if cold then 0 else s.sys.lsN, lsLast := if cold then 0 else s.sys.lsLast,
      rstTimes := if cold then [] else s.sys.rstTimes,
      applying := if cause = 0 then [] else s.sys.applying ++ s.sys.held,
      startCount := if cold then 0 else min 0xFFFFFFFF (s.sys.startCount + 1),
      scrubAt := if cold then 0 else s.time.tb, sramAt := if cold then 0 else s.time.tb },
    boot := { z.boot with
      flash := s.boot.flash, pfwLow := s.boot.pfwLow, pfwRelease := if cold then 0 else s.boot.pfwRelease,
      pfwHold := !cold && s.boot.pfwHold, flashMode := s.boot.flashMode },
    otp := { z.otp with
      fuse := s.otp.fuse, drift := s.otp.drift, latch := decide (cause ≠ 0) && s.otp.latch },
    upd := { z.upd with owner := s.upd.owner },
    mgb := { z.mgb with freeAt := (if cold then 0 else s.time.tb) + 37500 },
    aux := { z.aux with lanes := s.aux.lanes } }

/-- Cues outstanding before the start are logged as discarded, per port (R344).
DEDUCED (log 19). -/
def logDiscards (old s : State) : State :=
  old.lsh.foldl (fun s (p : Nat × LshPort) =>
    if p.2.cues = [] then s else logReg s 0x06 1 (lshReg p.1 0x0C) p.2.cues.length p.1) s

/-- Marginal bits of the array, and those of a region (R508, R516). -/
def marginalBits (s : State) : List Nat :=
  (sensedBits s).filter (fun b => marginal (senseLevel s b))

/-- The marginal bits are counted, mapped and logged per region (R516).
DESIGN CHOICE (log 20). -/
def reportMargins (s : State) : State :=
  let bs := marginalBits s
  let rs := (upto 64).filter (fun r => bs.any (fun b => decide (b / 512 = r)))
  let s := bumpBy s 0x020090 bs.length
  let m := (rs.map (fun r => 2 ^ r)).sum
  let s := setRegN (setRegN s 0x020030 (half m 0)) 0x020034 (half m 1)
  let s := setFld s 0x020000 5 1 (bit (!bs.isEmpty))
  rs.foldl (fun s r =>
    logReg s 0x01 1 0x020090 (r * 65536 + (bs.filter (fun b => decide (b / 512 = r))).length) 0) s

/-- REGION_STATE_DECIDE for every region, with INVALID ones logged (R511, R512, R531).
DESIGN CHOICE (log 21). -/
def reportRegions (s : State) : State :=
  let st := (upto 64).map (regionState s)
  let s := (upto 8).foldl (fun s w =>
    setRegN s (0x020010 + 4 * w) (((upto 8).map (fun i => st.getD (8 * w + i) 0 * 16 ^ i)).sum)) s
  let bad := (upto 64).filter (fun r => decide (st.getD r 0 = 4))
  let s := setFld s 0x020000 4 1 (bit (!bad.isEmpty))
  bad.foldl (fun s r => logReg s 0x01 2 (0x020010 + 4 * (r / 8)) 4 0) s

/-- KEY_OK (R523). -/
def decideKey (s : State) : Bool :=
  decide (regionState s 2 = 3) && !s.otp.keyKill && decide (s.otp.lifecycle ≠ 2) &&
    decide ((sha384 (deviceKey s)).take 4 = le 4 (otpWord s 2 8).toNat)

/-- The fuse-held words of clock synthesis (R391, R398, R404, R414, R415, R417).
DESIGN CHOICE (log 6). PRESUMED (log 40). -/
def clockWords (s : State) : State :=
  let (r, ni, num, den) := refRow s.clk.refCode
  let s := cPllWords s
  let s := setRegN (setRegN (setRegN s 0x010020 (ni * 65536 + r)) 0x010024 num) 0x010028 den
  let delays := (otpWord s 3 3).toNat
  let usable := regionUsable s 3
  let divs := [2, 4, 8, 1]
  let s := (upto 4).foldl (fun s i =>
    let d := if usable then delays / 256 ^ i % 256 else 0x80
    setRegN s (0x010080 + 4 * i) (divs.getD i 0 * 65536 + (if i = 2 then 0 else d))) s
  if cleanUse s then
    let (n, d) := refStep s.clk.refCode
    let (gr, gn, gd) := if s.clk.gUse = 1 then (r, r * n, d) else (1, 75, 1)
    let s := setRegN s 0x010040 ((Config.trimCode 8).toNat % 16 * 256 + (if s.clk.gUse = 1 then 2 else 1) * 8 + 1)
    let s := setRegN (setRegN s 0x010044 gr) 0x010048 (gn / gd)
    setRegN (setRegN s 0x01004C (gn % gd)) 0x010050 gd
  else s

/-- Step 2: fuse sense, what it delivers, and MA (R441, R464, R515 to R523, R559). -/
def fuseSense (s : State) (env : StartEnv) : State :=
  let s := env.drifted.foldl (driftBit s) s
  let s := { s with otp := { s.otp with data := senseAll s env.majority } }
  let s := { s with otp := { s.otp with
    lifecycle := decideLifecycle s, keyKill := decide ((otpWord s 1 0).toNat / 4 % 2 = 1) } }
  let ok := decideKey s
  let s := { s with
    otp := { s.otp with keyOk := ok, keyStore := if ok then deviceKey s else [],
                        dbgEn := decide (s.otp.lifecycle = 2) },
    mgb := { s.mgb with addr := 0x58 + env.ma % 8 },
    clk := { s.clk with
      refCode := bootOptions s % 8, gUse := bootOptions s / 16 % 4,
      trims := [0, 1, 2, 4].map (fun w => if regionUsable s 3 then some (otpWord s 3 w) else none) },
    boot := { s.boot with ma := env.ma % 8 } }
  let s := fuseRepairs (reportRegions (reportMargins s))
  (upto 4).foldl (fun s i =>
    setRegN s (0x000010 + 4 * i) (if regionUsable s 1 then (otpWord s 1 (6 + i)).toNat else 0)) s

/-- DRBG_SEED and the cue EPOCH (R339, R525).
DESIGN CHOICE (log 22). -/
def seedDrbg (s : State) (env : StartEnv) : State :=
  let s := { s with otp := { s.otp with rngFails := min 3 env.rngFails } }
  if 3 ≤ env.rngFails then failRng s
  else
    let s := { s with otp := { s.otp with drbgSeeded := true } }
    let zeroes := (env.epochs.takeWhile (fun e => decide (e % 65536 = 0))).length
    let s := { s with otp := { s.otp with drbgRequests := zeroes + 1 } }
    match env.epochs.find? (fun e => decide (e % 65536 ≠ 0)) with
    | some e => setRegN s 0x108008 (e % 65536)
    | none =>
      let (v, s) := drawFree s
      setRegN s 0x108008 (1 + v % 65535)

/-- PLL_ENABLE at step 3, with the loops that lock within their limits (R394, R398, R421). -/
def enablePlls (s : State) (env : StartEnv) : State :=
  let c := s.clk.cLock || env.lockC
  let clean := cleanUse s
  let g := s.clk.gLock || (clean && env.lockG)
  let s := { s with
    clk := { s.clk with
      refLost := false, cLock := c, cEnabled := c, busSrc := if c then 0 else 1,
      sLock := s.clk.sLock || env.lockS, sEnabled := true,
      gLock := g, gEnabled := s.clk.gEnabled || clean, gEver := g, gBypassed := clean && !g,
      genHz := env.genlockHz },
    time := { s.time with src := if c then .bus else .refclk, slow := false } }
  let s := if s.clk.gBypassed then logReg s 0x01 1 0x010004 1 0 else s
  clockWords s

/-- XSPI_RESET_B is driven low before step 4: the flash is back in 1-1-1 (R579). -/
def resetFlash (s : State) : State := { s with boot := { s.boot with flashMode := 0 } }

/-- FLASH_DISCOVERY (R465, R482).
DESIGN CHOICE (log 10). DEDUCED (log 23). DEDUCED (log 24). -/
def discoverFlash (s : State) (env : StartEnv) : State :=
  let f := env.sfdp
  let want := bootOptions s / 256 % 4
  let quad := f.valid && f.quad
  let octal := f.valid && f.octal
  let mode := match want with
    | 0 => if octal then 2 else if quad then 1 else 0
    | 1 => 0
    | 2 => if quad then 1 else 0
    | _ => if octal then 2 else 0
  let miss := (decide (want = 2) && !quad) || (decide (want = 3) && !octal)
  let s := { s with boot := { s.boot with
    usable := decide (512 ≤ f.mbit), flashMode := mode,
    flash := env.burned.foldl (fun m (p : Nat × Byte) => mput 0xFF m p.1 p.2) s.boot.flash } }
  let s := setRegN s 0x030010 (f.jedec % 2 ^ 24)
  let s := setRegN s 0x030014 ((if f.valid then f.mbit else 0) * 256 + bit miss * 4 + mode)
  if miss then logReg s 0x01 1 0x030014 1 0 else s

/-- The boot record's part of step 4 (R467, R468): the bank to start, whether it is a TRIAL, and whether
the start reverted, which counts as the revert that R501 leaves to it. -/
def chooseBank (s : State) : (Nat × Bool × Bool) × State :=
  match selectBootRec s with
  | none => ((0, false, false), s)
  | some (slot, r) =>
    let s := { s with boot := { s.boot with brec := some (slot, r.seq), prevBank := r.prevBank } }
    if !r.trial then ((r.bank, false, false), s)
    else if r.attempts = 0 then
      match writeBootRec s { r with attempts := 1 } with
      | (true, s) => ((r.bank, true, false), s)
      | (false, s) => ((r.prevBank, false, false), s)
    else
      ((r.prevBank, false, true),
       bump (writeBootRec s (BootRec.new r.prevBank false true r.prevBank (headerVersion s r.prevBank))).2 0x030190)

/-- FW_VERSION of the boot record of a bank (R559).
DEDUCED (log 38). -/
def bankVersion (s : State) (bank : Nat) : Nat :=
  let l := (upto 2).filterMap (fun i => (readBootRec s i).filter (fun r => decide (r.bank = bank)))
  match l with
  | [] => 0
  | [r] => r.version
  | r :: q :: _ => if newer32 q.seq r.seq then q.version else r.version

/-- UPDATE_STATE_REBUILD (R503).
DEDUCED (log 39). -/
def rebuildUpdate (s : State) : State :=
  let idle := fun (last : Nat) => { s with upd := { s.upd with owner := 0, last := last } }
  let h := flashHeader s (bankBase (targetBank s))
  let owner := orIf s.upd.owner 1
  if s.boot.trial then setUpdState { s with upd := { s.upd with owner := 0, checksOk := true } } 5
  else
    match sessionRec s with
    | none => idle 0
    | some (len, hash) =>
      let open_ := fun (st : Nat) => setUpdState { s with upd := { s.upd with
        owner := owner, imgLen := len, version := leAt h 12 4 } } st
      if markerAt s 0xC0 0x43544655 then idle 2
      else if markerAt s 0x80 0x44564655 then open_ 3
      else if (upto (ceilDiv (leAt h 6 2) 128)).all (unitMarked s) ∧ hdrHash h = hash ∧ hdrCheck s h = 0 then
        open_ 1
      else idle 0

/-- The archive's end is found, and SEQ continues (R547): after a cold start the entries that the start has made so
far are numbered from it too, in the log RAM and where they wait on stream 10.
DEDUCED (log 148). -/
def findArchive (s : State) (cold : Bool) : State :=
  if s.boot.usable then
    match scanArchive s with
    | some (i, q) =>
      let up := fun (n : Nat) => if cold then (n + q) % 2 ^ 32 else n
      let s := { s with log := { s.log with
          archNewest := i, archWr := (i + 1) % 131072, seq := up s.log.seq,
          ram := s.log.ram.map (fun p => (p.1, { p.2 with seq := up p.2.seq })) } }
      relog s (fun n => (s.log.ram.map (·.2)).find? (fun y => decide (cold ∧ y.seq = up n)))
    | none => s
  else s

/-- Step 8 (R463): the tier and LIMIT, for a start with configuration, ROM-only or not. -/
def decideTier (s : State) (env : StartEnv) (rom : Bool) : Nat × Nat :=
  let v := { s with regs := { s.regs with act := s.regs.cur } }
  if s.otp.lifecycle = 2 then (1, 3)
  else if rom then (1, 2)
  else if s.clk.cLock = false then (1, 4)
  else if s.fc 0x050008 0 1 = 0 then (1, 5)
  else if env.t2Fail || env.auxFail then (1, 7)
  else if camUsable v 0 = false then (2, 6)
  else if env.t3Fail || env.heelFail || !laneHealth v then (2, 7)
  else (3, 0)

/-- Packets queued before the mode of the start was known take the route of that mode (R360, R378). -/
def routeQueued (n : Nlk) : Nlk :=
  let l := match n.mode with | 0 => 2 | 2 => 0 | 3 => 1 | _ => 0
  let put := fun (p : Pkt) => { p with link := l }
  { n with
    meta_ := n.meta_.map put,
    frames := n.frames.map (fun q => (q.1, { q.2 with tail := q.2.tail.map put })) }

/-- TIER_DECIDE and the wait for the first tick edge (R461, R463, R365, R360, R481, R482): `t` and `limit`
as step 8 gives them; PEND is cleared before the TIER Bark (R452).
DEDUCED (log 16). DEDUCED (log 42). DESIGN CHOICE (log 43). -/
def finishStart (s : State) (env : StartEnv) (t limit : Nat) : State :=
  let e0 := max (s.time.e + 750 * env.us) s.time.tb
  let win := s.fc 0x030118 0 16
  let s := { s with
    sys := { s.sys with waiting := none },
    time := { s.time with cmp := e0 },
    nlk := routeQueued { s.nlk with mode := s.fc 0x110000 0 2 },
    upd := if s.upd.state = 5 then { s.upd with
      confirmLeft := orIf win 1, hostConfirm := decide (s.fc 0x030118 16 1 = 1) } else s.upd,
    ptr := { s.ptr with
      healthy := decide (s.boot.coreFail = 0) && decide (min 64 (orIf (s.fc 0x0C0000 0 6) 1) ≤ 64) } }
  let s := setRegN s 0x03000C ((e0 - s.time.e) / 750)
  let s := setFld s 0x030000 24 3 limit
  let s := pendReset (followDown s)
  let s := { s with regs := { s.regs with landed := [], shut := [] } }
  let s := if t = 1 then barkEvent (logEvent s 0x00 0x01 0 false 0x000004 1 0) 1 else setTier s t
  logReg s 0x05 0 0x030000 (s.cur 0x030000).toNat 0

/-- No bank runs (R474, R481): TRIAL, FW_BANK and FW_FALLBACK read 0. -/
def noBank (s : State) : State :=
  setFld { s with boot := { s.boot with trial := false, fwBank := 0 } } 0x030000 19 3 0

/-- The segments of the running bank that are loaded, by TARGET, in the order of the table (R459, R477, R486).
DEDUCED (log 201). -/
def loadBank (s : State) : State :=
  let base := bankBase s.boot.fwBank
  let h := flashHeader s base
  (upto (leAt h 10 2)).foldl (fun t i =>
    let g := segAt h i
    if g.load then
      { t with boot := { t.boot with
        ram := mmod [] t.boot.ram g.target (· ++ ((openSeg s base h i).getD [])) } }
    else t) s

/-- What the loads of step 6 have come to: an environment's failures, and the hashes of the segments (R463, R477).
DESIGN CHOICE (log 234). -/
def withLoads (s : State) (env : StartEnv) : StartEnv :=
  let base := bankBase s.boot.fwBank
  { env with coreFail := if loadFails s base 2 then 255 else env.coreFail,
             heelFail := env.heelFail || loadFails s base 3,
             auxFail := env.auxFail || loadFails s base 4 }

/-- Steps 5 to 8 of a start that has a configuration copy; `rom0` forces ROM-only operation (R459, R463,
R469, R474 to R477).
DEDUCED (log 30). DEDUCED (log 37). -/
def lateSteps (s : State) (env : StartEnv) (rom0 : Bool) (rs : List CfgRec) : State :=
  let bank := s.boot.fwBank
  let auth := fun (b : Nat) => !rom0 && bankAuthentic s (bankBase b)
  let first := auth bank
  let other := !first && auth (1 - bank)
  let rom := !first && !other
  let s := { s with boot := { s.boot with romOnly := rom } }
  let s := if rom then noBank s else s
  let s := if other then
      let s := { s with boot := { s.boot with fwBank := 1 - bank, trial := false } }
      let s := setFld (setFld (setFld s 0x030000 20 1 1) 0x030000 21 1 (1 - bank)) 0x030000 19 1 0
      logReg s 0x01 2 0x030000 1 0
    else s
  let env := if rom then env else withLoads s env
  let s := if rom then { s with upd := { s.upd with owner := 0 } } else loadBank s
  let s := if rom then s
    else rebuildUpdate (setRegN { s with boot := { s.boot with coreFail := env.coreFail % 256 } }
      0x000008 (bankVersion s s.boot.fwBank))
  let s := applyRecords rom s rs
  if s.sys.phase = .restarting then s
  else
    let s := if s.clk.cLock then startCalibration (selfTest s (failsOf env)) env.trims env.obSlots else s
    let (t, limit) := decideTier s env rom
    if env.t1Fail then enterT0 s else finishStart s env t limit

/-- The boot record of step 4 with its codes of the hold-up monitor, and its fields of BOOT_STATUS (R467, R468,
R478, R481). -/
def withRecord (s : State) (env : StartEnv) : State :=
  withSense s env.senses fun s =>
    let ((bank, trial, reverted), s) := chooseBank s
    let s := { s with boot := { s.boot with fwBank := bank, trial := trial } }
    let slot := match s.boot.brec with | some (i, _) => i | none => 0
    setFld s 0x030000 17 5 (bit trial * 4 + bit reverted * 2 + slot + bank * 16)

/-- Step 4 from the choice of the configuration copy on, then the later steps (R467 to R473, R475). -/
def bootSteps (s : State) (env : StartEnv) (rom0 : Bool) : State :=
  let cold := decide (s.sys.cause ≤ 1)
  let s := discoverFlash s env
  let ((ea, eb), sel) := if s.boot.usable then selectCopy s env.readA env.readB else ((0, 0), none)
  let s := setRegN s 0x030008 (eb * 256 + ea)
  match sel with
  | none =>
    let s := if s.boot.usable then noBank (withRecord s env) else s
    let s := { s with sys := { s.sys with applying := [] } }
    if env.t1Fail then enterT0 s else finishStart (findArchive { s with upd := { s.upd with owner := 0 } } cold) env 1 1
  | some (c, b) =>
    let rs := (imageRecs b).2.1
    let s := { s with boot := { s.boot with cfgCopy := c + 1, cfgLen := leAt b 12 4 } }
    let s := setFld (setRegN s 0x030004 (leAt b 8 4)) 0x030000 22 2 (c + 1)
    let s := (rs.filter (fun r => decide (r.type = 0x0020))).foldl (fun s r => applyHoldup s r.body) s
    lateSteps (findArchive (withRecord s env) cold) env rom0 rs

/-- A debug request is refused (R522, R527, R528).
DESIGN CHOICE (log 36). -/
def refuseDebug (s : State) : State :=
  let s := bump { s with otp := { s.otp with dbgState := 3, nonceUsed := true } } 0x02009C
  logReg s 0x02 1 0x02009C (s.cur 0x02009C).toNat 0

/-- The debug challenge of R527. -/
def challengeBytes (s : State) (nonce : List Byte) : List Byte :=
  ((upto 4).map (fun i => le 4 (otpWord s 1 (6 + i)).toNat)).flatten ++ (nonce ++ zeros 32).take 32
    ++ le 4 s.otp.lifecycle ++ zeros 12

/-- The request latch at step 4 (R522, R526, R527): cleared when read.
DEDUCED (log 33). DEDUCED (log 35). -/
def debugStep (s : State) (env : StartEnv) : State :=
  let asked := s.otp.latch
  let s := { s with otp := { s.otp with latch := false } }
  if !asked || decide (s.otp.lifecycle = 2) then bootSteps s env false
  else if s.otp.lifecycle = 0 then
    bootSteps { s with otp := { s.otp with keyStore := [], keyOk := false, dbgEn := true } } env true
  else if s.otp.rngFail || !regionUsable s 1 then bootSteps (refuseDebug s) env false
  else
    { s with
      otp := { s.otp with dbgState := 1, challenge := challengeBytes s env.nonce,
                          drbgRequests := s.otp.drbgRequests + 1 },
      sys := { s.sys with phase := .waitDebug, waiting := some env, waitAt := s.time.tb } }

/-- A step of a start: what it logs is not of the bus cycle of the step before (R459, R545). -/
def startSteps (f : State → State) (s : State) : State :=
  let t := f { s with log := { s.log with inStart := true, cycle := 0 } }
  { t with log := { t.log with inStart := false, cycle := 0 } }

/-- Step 3 on: standby while REFCLK is absent, with every loop out of lock at once (R396, R405, R431, R432). -/
def clockStep (s : State) (env : StartEnv) : State :=
  if env.refclk then debugStep (resetFlash (enablePlls s env)) env
  else
    let s := bump s 0x018210
    let s := setFld s 0x01800C 2 1 1
    let s := bumpBy (bumpBy (bumpBy s 0x010200 (bit s.clk.cLock)) 0x010204 (bit s.clk.sLock))
      0x010208 (bit s.clk.gLock)
    { s with time := { s.time with src := .slow, slow := true },
             clk := { s.clk with refLost := true, cLock := false, sLock := false, gLock := false, ld := [] },
             sys := { s.sys with phase := .waitRef, waiting := some env } }

/-- The device is held in reset: Leash TX high-impedance, outputs disabled, lanes idle (R318, R411,
R457).
DESIGN CHOICE (log 44). -/
def holdReset (s : State) (pin : ResetPin) : State :=
  let s := setLink s 0 { s.link 0 with state := .off, rxWidth := 0, txWidth := 0 }
  let s := setLink s 1 { s.link 1 with state := .off, rxWidth := 0, txWidth := 0 }
  { s with
    sys := { s.sys with
      phase := .held, waiting := none,
      pgoodLow := s.sys.pgoodLow || decide (pin = .pgood),
      edgeSeen := s.sys.edgeSeen && !decide (pin = .pgood),
      resetLow := s.sys.resetLow || decide (pin = .resetB) },
    time := { s.time with tickOpen := false },
    clk := { s.clk with outs := [] } }

/-- A start from t₀ on (R459); with a rail outside its window it is back in reset, as at PGOOD low (R570).
DESIGN CHOICE (log 15). DESIGN CHOICE (log 17). DEDUCED (log 18). -/
def runStart (s : State) (env : StartEnv) (cause : Nat) : State :=
  if !env.supplies then holdReset s .pgood
  else
    let z := setRegN (keepAtStart s cause) 0x030000 (cause * 2 ^ 28 + (if 2 ≤ cause then 2 ^ 27 else 0))
    startSteps (fun z => clockStep (seedDrbg (fuseSense (logDiscards s z) env) env) env) z

/-- COLD_START (R457): PGOOD and RESET_B are both high after either was low.
DESIGN CHOICE (log 43). -/
def execColdStart (env : StartEnv) (s : State) : Host.Outcome State Fault Refusal :=
  .next (match s.sys.phase with
    | .held => runStart s env (if s.sys.pgoodLow then 0 else 1)
    | _ => s)

/-- WARM_RESTART (R458): the restart that a fault or a command has called for. -/
def execWarmRestart (env : StartEnv) (s : State) : Host.Outcome State Fault Refusal :=
  .next (match s.sys.phase with
    | .restarting => runStart s env s.sys.cause
    | _ => s)

/-- REFCLK_RETURN (R396): the start that waits at step 3 goes on. -/
def execRefclkReturn (s : State) : Host.Outcome State Fault Refusal :=
  .next (match s.sys.phase, s.sys.waiting with
    | .waitRef, some env =>
      startSteps (fun s => clockStep { s with sys := { s.sys with phase := .waitFirst } } { env with refclk := true }) s
    | _, _ => s)

/-- The debug wait is over: the start goes on (R527). -/
def afterWait (s : State) (env : StartEnv) (rom : Bool) : State :=
  startSteps (fun s => bootSteps s env rom) { s with sys := { s.sys with phase := .waitFirst } }

/-- DEBUG_WAIT_TIMEOUT (R527): no GO within 10 s. -/
def execDebugWaitTimeout (s : State) : Host.Outcome State Fault Refusal :=
  .next (match s.sys.phase, s.sys.waiting with
    | .waitDebug, some env => afterWait (refuseDebug (reach s (s.sys.waitAt + 10 * countsPerSec))) env false
    | _, _ => s)

/-- SEC_DBG_RESP as bytes (R527, R533). -/
def respBytes (s : State) (w n : Nat) : List Byte :=
  ((rangeFrom w n).map (fun i => le 4 (s.cur (0x020200 + 4 * i)).toNat)).flatten

/-- The response is accepted (R512, R528).
DEDUCED (log 35). -/
def respAccepted (s : State) : Bool :=
  let msg := s.otp.challenge ++ [0x4F, 0x50, 0x45, 0x4E]
  let owner := (upto 12).any (fun w => decide (otpWord s 40 w ≠ 0))
  let hash := ((upto 12).map (fun w => le 4 (otpWord s 40 w).toNat)).flatten
  let pub := respBytes s 24 24
  ecdsaVerify Config.debugKey msg (respBytes s 0 24)
    && decide (regionState s 40 ≠ 1 ∧ regionState s 40 ≠ 4)
    && (!(regionUsable s 40 && owner)
        || (decide (sha384 pub = hash) && ecdsaVerify pub msg (respBytes s 48 24)))

/-- The programs of an opening as a command gives them; where it gives none, VCORE is in its window and the rest is
free (R519, R570).
DEDUCED (log 200). -/
def openPulse (s : State) (l : List OpenPulse) (i : Nat) : OpenPulse × State :=
  match l[i]? with
  | some p => (p, s)
  | none =>
    let (v, s) := drawFree s
    ({ vcoreOk := true, pumpOk := decide (v % 2 = 1),
       result := if v / 8 % 2 = 1 then .aborted false (v / 2 % 4) else .done (v / 2 % 4) }, s)

/-- The row of R519 that refuses a program of the opening, or 0: rows 2 and 3 exempt it, and a blown one is left. -/
def openReason (s : State) (p : OpenPulse) : Nat :=
  if s.otp.progBusy then 1
  else if pfwActive s then 4
  else if !p.vcoreOk then 5
  else if !p.pumpOk then 7
  else 0

/-- One fuse of the opening is programmed from the internal pump (R518 to R520, R528), with its RESULT; a blown one
is left, and after a RESULT other than OK the ROM stops.
DEDUCED (log 34). -/
def openFuse (pulses : List OpenPulse) (acc : Bool × State) (q : Nat × Nat) : Bool × State :=
  let (ok, s) := acc
  if ok = false ∨ fuseLevel s q.1 = 3 then (ok, s)
  else
    let (p, s) := openPulse s pulses q.2
    match openReason s p with
    | 0 =>
      let s := pulseEnd s q.1 true p.result
      (decide (s.otp.progResult = 1), s)
    | e => (false, bump { s with otp := { s.otp with progResult := 4, progReason := e } } 0x020094)

/-- The fuses of an opening in order: three KEYKILL copies, then three OPENED copies (R509, R528). -/
def openingBits : List Nat := [514, 546, 578, 513, 545, 577]

/-- The end of an opening: the device is OPENED, or the ROM has stopped (R528). -/
def openEnd (env : StartEnv) (acc : Bool × State) : State :=
  match acc with
  | (true, s) =>
    let s := { s with otp := { s.otp with dbgEn := true, lifecycle := 2, keyKill := true } }
    afterWait (logReg s 0x01 1 0x020084 2 0) env true
  | (false, s) => afterWait (logReg s 0x01 2 0x020048 s.otp.progResult 0) env true

/-- A GO for the debug response (R527, R528): ignored outside the wait.
DEDUCED (log 34). DESIGN CHOICE (log 36). -/
def debugGo (s : State) (pulses : List OpenPulse) : State :=
  match s.sys.phase, s.sys.waiting with
  | .waitDebug, some env =>
    if respAccepted s then
      let s := { s with
        otp := { s.otp with
          nonceUsed := true, dbgState := 2, keyStore := [], keyOk := false, drbgSeeded := false },
        boot := { s.boot with ram := s.boot.ram.filter (fun p => decide (2 ≤ p.1 ∧ p.1 ≤ 4)) } }
      openEnd env (openingBits.zipIdx.foldl (openFuse pulses) (true, s))
    else afterWait (refuseDebug s) env false
  | _, _ => s

/-- SEC_DBG_GO (R528). -/
def execSecDbgGo (pulses : List OpenPulse) (s : State) : Host.Outcome State Fault Refusal :=
  .next (debugGo s pulses)

/-- RESET_ASSERT (R457). -/
def execResetAssert (pin : ResetPin) (s : State) : Host.Outcome State Fault Refusal :=
  .next (holdReset s pin)

/-- SUPPLY_EXCURSION (R570): 2 µs or longer acts as PGOOD low; LOCK_A works again once VPLL is back (R406). -/
def execSupplyExcursion (x : Excursion) (s : State) : Host.Outcome State Fault Refusal :=
  .next (if 2000 ≤ x.ns then
      let s := holdReset s .pgood
      { s with sys := { s.sys with vpllOk := if x.vpll then x.back else s.sys.vpllOk } }
    else s)

end Sys2Proof.Machine
end

