-- ==== Sys2Proof/Machine/Access.lean ====
section
/-!
DEFINITION. REGISTER_WRITE (R14, R18): every register write as it arrives at the register file.
-/

namespace Sys2Proof.Machine

/-- A register write of a source; a GO of SEC_DBG_CTRL is taken up by the ROM while it waits (R527,
R533), with what its programs meet free.
DESIGN CHOICE (log 136). -/
def regWrite (s : State) (src : Src) (a : Nat) (v : Word) : State :=
  let s := writeReg s src a v
  if a = 0x020080 ∧ field v 1 1 = 1 ∧ s.sys.phase = .waitDebug then
    debugGo s []
  else s

/-- REGISTER_WRITE (R14). -/
def execRegisterWrite (src : Src) (a : Nat) (v : Word) (s : State) : Host.Outcome State Fault Refusal :=
  .next (whenReg s fun s => regWrite s src a v)

end Sys2Proof.Machine
end

