-- ==== Sys2Proof/Machine/MgbBark.lean ====
section
/-!
DEFINITION. The management bus (R440 to R448) and Bark (R449 to R452).
-/

namespace Sys2Proof.Machine

/-- SDA_TO in bus counts: steps of 0.1 ms, 1 to 250 of them (R453). -/
def sdaTimeout (s : State) : Nat := max 1 (min 250 (s.fc 0x120000 0 8)) * 75000

/-- A START: it ends a transfer that is open, and SDA_TO is taken up (R448, R453); a transfer that it opens ends with
its STOP, where the command does not leave it open (R451).
DEDUCED (log 219). -/
def mgbStart (s : State) : State :=
  { s with mgb := { s.mgb with cut := false, busy := false, sdaTo := sdaTimeout s, lastAt := s.time.tb } }

/-- The time that both lines must be high before the bus is free without a STOP, in bus counts (R451). -/
def busHigh : Nat := 37500

/-- A transfer is aborted (R448, R451). -/
def busAbort (s : State) : State :=
  { s with mgb := { s.mgb with cut := false, busy := false, freeAt := s.time.tb + busHigh } }

/-- The pointer, 24 bits (R443). -/
def setPtr (s : State) (p : Nat) : State := { s with mgb := { s.mgb with ptr := p % 2 ^ 24 } }

/-- MGB_POINTER_SET (R443). -/
def execMgbPointerSet (p : Nat) (s : State) : Host.Outcome State Fault Refusal :=
  .next (whenReg s fun s => setPtr (mgbStart s) p)

/-- Groups of four data bytes are written one word each; an incomplete group is discarded and counted
(R444). -/
def writeGroups : Nat → List Byte → State → State
  | 0, _, s => s
  | n + 1, bs, s =>
    match bs with
    | [] => s
    | [_] => bump s 0x12008C
    | [_, _] => bump s 0x12008C
    | [_, _, _] => bump s 0x12008C
    | b0 :: b1 :: b2 :: b3 :: t =>
      let p := s.mgb.ptr
      let s := regWrite s .mgb p (BitVec.ofNat 32 (ofLe [b0, b1, b2, b3]))
      whenReg s fun s => writeGroups n t (setPtr s (p + 4))

/-- MGB_REGISTER_WRITE (R444): with a misaligned pointer D0 is not acknowledged. -/
def execMgbRegisterWrite (p : Nat) (bs : List Byte) (s : State) : Host.Outcome State Fault Refusal :=
  .next (whenReg s fun s =>
    let s := setPtr (mgbStart s) p
    if bs = [] then s
    else if p % 4 ≠ 0 then bump s 0x120090
    else writeGroups bs.length bs s)

/-- Bytes sent from the pointer on, word by word: each word is fetched once, its counters take their read effect when
the last byte sent from it is consumed, and the pointer advances by the bytes consumed; with `cut` the last byte of
all is not consumed (R443, R445, R448).
DEDUCED (log 141). -/
def sendBytes (cut : Bool) : Nat → Nat → State → List Byte × State
  | 0, _, s => ([], s)
  | fuel + 1, n, s =>
    if n = 0 then ([], s)
    else
      let p := s.mgb.ptr
      let k := min n (4 - p % 4)
      let (w, s) :=
        if cut = true ∧ n = k then ((readReg s .mgb (p - p % 4)).1, setPtr s (p + k - 1))
        else
          let (w, s) := readReg s .mgb (p - p % 4)
          (w, setPtr s (p + k))
      let (rest, s) := sendBytes cut fuel (n - k) s
      (((le 4 w.toNat).drop (p % 4)).take k ++ rest, s)

/-- A read of `n` register bytes; those clocked beyond them read 0xFF (R443, R448). -/
def mgbRead (s : State) (n : Nat) (c : Clocked) : State :=
  let (bs, s) := sendBytes (c.cut && decide (c.bytes ≤ n)) 33 (min n c.bytes) s
  { s with mgb := { s.mgb with wire := bs ++ List.replicate (c.bytes - n) 0xFF,
                               cut := c.cut && decide (0 < c.bytes),
                               busy := c.cut && decide (0 < c.bytes) } }

/-- MGB_BLOCK_READ (R443): a count of 0 or above 32 returns 32 bytes. -/
def execMgbBlockRead (p c : Nat) (clk : Clocked) (s : State) : Host.Outcome State Fault Refusal :=
  .next (whenReg s fun s => mgbRead (setPtr (mgbStart s) p) (if c = 0 ∨ 32 < c then 32 else c) clk)

/-- MGB_CURRENT_ADDRESS_READ (R443): four bytes from the pointer. -/
def execMgbCurrentAddressRead (clk : Clocked) (s : State) : Host.Outcome State Fault Refusal :=
  .next (whenReg s fun s => mgbRead (mgbStart s) 4 clk)

/-- MGB_ABORT (R448): the byte of an open transfer is not consumed, and the pointer keeps its value. -/
def execMgbAbort (s : State) : Host.Outcome State Fault Refusal :=
  .next (whenReg s fun s => bump (busAbort (mgbStart s)) 0x120080)

/-- MGB_RS_ACK (R448): the byte that was sent and waits for its ninth clock is not consumed; the repeated START keeps
the bus. -/
def execMgbRsAck (s : State) : Host.Outcome State Fault Refusal :=
  .next (whenReg s fun s =>
    if s.mgb.cut then
      let s := mgbStart s
      bump { s with mgb := { s.mgb with busy := true } } 0x120084
    else s)

/-- MGB_SDA_TIMEOUT (R448, R453): SDA has been held for SDA_TO; the transfer is abandoned.
DEDUCED (log 219). -/
def execMgbSdaTimeout (s : State) : Host.Outcome State Fault Refusal :=
  .next (whenReg s fun s =>
    let s := reach s (s.mgb.lastAt + s.mgb.sdaTo)
    bump (busAbort s) 0x120088)

/-- A word whose fetch has timed out: its bytes read 0xFF, the pointer advances by those consumed, and the word takes no
read effect (R445, R447).
DEDUCED (log 142). -/
def sendTimedOut (s : State) (c : Clocked) : State :=
  let p := s.mgb.ptr
  let k := min c.bytes (4 - p % 4)
  let open_ := c.cut && decide (0 < c.bytes ∧ c.bytes ≤ k)
  let s := setPtr s (if open_ then p + k - 1 else p + k)
  { s with mgb := { s.mgb with wire := List.replicate k 0xFF, cut := open_, busy := open_ } }

/-- MGB_STRETCH_TIMEOUT (R447): the word of a write is not applied; the word of a fetch is sent as 0xFF.
DEDUCED (log 142). -/
def execMgbStretchTimeout (of : Stretch) (s : State) : Host.Outcome State Fault Refusal :=
  .next (whenReg s fun s =>
    let s := setFld (bump s 0x120094) 0x120004 10 1 1
    match of with
    | .write => s
    | .fetch c => sendTimedOut s c)

/-- The occurrences of a Bark code pending (R449). -/
def barkCount (s : State) (code : Nat) : Nat := mget 0 s.mgb.cnt (code - 1)

/-- Bark can be sent (R452, R455). -/
def barkOn (s : State) : Bool := decide (s.fc 0x120008 16 1 = 1) && !barkCfgErr s

/-- A code is due (R450, R451). -/
def barkDue (s : State) (code : Nat) : Bool :=
  decide (s.fc 0x12000C (code - 1) 1 = 1 ∧ s.fc 0x120010 (code - 1) 1 = 1
    ∧ mget 0 s.mgb.sent (code - 1) < barkCount s code)
    && !s.mgb.abandoned.contains code

/-- The four bytes of a Bark (R450). -/
def barkBytes (s : State) (code : Nat) : List Byte :=
  le 1 (2 * s.fc 0x120008 0 7) ++ le 1 (2 * s.mgb.addr) ++ le 1 code ++ le 1 (barkCount s code)

/-- The bit rate of a Bark in Hz (R450, R455). -/
def barkRate (s : State) : Nat :=
  match s.fc 0x120008 8 2 with
  | 1 => 400000
  | 2 => 1000000
  | _ => 100000

/-- The wait before retry i, in bus counts: 2^(i − 1) ms + 125 µs × MA (R451). -/
def barkWait (s : State) (i : Nat) : Nat := 750000 * 2 ^ (i - 1) + 93750 * s.boot.ma

/-- One attempt at the Bark of a code, after `n` retries (R450, R451).
DEDUCED (log 143). -/
def barkAttempt (s : State) (code n : Nat) (r : BarkResult) : State :=
  let c := barkCount s code
  let s := { s with mgb := { s.mgb with wire := barkBytes s code, rate := barkRate s, tryAt := s.time.tb } }
  let s := if r = .aborted then busAbort s else s
  match r with
  | .acked =>
    let s := bump (setRegN s 0x120014 (c * 256 + code)) 0x120098
    { s with mgb := { s.mgb with attempt := none, sent := mput 0 s.mgb.sent (code - 1) c } }
  | r =>
    let s := if r = .arbLost then bump s 0x12009C else s
    if n = 8 then
      bump { s with mgb := { s.mgb with attempt := none, abandoned := code :: s.mgb.abandoned } } 0x1200A0
    else { s with mgb := { s.mgb with attempt := some (code, c, n) } }

/-- A Bark starts when the bus is free (R451): with no transfer open, and not before its lines have been high for long
enough.
DESIGN CHOICE (log 235). -/
def onFreeBus (s : State) (f : State → State) : State :=
  if s.mgb.busy then s else f (reach s s.mgb.freeAt)

/-- BARK (R450): the lowest due code. -/
def execBark (r : BarkResult) (s : State) : Host.Outcome State Fault Refusal :=
  .next (whenAwake s fun s =>
    match s.mgb.attempt, (rangeFrom 1 7).find? (barkDue s) with
    | none, some code => if barkOn s then onFreeBus s fun s => barkAttempt s code 0 r else s
    | _, _ => s)

/-- BARK_RETRY (R451): retry 1 to 8 of the attempt under way, after its wait; a code that is due no longer, or a Bark
that has been disabled, ends it.
DEDUCED (log 143). -/
def execBarkRetry (r : BarkResult) (s : State) : Host.Outcome State Fault Refusal :=
  .next (whenAwake s fun s =>
    match s.mgb.attempt with
    | none => s
    | some (code, _, n) =>
      if barkOn s && barkDue s code then
        onFreeBus s fun s => barkAttempt (reach s (s.mgb.tryAt + barkWait s (n + 1))) code (n + 1) r
      else { s with mgb := { s.mgb with attempt := none } })

end Sys2Proof.Machine
end

