-- ==== Sys2Proof/Machine/NlkReq.lean ====
section
/-!
DEFINITION. Requests of the Neleklink adapter (R19, R374, R375, R380, R383, R384), bulk space (R560 to
R564), and the transmitter's turn (R381).
-/

namespace Sys2Proof.Machine

/-- Byte i of the accepted defect list (R160, R560). -/
def defectByte (s : State) (o : Nat) : Byte :=
  match s.stat.defects[o / 4]? with
  | some (k, m) => (le 4 (m * 2 ^ 26 + k / 8192 * 2 ^ 13 + k % 8192)).getD (o % 4) 0
  | none => 0

/-- A byte of a Collar ring slot (R176, R560). -/
def collarByte (s : State) (o : Nat) : Byte :=
  match look s.stat.collars (o / 0x20000) with
  | some c => if o % 0x20000 < 0x1000 then c.record.getD (o % 0x20000) 0
    else c.map.getD (o % 0x20000 - 0x1000) 0
  | none => 0

/-- A byte of bulk space (R560): an unoccupied address reads 0. -/
def bulkByte (s : State) (a : Nat) : Byte :=
  let o := a - 0x100000000
  if o < 0x2000000 then ((s.slot (o / 128)).bytes).getD (o % 128) 0
  else if o < 0x3000000 then
    let i := (o - 0x2000000) / 64
    ((s.snap (i / 64) (i % 64)).bytes).getD (o % 64) 0
  else if o < 0x4000000 then (setBytes (s.scent ((o - 0x3000000) / 64))).getD (o % 64) 0
  else if o < 0xA000000 then
    let i := (o - 0x4000000) / 0x1000000
    (s.pyrAt (i / 2) (i % 2)).byte (o % 0x1000000)
  else if o < 0xA200000 then (s.bank ((o - 0xA000000) / 0x100000)).byteAt false (o % 0x100000)
  else if o < 0xA240000 then (s.bank (2 + (o - 0xA200000) / 0x10000)).byteAt true (o % 0x10000)
  else if o < 0xA400000 then 0
  else if o < 0xA480000 then collarByte s (o - 0xA400000)
  else if o < 0xA800000 then 0
  else if o < 0xA880000 then (le 2 (code 16 (s.cnv.entry ((o - 0xA800000) / 2)))).getD (o % 2) 0
  else if o < 0xB000000 then 0
  else if o < 0xB040000 then defectByte s (o - 0xB000000)
  else if o < 0xB400000 then 0
  else if o < 0xB500000 then
    if s.boot.cfgCopy ≠ 0 ∧ o - 0xB400000 < s.boot.cfgLen then
      flashByte s (cfgBase (s.boot.cfgCopy - 1) + (o - 0xB400000))
    else 0
  else if o < 0xB800000 then 0
  else if o < 0xB820000 then
    match look s.log.ram ((o - 0xB800000) / 32) with
    | some x => x.bytes.getD (o % 32) 0
    | none => 0
  else 0

/-- Bytes of bulk space in ascending address (R563). -/
def bulkBytes (s : State) (a n : Nat) : List Byte := (rangeFrom a n).map (bulkByte s)

/-- The header of a request. -/
def reqHdr (i : Instr) : Option RxHdr :=
  match i with
  | .regRd h _ _ => some h
  | .regWr h _ _ _ => some h
  | .bulkRd h _ _ => some h
  | .bulkWr h _ _ _ => some h
  | .updBlock h _ _ _ _ _ => some h
  | .trackSeed h _ => some h
  | .trackKill h _ => some h
  | .aimOverride h _ => some h
  | .timeSet h _ _ => some h
  | .unknownPacket h _ => some h
  | _ => none

/-- The TYPE of a request (R371). -/
def reqType (i : Instr) : Nat :=
  match i with
  | .regRd _ _ _ => 0x41
  | .regWr _ _ _ _ => 0x42
  | .bulkRd _ _ _ => 0x43
  | .bulkWr _ _ _ _ => 0x44
  | .updBlock _ _ _ _ _ _ => 0x45
  | .trackSeed _ _ => 0x46
  | .trackKill _ _ => 0x47
  | .aimOverride _ _ => 0x48
  | .timeSet _ _ _ => 0x49
  | .unknownPacket _ t => t
  | _ => 0

/-- The class of a received TYPE: 0 CTL, 1 DATA (R371).
DEDUCED (log 130). -/
def reqClass (i : Instr) : Nat := if reqType i = 0x44 ∨ reqType i = 0x45 then 1 else 0

/-- The receive buffer of a class in units (R371). -/
def rxBuffer (cls : Nat) : Nat := if cls = 1 then 1024 else 256

/-- A packet of a body length fits the free part of the response queue (R375), of which the answers of the
blocks that wait on a deferred flash command keep their part. -/
def respRoom (s : State) (body : Nat) : Bool :=
  decide (queueBytes s.nlk.resp + 64 * (s.upd.pend.filter (fun p => decide (p.path = 1))).length
    + (body + 20 + 31) / 32 * 32 ≤ queueRoom 2)

/-- A UPD_BLOCK of the link's request order waits on a deferred flash command, and the requests behind it
wait too (R375, R492). -/
def blockWaits (s : State) (q : Nat) : Bool :=
  s.upd.pend.any (fun p => decide (p.path = 1 ∧ seqLink s p.link = q))

/-- The bytes of the response to a request, or of the first part of a BULK_RD. -/
def respSize (i : Instr) : Nat :=
  match i with
  | .regRd _ _ count => 16 + 4 * min 256 count
  | .bulkRd _ _ bytes => 16 + min 16384 bytes
  | _ => 24

/-- An error answer counted in NLK_RX_BAD (R384).
DEDUCED (log 128). -/
def badReq (s : State) (h : RxHdr) (type status : Nat) : State :=
  statusResp (bump s (linkCnt h.link 0x18)) h.link h.tag type status 0 s.time.tb

/-- REG_RD_RESP (R380). -/
def regRdResp (s : State) (h : RxHdr) (addr count status : Nat) (ws : List Word) : State :=
  queueResp s 0x21 h.link h.tag
    (le 4 addr ++ le 2 count ++ le 1 status ++ zeros 1 ++ le 4 s.time.k ++ zeros 4
      ++ (ws.map (fun w => le 4 w.toNat)).flatten)

/-- Words read in ascending address by Neleklink, each in its own cycle (R11, R380). -/
def readWords : Nat → Nat → State → List Word × State
  | 0, _, s => ([], s)
  | n + 1, a, s =>
    let (w, s) := readReg s .nlk a
    let (l, s) := readWords n (a + 4) s
    (w :: l, s)

/-- The status of a register request: LEN, then ADDR (R380).
DEDUCED (log 128). -/
def regStatus (h : RxHdr) (body addr count : Nat) : Nat :=
  if h.body ≠ body ∨ count = 0 ∨ 256 < count then 3
  else if addr % 4 ≠ 0 ∨ 0xFFFFFF < addr + 4 * count then 2
  else 0

/-- The status of a bulk request: LEN, then ADDR (R380).
DEDUCED (log 128). -/
def bulkStatus (h : RxHdr) (body addr bytes top : Nat) : Nat :=
  if h.body ≠ body ∨ bytes < 32 ∨ top < bytes ∨ bytes % 32 ≠ 0 then 3
  else if addr % 32 ≠ 0 ∨ addr < 0x100000000 ∨ 2 ^ 40 < addr + bytes then 2
  else 0

/-- REG_RD executed (R380). -/
def doRegRd (s : State) (h : RxHdr) (addr count : Nat) : State :=
  match regStatus h 8 addr count with
  | 0 =>
    let (ws, s) := readWords count addr s
    regRdResp s h addr count 0 ws
  | e => regRdResp (bump s (linkCnt h.link 0x18)) h addr count e []

/-- REG_WR executed (R380): the words go to ADDR, ADDR + 4 and so on, while the device runs. -/
def doRegWr (s : State) (h : RxHdr) (addr count : Nat) (words : List Word) : State :=
  match regStatus h (8 + 4 * count) addr count with
  | 0 =>
    let s := ((words.take count).zipIdx).foldl (fun s (q : Word × Nat) =>
      whenAwake s fun s => regWrite s .nlk (addr + 4 * q.2) q.1) s
    whenAwake s fun s => statusResp s h.link h.tag 0x42 0 count s.time.tb
  | e => badReq s h 0x42 e

/-- One BULK_RD_DATA packet (R380). -/
def bulkPart (s : State) (link tag addr status : Nat) (last : Bool) (data : List Byte) : State :=
  queueResp s 0x23 link tag
    (le 8 addr ++ le 4 data.length ++ le 1 status ++ le 1 (bit last) ++ zeros 2 ++ data)

/-- BULK_RD begun (R375, R380): its parts follow as the queue has room. -/
def doBulkRd (s : State) (h : RxHdr) (addr bytes : Nat) : State :=
  match bulkStatus h 16 addr bytes 1048576 with
  | 0 =>
    let q := seqLink s h.link
    setLink s q { s.link q with bulk := some { tag := h.tag, addr := addr, left := bytes } }
  | e => bulkPart (bump s (linkCnt h.link 0x18)) h.link h.tag addr e true []

/-- The bytes of an address range of albums written by the host, one snapshot at a time (R252): refused
where the slot is not FREE, counted once per slot; answers the bytes applied.
DEDUCED (log 135). -/
def writeAlbums : Nat → Nat → List Byte → Option Nat → State → Nat × State
  | 0, _, _, _, s => (0, s)
  | n + 1, a, data, refused, s =>
    if data.length < 32 then (0, s)
    else
      let o := a - 0x102000000
      let slot := o / 4096
      let half_ := a % 64 / 32
      if a < 0x102000000 ∨ 0x103000000 ≤ a then writeAlbums n (a + 32) (data.drop 32) refused s
      else if (s.slot slot).state ≠ 0 then
        writeAlbums n (a + 32) (data.drop 32) (some slot) (if refused = some slot then s else bump s 0x0B00A0)
      else
        let i := o % 4096 / 64
        let old := (s.snap slot i).bytes
        let new := if half_ = 0 then data.take 32 ++ old.drop 32 else old.take 32 ++ data.take 32
        let x := Snap.ofBytes new
        let (k, s) := writeAlbums n (a + 32) (data.drop 32) refused
          (setSnap s slot i { x with flags := x.flags % 4 + 4 })
        (k + 32, s)

/-- BULK_WR executed (R252, R380).
DEDUCED (log 135). -/
def doBulkWr (s : State) (h : RxHdr) (addr bytes : Nat) (data : List Byte) : State :=
  match bulkStatus h (16 + bytes) addr bytes 16384 with
  | 0 =>
    let (k, s) := writeAlbums (bytes / 32) addr (data.take bytes) none s
    statusResp s h.link h.tag 0x44 0 k s.time.tb
  | e => badReq s h 0x44 e

/-- A request of a fixed body length, answered QUEUED (R19, R380). -/
def doQueued (s : State) (h : RxHdr) (type body : Nat) (f : State → State) : State :=
  if h.body ≠ body then badReq s h type 3
  else
    let s := f s
    statusResp s h.link h.tag type 1 0 s.time.tb

/-- The TB that TIME_SET latches for an SOP arrival (R380): within 4 bus counts of it, by a free value, and
above the one stored last (R388).
DEDUCED (log 132). -/
def latchedTb (last sop v : Nat) : Nat := max (last + 1) (sop + v % 9 - 4)

/-- A request is executed (R375, R380), a TIME_SET with the TB of its SOP arrival as operand; one whose LEN exceeds
its buffer is answered OVERSIZE (R383).
DEDUCED (log 131). DEDUCED (log 132). -/
def doReq (s : State) (i : Instr) : State :=
  match i with
  | .regRd h addr count => doRegRd s h addr count
  | .regWr h addr count words => doRegWr s h addr count words
  | .bulkRd h addr bytes => doBulkRd s h addr bytes
  | .bulkWr h addr bytes data => doBulkWr s h addr bytes data
  | .updBlock h offset length data senses fail =>
    if h.body ≠ 16 + length then badReq s h 0x45 3
    else
      withSense s senses fun s =>
        blockArrives s
          { path := 1, link := h.link, tag := h.tag, offset := offset, data := data.take length,
            since := s.time.tb, fail := fail }
  | .trackSeed h d => doQueued s h 0x46 40 (fun s => queueCmd s (.seed d))
  | .trackKill h w => doQueued s h 0x47 8 (fun s => queueCmd s (.kill w.toNat))
  | .aimOverride h o => doQueued s h 0x48 40 (fun s => aimOverride s o)
  | .timeSet h host sop =>
    if h.body ≠ 16 then badReq s h 0x49 3
    else
      let (v, s) := drawFree s
      let tb := latchedTb s.nlk.timeTb sop v
      let s := { s with nlk := { s.nlk with timeTb := tb, timeHost := host } }
      statusResp s h.link h.tag 0x49 0 0 tb
  | .unknownPacket h t => badReq s h t 5
  | _ => s

/-- A request with an oversize LEN (R383).
DEDUCED (log 131). -/
def oversize (i : Instr) (h : RxHdr) : Bool := decide (rxBuffer (reqClass i) < h.len)

/-- The units that a request frees on its link when it is executed are counted, and sent as credit (R372). -/
def freeUnits (s : State) (i : Instr) (h : RxHdr) : State :=
  if oversize i h then s
  else
    let x := s.link h.link
    let c := reqClass i
    let s := setLink s h.link { x with freed := x.freed.set c ((x.freed.getD c 0 + h.len) % 65536) }
    sendCredit s h.link c

/-- Requests in SEQ order as far as the response queue has room (R375): a part of the BULK_RD under way,
or the next request that waits. -/
def pump : Nat → Nat → State → State
  | 0, _, s => s
  | n + 1, q, s =>
    let x := s.link q
    match x.bulk with
    | some j =>
      let m := min 16384 j.left
      if respRoom s (16 + m) then
        let s := bulkPart s q j.tag j.addr 0 (decide (j.left = m)) (bulkBytes s j.addr m)
        let rest := if j.left = m then none
          else some { j with addr := j.addr + m, left := j.left - m }
        pump n q (setLink s q { s.link q with bulk := rest })
      else s
    | none =>
      match x.waiting with
      | [] => s
      | i :: t =>
        match reqHdr i with
        | none => pump n q (setLink s q { x with waiting := t })
        | some h =>
          if respRoom s (respSize i) && !blockWaits s q then
            let s := freeUnits (setLink s q { x with waiting := t }) i h
            let s := if oversize i h then statusResp s h.link h.tag (reqType i) 4 0 s.time.tb
              else doReq s i
            if s.sys.phase = .run ∨ s.sys.phase = .waitFirst then pump n q s else s
          else s

/-- Steps that bring the requests of a link as far as they can go. -/
def pumpAll (s : State) (q : Nat) : State := pump (2 * (s.link q).waiting.length + 200) q s

/-- The requests of both links are brought as far as they can go. -/
def pumpLinks (s : State) : State := pumpAll (pumpAll s 0) 1

/-- Units of a class that wait on a link. -/
def heldUnits (s : State) (l cls : Nat) : Nat :=
  ((s.seqRec l).waiting.map (fun i =>
    match reqHdr i with
    | some h => if h.link = l ∧ reqClass i = cls ∧ oversize i h = false then h.len else 0
    | none => 0)).sum

/-- A NAK of RX_NEXT was sent less than 20 µs ago (R374). -/
def nakRecent (s : State) (q : Nat) : Bool :=
  match (s.link q).nak with
  | some (n, t) => decide (n = (s.link q).rxNext ∧ s.time.tb < t + 15000)
  | none => false

/-- NAK of RX_NEXT on a link (R374): not repeated within 20 µs unless a packet with that SEQ has arrived. -/
def sendNak (s : State) (l : Nat) (again : Bool) : State :=
  let q := seqLink s l
  let n := (s.link q).rxNext
  if nakRecent s q && !again then s
  else sendCtl (setLink s q { s.link q with nak := some (n, s.time.tb) }) l 0x4B (nakUnit n)

/-- A packet received on a link that is UP (R374, R377, R383).
DEDUCED (log 129). DEDUCED (log 134). -/
def receive (i : Instr) (h : RxHdr) (s : State) : State :=
  if s.isUp h.link && linkUsed s h.link then
    let q := seqLink s h.link
    let x := s.link q
    if h.ok = false ∨ h.len = 0 then sendNak (bump s (linkCnt h.link 0)) h.link false
    else if newer16 h.seq x.rxNext then sendNak (bump s (linkCnt h.link 0x04)) h.link false
    else if h.seq % 65536 ≠ x.rxNext then sendAck (bump s (linkCnt h.link 0x08)) h.link
    else
      let big := oversize i h
      if !big && decide (rxBuffer (reqClass i) - heldUnits s h.link (reqClass i) < h.len) then
        sendNak (bump s (linkCnt h.link 0x14)) h.link true
      else
        let s := if big then bump s (linkCnt h.link 0x10) else s
        let s := setLink s q { s.link q with
          rxNext := (x.rxNext + 1) % 65536, nak := none, waiting := x.waiting ++ [i] }
        pumpAll (sendAck s h.link) q
  else s

/-- REG_RD (R380). -/
def execRegRd (h : RxHdr) (addr count : Nat) (s : State) : Host.Outcome State Fault Refusal :=
  .next (whenAwake s (receive (.regRd h addr count) h))

/-- REG_WR (R380). -/
def execRegWr (h : RxHdr) (addr count : Nat) (words : List Word) (s : State) :
    Host.Outcome State Fault Refusal :=
  .next (whenAwake s (receive (.regWr h addr count words) h))

/-- BULK_RD (R375, R380). -/
def execBulkRd (h : RxHdr) (addr bytes : Nat) (s : State) : Host.Outcome State Fault Refusal :=
  .next (whenAwake s (receive (.bulkRd h addr bytes) h))

/-- BULK_WR (R252, R380). -/
def execBulkWr (h : RxHdr) (addr bytes : Nat) (data : List Byte) (s : State) :
    Host.Outcome State Fault Refusal :=
  .next (whenAwake s (receive (.bulkWr h addr bytes data) h))

/-- UPD_BLOCK (R380, R492). -/
def execUpdBlock (h : RxHdr) (offset length : Nat) (data : List Byte) (senses : List Nat) (fail : Option Nat)
    (s : State) : Host.Outcome State Fault Refusal :=
  .next (whenAwake s (receive (.updBlock h offset length data senses fail) h))

/-- TRACK_SEED (R19, R380). -/
def execTrackSeed (h : RxHdr) (d : Seed) (s : State) : Host.Outcome State Fault Refusal :=
  .next (whenAwake s (receive (.trackSeed h d) h))

/-- TRACK_KILL (R19, R380). -/
def execTrackKill (h : RxHdr) (w : Word) (s : State) : Host.Outcome State Fault Refusal :=
  .next (whenAwake s (receive (.trackKill h w) h))

/-- AIM_OVERRIDE (R19, R312, R380). -/
def execAimOverride (h : RxHdr) (o : Override) (s : State) : Host.Outcome State Fault Refusal :=
  .next (whenAwake s (receive (.aimOverride h o) h))

/-- TIME_SET (R380): it waits with the TB of its SOP arrival. -/
def execTimeSet (h : RxHdr) (host : BitVec 64) (ago : Nat) (s : State) : Host.Outcome State Fault Refusal :=
  .next (whenAwake s (receive (.timeSet h host (s.time.tb - ago)) h))

/-- UNKNOWN_PACKET (R380, R384). -/
def execUnknownPacket (h : RxHdr) (t : Nat) (s : State) : Host.Outcome State Fault Refusal :=
  .next (whenAwake s (receive (.unknownPacket h t) h))

/-- PACKET_TRANSMIT (R381): one packet, then what its room lets the waiting requests do (R375). -/
def execPacketTransmit (l : Nat) (s : State) : Host.Outcome State Fault Refusal :=
  .next (whenAwake s fun s => pumpLinks (transmit s l))

/-- UPD_MB_GO (R490): only the management bus may write it. -/
def execUpdMbGo (src : Src) (senses : List Nat) (fail : Option Nat) (s : State) :
    Host.Outcome State Fault Refusal :=
  .next (whenReg s fun s =>
    if src = .mgb then pumpLinks (withSense s senses fun s => mbGo s fail) else s)

/-- BLOCK_DEFER_TIMEOUT (R492): the oldest waiting block is answered DEFERRED, 50 ms after it arrived. -/
def execBlockDeferTimeout (s : State) : Host.Outcome State Fault Refusal :=
  .next (whenReg s fun s =>
    match s.upd.pend with
    | [] => s
    | p :: t =>
      let s := reach s (p.since + 37500000)
      let s := answerBlock { s with upd := { s.upd with pend := t } } p 8
      pumpLinks (if t = [] then dropJob s .updBlock else s))

/-- FLASH_DEFER_RETRY (R478): 1 ms after the check that failed, every deferred command is checked again, in the
order of deferral, and the requests behind a deferred block follow it (R375). -/
def execFlashDeferRetry (senses : List Nat) (s : State) : Host.Outcome State Fault Refusal :=
  .next (whenReg s fun s =>
    let s := if s.boot.deferred = [] then s else reach s (s.boot.checkAt + 750000)
    pumpLinks (withSense s senses retryJobs))

end Sys2Proof.Machine
end

