-- ==== Sys2Proof/Machine/Ras2.lean ====
section
/-!
DEFINITION. UNCORRECTABLE_WORD (R535, R536, R542): what is lost, by the place of the word.
-/

namespace Sys2Proof.Machine

/-- A contained fault at an address of bulk space (R536, R545). -/
def bulkFault (s : State) (ofs : Nat) : State := ctFault s 0x130088 ofs

/-- An uncorrectable word in an album snapshot: VALID is cleared, and its Scent entries go when the table next
changes (R288, R536). -/
def loseSnap (s : State) (slot i : Nat) : State :=
  let x := s.snap slot i
  let s := { s with sct := { s.sct with lost := (slot, i) :: s.sct.lost } }
  let t := s.slot slot
  let s := if x.valid && t.subj then setSlot s slot { t with albumN := t.albumN - 1 } else s
  setSnap s slot i { x with flags := x.flags / 2 * 2 }

/-- The END_OF_FRAME of a frame on a stream is to set TRUNC: the one to come, or the one in its queue.  `key` names
the frame data. -/
def markCut (s : State) (key frame : Nat) : State :=
  let f := s.streamFrame key
  if f.begun = true ∧ f.frame = frame then setStreamFrame s key { f with cut := true }
  else
    let fix := fun (p : Pkt) =>
      if p.type = 0x02 ∧ p.key = key ∧ p.tag = frame then
        { p with body := (p.body.take 1) ++ [(p.body.drop 1).headD 0 ||| 1] ++ p.body.drop 2 }
      else p
    { s with nlk := { s.nlk with img := s.nlk.img.map fix, meta_ := s.nlk.meta_.map fix } }

/-- The queued stream packet at a position, IMG before META, is not sent (R536). -/
def losePacket (s : State) (pos : Nat) : State :=
  match (s.nlk.img ++ s.nlk.meta_)[pos]? with
  | none => s
  | some p =>
    let n := s.nlk.img.length
    let s := { s with nlk := { s.nlk with
      img := s.nlk.img.eraseIdx pos,
      meta_ := if pos < n then s.nlk.meta_ else s.nlk.meta_.eraseIdx (pos - n) } }
    markCut (bump s (nlkDrop p.stream)) p.key p.tag

/-- The Collar in a ring slot is not sent (R536).
DEDUCED (log 157). -/
def loseCollar (s : State) (slot : Nat) : State :=
  let hit := fun (p : Pkt) => decide (p.type = 0x01 ∧ p.stream = 4 ∧ p.tag % 4 = slot)
  match s.nlk.meta_.find? hit with
  | none => s
  | some p =>
    let s := { s with nlk := { s.nlk with meta_ := s.nlk.meta_.filter (fun x => !hit x) } }
    markCut (bump s (nlkDrop 4)) 4 p.tag

/-- A tile's charge in the burst store is lost (R536): of the frame now read while its row waits, else of
the frame now exposing.
DEDUCED (log 156). -/
def loseBurst (s : State) (t : Nat) : State :=
  let out := fun (m : SMap Nat) => m.filter (fun p => decide (p.1 / 2 ≠ t))
  let p := s.img.prv
  if p.burstHeld.any (fun q => decide (q.1 / 2 = t)) && !p.ready.contains (t / 64) then
    { s with img := { s.img with prv := { p with burstHeld := out p.burstHeld } } }
  else
    { s with img := { s.img with cur := { s.img.cur with burstHeld := out s.img.cur.burstHeld } } }

/-- A link retrains with FRESH sent by the device (R368, R536). -/
def freshRetrain (s : State) (l : Nat) : State :=
  let s := freshReset (leaveUp s l) l
  setLink s l { s.link l with fresh := true }

/-- A cue whose journal word is bad in both copies is removed (R542).
DEDUCED (log 158). -/
def loseCue (s : State) (n cseq : Nat) : State :=
  let p := s.lp n
  let s := setLp s n { p with cues := p.cues.filter (fun c => decide (c.cseq ≠ cseq)) }
  let s := bump (bump s 0x130088) 0x130098
  confirmFails (logEvent s 0x26 0x06 1 true 0x130098 (n * 65536 + cseq) 0)

/-- The statistics bank without a tile's VALID, or without COMPLETE (R536). -/
def loseStat (s : State) (b : Nat) (tile : Option Nat) : State :=
  let k := s.bank b
  match tile with
  | some t =>
    let x := mget TileSum.zero k.tiles t
    setBank s b { k with tiles := mput TileSum.zero k.tiles t { x with flags := x.flags / 2 * 2 } }
  | none => setBank s b { k with state := k.state / 2 * 2, lost := true }

/-- What an uncorrectable word costs (R536, R542).
DEDUCED (log 156). DEDUCED (log 158). -/
def uncorrectable (s : State) (loc : UeLoc) : State :=
  match loc with
  | .supervisor a => ueFault s a
  | .kennelSlot i => bulkFault { s with ken := { s.ken with broken := i :: s.ken.broken } } (128 * i)
  | .album i n => bulkFault (loseSnap s i n) (0x2000000 + 4096 * i + 64 * n)
  | .scentSet i =>
    bulkFault { s with sct := { s.sct with sets := unput s.sct.sets i } } (0x3000000 + 64 * i)
  | .pyramidRow src b lam r =>
    let p := s.pyrAt src b
    bulkFault (setPyr s src b { p with bad := (4096 * lam + r) :: p.bad })
      (0x4000000 + 0x2000000 * src + 0x1000000 * b
        + [0, 0xC00000, 0xF00000].getD lam 0 + p.lw lam * r)
  | .statTile b t => bulkFault (loseStat s (b % 2) (some t)) (0xA000000 + 0x100000 * b + 0xA000 + 32 * t)
  | .statHeader b => bulkFault (loseStat s (b % 2) none) (0xA000000 + 0x100000 * b)
  | .auxStatHeader c b =>
    bulkFault (loseStat s (2 + 2 * (c % 2) + b % 2) none) (0xA200000 + 0x20000 * c + 0x10000 * b)
  | .offset e =>
    bulkFault { s with cnv := { s.cnv with zeroed := e :: s.cnv.zeroed } } (0xA800000 + 2 * e)
  | .burst t => bulkFault (loseBurst s t) t
  | .streamPkt pos => bulkFault (losePacket s pos) 0
  | .collar i => bulkFault (loseCollar s i) (0xA400000 + 0x20000 * i)
  | .replay l => bulkFault (freshRetrain s l) l
  | .cueJournal n c both => if both then loseCue s n c else correctedWords s false 1
  | .tickJournal i both =>
    if both then
      bulkFault (bump { s with ptr := { s.ptr with badJournal := i :: s.ptr.badJournal } } 0x130098) (128 * i)
    else correctedWords s true 1

/-- UNCORRECTABLE_WORD (R536). -/
def execUncorrectableWord (loc : UeLoc) (s : State) : Host.Outcome State Fault Refusal :=
  .next (whenFault s fun s => uncorrectable s loc)

end Sys2Proof.Machine
end

