-- ==== Sys2Proof/Machine/Dispatch.lean ====
section
/-!
DEFINITION. The dispatch: one direct call of its meaning for every command, in the order of the table.
-/

namespace Sys2Proof.Machine

/-- The effect of a command on everything but the queue. -/
def exec (i : Instr) (s : State) : Host.Outcome State Fault Refusal :=
  match i with
  | .coldStart a0 => Sys2Proof.Machine.execColdStart a0 s
  | .warmRestart a0 => Sys2Proof.Machine.execWarmRestart a0 s
  | .resetAssert a0 => Sys2Proof.Machine.execResetAssert a0 s
  | .supplyExcursion a0 => Sys2Proof.Machine.execSupplyExcursion a0 s
  | .drbgReseed a0 => Sys2Proof.Machine.execDrbgReseed a0 s
  | .pllLock run => Sys2Proof.Machine.execPllLock run s
  | .pllLockTimeout a0 => Sys2Proof.Machine.execPllLockTimeout a0 s
  | .pllGLockTimeout => Sys2Proof.Machine.execPllGLockTimeout s
  | .pllCUnlock => Sys2Proof.Machine.execPllCUnlock s
  | .pllSUnlock => Sys2Proof.Machine.execPllSUnlock s
  | .pllGUnlock => Sys2Proof.Machine.execPllGUnlock s
  | .refLost => Sys2Proof.Machine.execRefLost s
  | .refclkReturn => Sys2Proof.Machine.execRefclkReturn s
  | .pllGInputReturn => Sys2Proof.Machine.execPllGInputReturn s
  | .firstTickEdge a0 => Sys2Proof.Machine.execFirstTickEdge a0 s
  | .tickEdge a0 => Sys2Proof.Machine.execTickEdge a0 s
  | .trig0Edge pin env => Sys2Proof.Machine.execTrig0Edge pin env s
  | .syntheticEdge a0 => Sys2Proof.Machine.execSyntheticEdge a0 s
  | .bracketMaxAbort a0 => Sys2Proof.Machine.execBracketMaxAbort a0 s
  | .tileRowFlush => Sys2Proof.Machine.execTileRowFlush s
  | .exposureStart a0 a1 => Sys2Proof.Machine.execExposureStart a0 a1 s
  | .transfer a0 a1 => Sys2Proof.Machine.execTransfer a0 a1 s
  | .trig1LevelChange u level => Sys2Proof.Machine.execTrig1LevelChange u level s
  | .rowSlot a0 a1 a2 => Sys2Proof.Machine.execRowSlot a0 a1 a2 s
  | .pyramidReady a0 a1 => Sys2Proof.Machine.execPyramidReady a0 a1 s
  | .matchJobComplete a0 a1 => Sys2Proof.Machine.execMatchJobComplete a0 a1 s
  | .scentProbe => Sys2Proof.Machine.execScentProbe s
  | .knownAnswerJob a0 => Sys2Proof.Machine.execKnownAnswerJob a0 s
  | .readoutEnd => Sys2Proof.Machine.execReadoutEnd s
  | .offsetRefresh => Sys2Proof.Machine.execOffsetRefresh s
  | .refreshDue => Sys2Proof.Machine.execRefreshDue s
  | .statsComplete => Sys2Proof.Machine.execStatsComplete s
  | .aeRun => Sys2Proof.Machine.execAeRun s
  | .aeRunEnd => Sys2Proof.Machine.execAeRunEnd s
  | .matchCutoff a0 a1 a2 => Sys2Proof.Machine.execMatchCutoff a0 a1 a2 s
  | .replayWindowEnd => Sys2Proof.Machine.execReplayWindowEnd s
  | .bookkeeping => Sys2Proof.Machine.execBookkeeping s
  | .solvePoint => Sys2Proof.Machine.execSolvePoint s
  | .heelPortPark a0 => Sys2Proof.Machine.execHeelPortPark a0 s
  | .overrideTtlExpiry a0 => Sys2Proof.Machine.execOverrideTtlExpiry a0 s
  | .heelDeadline => Sys2Proof.Machine.execHeelDeadline s
  | .leashLatch a0 => Sys2Proof.Machine.execLeashLatch a0 s
  | .partnerLost a0 => Sys2Proof.Machine.execPartnerLost a0 s
  | .leashAck a0 a1 a2 => Sys2Proof.Machine.execLeashAck a0 a1 a2 s
  | .cueExpired a0 a1 => Sys2Proof.Machine.execCueExpired a0 a1 s
  | .cueSendsDone a0 a1 => Sys2Proof.Machine.execCueSendsDone a0 a1 s
  | .lshCueOp a0 a1 a2 => Sys2Proof.Machine.execLshCueOp a0 a1 a2 s
  | .ltcWord u word ok => Sys2Proof.Machine.execLtcWord u word ok s
  | .genlockPulse a0 => Sys2Proof.Machine.execGenlockPulse a0 s
  | .genlockHoldover => Sys2Proof.Machine.execGenlockHoldover s
  | .syncEdge pin => Sys2Proof.Machine.execSyncEdge pin s
  | .timerFire a0 => Sys2Proof.Machine.execTimerFire a0 s
  | .gtCompareLo a0 a1 a2 => Sys2Proof.Machine.execGtCompareLo a0 a1 a2 s
  | .gtEnable a0 a1 a2 => Sys2Proof.Machine.execGtEnable a0 a1 a2 s
  | .slowClockEntry => Sys2Proof.Machine.execSlowClockEntry s
  | .busClockReturn => Sys2Proof.Machine.execBusClockReturn s
  | .watchdogExpiry => Sys2Proof.Machine.execWatchdogExpiry s
  | .lockstepMismatch => Sys2Proof.Machine.execLockstepMismatch s
  | .uncorrectableWord a0 => Sys2Proof.Machine.execUncorrectableWord a0 s
  | .scrubLine a0 a1 => Sys2Proof.Machine.execScrubLine a0 a1 s
  | .unitFault a0 => Sys2Proof.Machine.execUnitFault a0 s
  | .thermalTrip => Sys2Proof.Machine.execThermalTrip s
  | .thermalRecovery => Sys2Proof.Machine.execThermalRecovery s
  | .logSecond => Sys2Proof.Machine.execLogSecond s
  | .logFlush a0 => Sys2Proof.Machine.execLogFlush a0 s
  | .flashDeferRetry a0 => Sys2Proof.Machine.execFlashDeferRetry a0 s
  | .pfwAssert => Sys2Proof.Machine.execPfwAssert s
  | .pfwRelease => Sys2Proof.Machine.execPfwRelease s
  | .expSetOpen a0 => Sys2Proof.Machine.execExpSetOpen a0 s
  | .expSetClose a0 => Sys2Proof.Machine.execExpSetClose a0 s
  | .expSetAbort a0 => Sys2Proof.Machine.execExpSetAbort a0 s
  | .refreshNow a0 => Sys2Proof.Machine.execRefreshNow a0 s
  | .aeCtrlWrite a0 a1 => Sys2Proof.Machine.execAeCtrlWrite a0 a1 s
  | .kenCmdKill a0 => Sys2Proof.Machine.execKenCmdKill a0 s
  | .kenCmdSetGroups a0 => Sys2Proof.Machine.execKenCmdSetGroups a0 s
  | .kenCmdSetPersist a0 a1 => Sys2Proof.Machine.execKenCmdSetPersist a0 a1 s
  | .kenCueGo a0 a1 => Sys2Proof.Machine.execKenCueGo a0 a1 s
  | .pllGWrite a0 a1 a2 => Sys2Proof.Machine.execPllGWrite a0 a1 a2 s
  | .lockDetectWrite a0 a1 a2 => Sys2Proof.Machine.execLockDetectWrite a0 a1 a2 s
  | .clkoutEnable a0 a1 a2 => Sys2Proof.Machine.execClkoutEnable a0 a1 a2 s
  | .clkoutChange a0 a1 a2 a3 => Sys2Proof.Machine.execClkoutChange a0 a1 a2 a3 s
  | .clkoutDisable a0 a1 a2 => Sys2Proof.Machine.execClkoutDisable a0 a1 a2 s
  | .auxPortEnable a0 a1 a2 => Sys2Proof.Machine.execAuxPortEnable a0 a1 a2 s
  | .auxPortDisable a0 a1 a2 => Sys2Proof.Machine.execAuxPortDisable a0 a1 a2 s
  | .auxDeskew rx => Sys2Proof.Machine.execAuxDeskew rx s
  | .auxFs rx vc num => Sys2Proof.Machine.execAuxFs rx vc num s
  | .auxFe rx vc num => Sys2Proof.Machine.execAuxFe rx vc num s
  | .auxLongPacket a0 a1 => Sys2Proof.Machine.execAuxLongPacket a0 a1 s
  | .auxMissing a0 => Sys2Proof.Machine.execAuxMissing a0 s
  | .regRd a0 a1 a2 => Sys2Proof.Machine.execRegRd a0 a1 a2 s
  | .regWr a0 a1 a2 a3 => Sys2Proof.Machine.execRegWr a0 a1 a2 a3 s
  | .bulkRd a0 a1 a2 => Sys2Proof.Machine.execBulkRd a0 a1 a2 s
  | .bulkWr a0 a1 a2 a3 => Sys2Proof.Machine.execBulkWr a0 a1 a2 a3 s
  | .updBlock a0 a1 a2 a3 a4 a5 => Sys2Proof.Machine.execUpdBlock a0 a1 a2 a3 a4 a5 s
  | .trackSeed a0 a1 => Sys2Proof.Machine.execTrackSeed a0 a1 s
  | .trackKill a0 a1 => Sys2Proof.Machine.execTrackKill a0 a1 s
  | .aimOverride a0 a1 => Sys2Proof.Machine.execAimOverride a0 a1 s
  | .timeSet a0 a1 a2 => Sys2Proof.Machine.execTimeSet a0 a1 a2 s
  | .unknownPacket a0 a1 => Sys2Proof.Machine.execUnknownPacket a0 a1 s
  | .nlkAck a0 a1 => Sys2Proof.Machine.execNlkAck a0 a1 s
  | .nlkNak a0 a1 => Sys2Proof.Machine.execNlkNak a0 a1 s
  | .nlkCredit a0 a1 a2 => Sys2Proof.Machine.execNlkCredit a0 a1 a2 s
  | .nlkAlign rx => Sys2Proof.Machine.execNlkAlign rx s
  | .nlkLaneFailRx a0 a1 => Sys2Proof.Machine.execNlkLaneFailRx a0 a1 s
  | .nlkTs l rx tx fresh credits => Sys2Proof.Machine.execNlkTs l rx tx fresh credits s
  | .laneFailure a0 a1 => Sys2Proof.Machine.execLaneFailure a0 a1 s
  | .linkRetrain a0 a1 => Sys2Proof.Machine.execLinkRetrain a0 a1 s
  | .trainingTimeout a0 => Sys2Proof.Machine.execTrainingTimeout a0 s
  | .trainingRetry a0 a1 => Sys2Proof.Machine.execTrainingRetry a0 a1 s
  | .replayTimeout a0 => Sys2Proof.Machine.execReplayTimeout a0 s
  | .creditStall a0 a1 => Sys2Proof.Machine.execCreditStall a0 a1 s
  | .packetTransmit a0 => Sys2Proof.Machine.execPacketTransmit a0 s
  | .mgbPointerSet a0 => Sys2Proof.Machine.execMgbPointerSet a0 s
  | .mgbRegisterWrite a0 a1 => Sys2Proof.Machine.execMgbRegisterWrite a0 a1 s
  | .mgbBlockRead a0 a1 a2 => Sys2Proof.Machine.execMgbBlockRead a0 a1 a2 s
  | .mgbCurrentAddressRead a0 => Sys2Proof.Machine.execMgbCurrentAddressRead a0 s
  | .mgbAbort => Sys2Proof.Machine.execMgbAbort s
  | .mgbRsAck => Sys2Proof.Machine.execMgbRsAck s
  | .mgbSdaTimeout => Sys2Proof.Machine.execMgbSdaTimeout s
  | .mgbStretchTimeout a0 => Sys2Proof.Machine.execMgbStretchTimeout a0 s
  | .bark a0 => Sys2Proof.Machine.execBark a0 s
  | .barkRetry a0 => Sys2Proof.Machine.execBarkRetry a0 s
  | .barkPendClear a0 a1 => Sys2Proof.Machine.execBarkPendClear a0 a1 s
  | .rcRead a0 a1 => Sys2Proof.Machine.execRcRead a0 a1 s
  | .registerWrite a0 a1 a2 => Sys2Proof.Machine.execRegisterWrite a0 a1 a2 s
  | .updMbGo a0 a1 a2 => Sys2Proof.Machine.execUpdMbGo a0 a1 a2 s
  | .blockDeferTimeout => Sys2Proof.Machine.execBlockDeferTimeout s
  | .updAbort a0 => Sys2Proof.Machine.execUpdAbort a0 s
  | .updVerify => Sys2Proof.Machine.execUpdVerify s
  | .verifyPassDone a0 => Sys2Proof.Machine.execVerifyPassDone a0 s
  | .updActivate a0 a1 => Sys2Proof.Machine.execUpdActivate a0 a1 s
  | .activateTimeout => Sys2Proof.Machine.execActivateTimeout s
  | .updConfirm a0 => Sys2Proof.Machine.execUpdConfirm a0 s
  | .updReject a0 => Sys2Proof.Machine.execUpdReject a0 s
  | .updRollback a0 a1 => Sys2Proof.Machine.execUpdRollback a0 a1 s
  | .confirmWindowEnd a0 => Sys2Proof.Machine.execConfirmWindowEnd a0 s
  | .otpProgGo a0 a1 a2 => Sys2Proof.Machine.execOtpProgGo a0 a1 a2 s
  | .otpPulseDone a0 => Sys2Proof.Machine.execOtpPulseDone a0 s
  | .debugRequest => Sys2Proof.Machine.execDebugRequest s
  | .secDbgGo a0 => Sys2Proof.Machine.execSecDbgGo a0 s
  | .debugWaitTimeout => Sys2Proof.Machine.execDebugWaitTimeout s
  | .archiveRead a0 a1 => Sys2Proof.Machine.execArchiveRead a0 a1 s
  | .pllGInputLost => Sys2Proof.Machine.execPllGInputLost s
  | .genericShortPacket h => Sys2Proof.Machine.execGenericShortPacket h s
  | .uncorrectableHeader rx => Sys2Proof.Machine.execUncorrectableHeader rx s
  | .controlUnitBadCrc u => Sys2Proof.Machine.execControlUnitBadCrc u s

end Sys2Proof.Machine
end

