-- ==== Sys2Proof/Machine/Step.lean ====
section
/-!
DEFINITION. One step: the command at the front of the queue is executed on the state with the queue's
rest; on an empty queue the clock that drives TB makes one cycle.
-/

namespace Sys2Proof.Machine

/-- The state with its queue replaced. -/
def State.withQueue (s : State) (q : List Instr) : State := { s with pending := q }

/-- One step of the block.
DESIGN CHOICE (log 1). DESIGN CHOICE (log 9). -/
def step (s : State) : Host.Outcome State Fault Refusal :=
  match s.pending with
  | [] => .next (clockCycle s)
  | c :: rest => exec c (s.withQueue rest)

/-- The state with the command that a word spells at the front of its queue.
DESIGN CHOICE (log 4). -/
def State.withFetchWord (s : State) (nbits w : Nat) : State :=
  match decodeTableWord nbits w with
  | some c => s.withQueue (c :: s.pending)
  | none => s

end Sys2Proof.Machine
end

