-- ==== Sys2Proof/Machine/Pins.lean ====
section
/-!
DEFINITION. The output pins whose level the spec states as a rule over the rest of the state: the Leash
transmitters (R36, R37, R318), LOCK_A (R406), and the other outputs before ticks begin (R411, R459, R573).
-/

namespace Sys2Proof.Machine

/-- What an LPn_TX pin does. -/
inductive TxPin where
  | highZ
  | high
  /-- A frame, or a packet with its break, is being sent: its bytes. -/
  | sending (bytes : List Byte)
deriving DecidableEq, Repr

/-- Ticks have not begun: the supplies or RESET_B hold the device, or a start is due or under way (R318). -/
def beforeTicks (s : State) : Bool :=
  match s.sys.phase with
  | .run => false
  | .dark => false
  | _ => true

/-- LPn_TX: the first row of R318 that applies. -/
def lpTx (s : State) (n : Nat) : TxPin :=
  let p := s.lp n
  if beforeTicks s then .highZ
  else if s.sys.phase = .dark then .highZ
  else if modeIn p.cfg = 0 then .highZ
  else if clkLow s n then .high
  else if s.time.tb < p.busy then .sending p.line
  else .high

/-- The level on LOCK_A with its pull-up and capacitor (R406). -/
inductive LockPin where
  /-- VPLL is outside its window. -/
  | unpowered
  /-- Above 0.9 · VIO18: the error pulses take under 1 % of the cycle. -/
  | above
  /-- Below 0.75 · VIO18: the pin pulls low for at least 25 % of the time. -/
  | below
deriving DecidableEq, Repr

/-- CLK_LOCKA.SEL: 0 PLL-C, 1 PLL-S, 2 PLL-G; 3 acts as 0 (R416); PLL-C in a reset (R406). -/
def lockSel (s : State) : Nat :=
  let x := s.fc 0x010070 0 2
  if x = 3 ∨ s.sys.phase = .held then 0 else x

/-- The loop that LOCK_A follows has lock. -/
def lockOf (s : State) : Bool :=
  s.sys.phase != .held && match lockSel s with
  | 1 => s.clk.sLock
  | 2 => s.clk.gLock
  | _ => s.clk.cLock

/-- LOCK_A (R406), in every tier, from the moment VPLL is in its window. -/
def lockA (s : State) : LockPin :=
  if !s.sys.vpllOk then .unpowered else if lockOf s then .above else .below

/-- CLKOUTi_P is high-impedance: in reset, before ticks begin, in T0, and while the output neither runs nor holds low
for a SYNC reset (R409 to R411, R573). -/
def clkoutHighZ (s : State) (i : Nat) : Bool :=
  beforeTicks s || s.sys.phase == .dark || !((s.out i).running || (s.out i).low)

/-- CLKOUTi_N is high-impedance: with CLKOUTi_P, and in the LVCMOS formats (R409). -/
def clkoutNegHighZ (s : State) (i : Nat) : Bool := clkoutHighZ s i || decide (2 ≤ (s.out i).fmt)

/-- The lanes of a Neleklink link are in electrical idle: in reset, until the first tick edge, and while the link is off
(R459, R573). -/
def nlkIdle (s : State) (l : Nat) : Bool :=
  beforeTicks s || s.sys.phase == .dark || (s.link l).state == .off

/-- No output is driven: from the first rail rising until the first tick edge, and from PGOOD falling on (R573).
DEDUCED (log 218). -/
def outHighZ (s : State) : Bool := s.sys.pgoodLow || !s.sys.edgeSeen

/-- The outputs of the device; those of the flash between two accesses of it. -/
inductive OutPin where
  | lpTx (port : Nat)
  | clkoutP (i : Nat)
  | clkoutN (i : Nat)
  | lanes (link : Nat)
  | xspiCs
  | xspiClk
  | xspiDq
  | xspiReset
  | tdo
deriving DecidableEq, Repr

/-- An output pin is high-impedance (R573), and for the pins with a rule of their own by that one too (R318, R409, R411,
R459). -/
def pinHighZ (s : State) : OutPin → Bool
  | .lpTx n => outHighZ s || lpTx s n == .highZ
  | .clkoutP i => outHighZ s || clkoutHighZ s i
  | .clkoutN i => outHighZ s || clkoutNegHighZ s i
  | .lanes l => outHighZ s || nlkIdle s l
  | _ => outHighZ s

/-- XSPI_CS_B between two accesses of the flash: high-impedance where no output is driven, high otherwise (R573).
DEDUCED (log 218). -/
def csHighZ (s : State) : Bool := pinHighZ s .xspiCs

end Sys2Proof.Machine
end

