-- ==== Sys2Proof/Safety.lean ====
section
/-!
DEFINITION. What counts as a safe run: no step of it ends in a fault or a refusal.
-/

namespace Sys2Proof

/-- A step answers a next state. -/
def runsOn (s : Machine.State) : Prop := ∃ t, Machine.step s = .next t

/-- The states reached by a number of steps all run on. -/
def Safe : Nat → Machine.State → Prop
  | 0, _ => True
  | n + 1, s => ∃ t, Machine.step s = .next t ∧ Safe n t

end Sys2Proof
end

