-- ==== Sys2Proof/WellFormed.lean ====
section
/-!
DEFINITION. Well-formed commands: every operand lies in the range that the spec gives it.
-/

namespace Sys2Proof

/-- What a comparator shows at the self-test: four latched words and two sums of four codes (R118). -/
def LineTest.wf (l : LineTest) : Bool :=
  decide (l.latch.length = 4 ∧ l.low ≤ 16380 ∧ l.high ≤ 16380) && l.latch.all (fun g => decide (g < 8192))

/-- A converter under test: an existing column and bank, a spare of its group (R102, R118). -/
def ConvTest.wf (f : ConvTest) : Bool :=
  decide (f.column < 8256 ∧ f.bank < 4) && f.spare.all (fun n => decide (n < 4)) && f.a.wf && f.b.wf

/-- The latches of one comparator: a bank, a column and a node (R102, R104). -/
def Capture.wf (c : Capture) : Bool := decide (c.row < 4 ∧ c.col < 8256 ∧ c.node < 2)

/-- Codes of the 12-bit monitor converter (R478). -/
def sensesWf (l : List Nat) : Bool := l.all (fun n => decide (n < 4096))

/-- What one start meets: MA, the nonce, and the measurements of converters and trims (R110, R118, R126, R441,
R527). -/
def StartEnv.wf (e : StartEnv) : Bool :=
  decide (e.ma < 8 ∧ e.nonce.length = 32 ∧ e.coreFail < 256)
    && decide (e.levels.length = 4) && e.levels.all (fun q => decide (q.1 ≤ 16380 ∧ q.2 ≤ 16380))
    && e.convTests.all ConvTest.wf
    && e.trims.all (fun t => decide (t.n < 32 ∧ t.ratio < 65536 ∧ t.median < 512))
    && sensesWf e.senses && e.drifted.all (fun q => decide (q.1 < 32768 ∧ q.2 < 4))
    && decide (e.obSlots.length ≤ 256) && e.obSlots.all (fun c => c.caps.all Capture.wf)

/-- A received packet: its link, SEQ and LEN fields (R370). -/
def RxHdr.wf (h : RxHdr) : Bool := decide (h.link < 2 ∧ h.seq < 65536 ∧ h.len < 4096 ∧ h.tag < 2 ^ 32)

/-- The lanes are not in stop state and the clock lane in HS mode at once (R205). -/
def PktPhy.wf (h : PktPhy) : Bool := !(h.stop && h.hs)

/-- A transmission on one of the two ports. -/
def AuxRx.wf (r : AuxRx) : Bool := decide (r.port < 2) && r.phy.wf

/-- A long packet: its virtual channel, data type and word count (R189, R194). -/
def LongPkt.wf (p : LongPkt) : Bool :=
  decide (p.vc < 16 ∧ p.dt < 64 ∧ p.wc < 65536 ∧ p.bytes.length ≤ p.wc) && p.phy.wf

/-- The place of an uncorrectable word (R536, R560). -/
def UeLoc.wf : UeLoc → Bool
  | .supervisor a => decide (a < 2 ^ 32)
  | .kennelSlot i => decide (i < 262144)
  | .album i n => decide (i < 4096 ∧ n < 64)
  | .scentSet i => decide (i < 262144)
  | .pyramidRow src b lam r => decide (src < 3 ∧ b < 2 ∧ lam < 3 ∧ r < 3072)
  | .statTile b t => decide (b < 2 ∧ t < 3072)
  | .statHeader b => decide (b < 2)
  | .auxStatHeader c b => decide (c < 2 ∧ b < 2)
  | .offset e => decide (e < 262144)
  | .burst t => decide (t < 3072)
  | .streamPkt _ => true
  | .collar i => decide (i < 4)
  | .replay l => decide (l < 2)
  | .cueJournal n c _ => decide (n < 128 ∧ c < 65536)
  | .tickJournal i _ => decide (i < 262144)

/-- A pulse leaves its fuse at one of four levels (R508, R520). -/
def PulseResult.wf : PulseResult → Bool
  | .done l => decide (l < 4)
  | .aborted _ l => decide (l < 4)

/-- An address of control space (R555). -/
def ctrlAddr (a : Nat) : Bool := decide (a < 2 ^ 24 ∧ a % 4 = 0)

/-- The operands of a command are in range. -/
def Instr.wf : Instr → Bool
  | .coldStart e => e.wf
  | .warmRestart e => e.wf
  | .exposureStart t n => decide (t < 3072 ∧ 1 ≤ n ∧ n ≤ 4)
  | .transfer t n => decide (t < 3072 ∧ 1 ≤ n ∧ n ≤ 4)
  | .rowSlot _ _ caps => caps.all Capture.wf
  | .pyramidReady src _ => decide (src < 3)
  | .matchJobComplete slot by_ => decide (slot < 262144 ∧ by_.lane < 65)
  | .knownAnswerJob l => l.all (fun n => decide (n < 65))
  | .heelPortPark n => decide (n < 128)
  | .overrideTtlExpiry n => decide (n < 128)
  | .leashLatch n => decide (n < 128)
  | .partnerLost n => decide (n < 128)
  | .leashAck n _ _ => decide (n < 128)
  | .cueExpired n c => decide (n < 128 ∧ 1 ≤ c ∧ c < 65536)
  | .cueSendsDone n c => decide (n < 128 ∧ 1 ≤ c ∧ c < 65536)
  | .lshCueOp _ n op => decide (n < 128 ∧ op < 256)
  | .timerFire n => decide (n < 8)
  | .gtCompareLo _ n _ => decide (n < 8)
  | .gtEnable _ n _ => decide (n < 8)
  | .uncorrectableWord loc => loc.wf
  | .kenCueGo _ c => decide (c < 256)
  | .pllGWrite _ a _ => ctrlAddr a && decide (0x010040 ≤ a ∧ a ≤ 0x010054)
  | .clkoutEnable _ i _ => decide (i < 4)
  | .clkoutChange _ i w _ => decide (i < 4 ∧ w < 3)
  | .clkoutDisable _ i _ => decide (i < 4)
  | .auxPortEnable _ p _ => decide (p.port < 2) && !(p.stop && p.hs)
  | .auxPortDisable _ p _ => decide (p < 2)
  | .auxDeskew r => r.wf
  | .auxFs r vc num => r.wf && decide (vc < 16 ∧ num < 65536)
  | .auxFe r vc num => r.wf && decide (vc < 16 ∧ num < 65536)
  | .auxLongPacket p k => decide (p < 2) && k.wf
  | .auxMissing b => decide (b < 2)
  | .regRd h _ _ => h.wf
  | .regWr h _ count words => h.wf && decide (words.length = count)
  | .bulkRd h _ _ => h.wf
  | .bulkWr h _ bytes data => h.wf && decide (data.length = bytes)
  | .updBlock h _ length data l _ => h.wf && decide (data.length = length) && sensesWf l
  | .trackSeed h _ => h.wf
  | .trackKill h _ => h.wf
  | .aimOverride h _ => h.wf
  | .timeSet h _ _ => h.wf
  | .unknownPacket h t => h.wf && decide (t < 256 ∧ (t < 0x41 ∨ 0x49 < t))
  | .nlkAck l n => decide (l < 2 ∧ n < 65536)
  | .nlkNak l n => decide (l < 2 ∧ n < 65536)
  | .nlkCredit l c n => decide (l < 2 ∧ c < 3 ∧ n < 65536)
  | .nlkAlign r => decide (r.link < 2 ∧ r.row < 2 ^ 24 ∧ r.skew.length ≤ 16)
  | .nlkLaneFailRx l _ => decide (l < 2)
  | .nlkTs l rx _ _ _ => decide (l < 2 ∧ rx.order.length ≤ 16) && rx.order.all (fun q => decide (q.1 < 16))
  | .laneFailure l lane => decide (l < 2 ∧ lane < 16)
  | .linkRetrain _ l => decide (l < 2)
  | .trainingTimeout l => decide (l < 2)
  | .trainingRetry l _ => decide (l < 2)
  | .replayTimeout l => decide (l < 2)
  | .creditStall l c => decide (l < 2 ∧ c < 3)
  | .packetTransmit l => decide (l < 2)
  | .controlUnitBadCrc u => decide (u.link < 2 ∧ u.bytes.length = 8) && Machine.badUnit u.bytes
  | .mgbPointerSet p => decide (p < 2 ^ 24)
  | .mgbRegisterWrite p _ => decide (p < 2 ^ 24)
  | .mgbBlockRead p c _ => decide (p < 2 ^ 24 ∧ c < 256)
  | .rcRead _ a => ctrlAddr a
  | .registerWrite _ a _ => ctrlAddr a
  | .otpPulseDone r => r.wf
  | .secDbgGo l => decide (l.length = 6) && l.all (fun p => p.result.wf)
  | .archiveRead _ i => decide (i < 131072)
  | .genericShortPacket h => decide (h.port < 2 ∧ h.vc < 16) && h.phy.wf
  | .uncorrectableHeader r => r.wf
  | .resetAssert _ => true
  | .supplyExcursion _ => true
  | .drbgReseed _ => true
  | .pllLock _ => true
  | .pllLockTimeout _ => true
  | .pllGLockTimeout => true
  | .pllCUnlock => true
  | .pllSUnlock => true
  | .pllGUnlock => true
  | .refLost => true
  | .refclkReturn => true
  | .pllGInputReturn => true
  | .firstTickEdge _ => true
  | .tickEdge _ => true
  | .trig0Edge p _ => decide (p.level.slip < 3)
  | .syntheticEdge _ => true
  | .bracketMaxAbort _ => true
  | .tileRowFlush => true
  | .trig1LevelChange _ p => decide (p.slip < 3)
  | .scentProbe => true
  | .readoutEnd => true
  | .offsetRefresh => true
  | .refreshDue => true
  | .statsComplete => true
  | .aeRun => true
  | .aeRunEnd => true
  | .matchCutoff _ _ _ => true
  | .replayWindowEnd => true
  | .bookkeeping => true
  | .solvePoint => true
  | .heelDeadline => true
  | .ltcWord _ _ _ => true
  | .genlockPulse _ => true
  | .genlockHoldover => true
  | .syncEdge _ => true
  | .slowClockEntry => true
  | .busClockReturn => true
  | .watchdogExpiry => true
  | .lockstepMismatch => true
  | .scrubLine _ _ => true
  | .unitFault _ => true
  | .thermalTrip => true
  | .thermalRecovery => true
  | .logSecond => true
  | .logFlush l => sensesWf l
  | .flashDeferRetry l => sensesWf l
  | .pfwAssert => true
  | .pfwRelease => true
  | .expSetOpen _ => true
  | .expSetClose _ => true
  | .expSetAbort _ => true
  | .refreshNow _ => true
  | .aeCtrlWrite _ _ => true
  | .kenCmdKill _ => true
  | .kenCmdSetGroups _ => true
  | .kenCmdSetPersist _ _ => true
  | .lockDetectWrite _ _ _ => true
  | .mgbCurrentAddressRead _ => true
  | .mgbAbort => true
  | .mgbRsAck => true
  | .mgbSdaTimeout => true
  | .mgbStretchTimeout _ => true
  | .bark _ => true
  | .barkRetry _ => true
  | .barkPendClear _ _ => true
  | .updMbGo _ l _ => sensesWf l
  | .blockDeferTimeout => true
  | .updAbort l => sensesWf l
  | .updVerify => true
  | .verifyPassDone l => sensesWf l
  | .updActivate _ l => sensesWf l
  | .activateTimeout => true
  | .updConfirm l => sensesWf l
  | .updReject l => sensesWf l
  | .updRollback _ l => sensesWf l
  | .confirmWindowEnd l => sensesWf l
  | .otpProgGo _ _ _ => true
  | .debugRequest => true
  | .debugWaitTimeout => true
  | .pllGInputLost => true

end Sys2Proof
end

