-- ==== Sys2Proof/Certificates/Slice0/Obligations.lean ====
section
/-!
DEFINITION. The statements for the provers.  `Sys2Proof.Say` holds the few predicates they are written
with; every statement is a `def Obligations.<Name> : Prop`.
-/

namespace Sys2Proof.Say

open Sys2Proof.Machine

/-- The device runs: a first tick edge is due, or ticks run. -/
abbrev Awake (s : State) : Prop := s.sys.phase = .run ∨ s.sys.phase = .waitFirst

/-- Register accesses are answered: the device runs, or its ROM waits for a debug response. -/
abbrev Answers (s : State) : Prop :=
  s.sys.phase = .run ∨ s.sys.phase = .waitFirst ∨ s.sys.phase = .waitDebug

/-- A tick is open. -/
abbrev Ticking (s : State) : Prop := s.sys.phase = .run ∧ s.time.tickOpen = true

/-- A tick is open, in tier `n` or above. -/
abbrev InTier (n : Nat) (s : State) : Prop := s.sys.phase = .run ∧ s.time.tickOpen = true ∧ n ≤ s.sys.tier

/-- A register has risen by `n`, and saturates at the 32-bit maximum. -/
def Risen (s t : State) (a n : Nat) : Prop :=
  (t.cur a).toNat = min 0xFFFFFFFF ((s.cur a).toNat + n)

/-- Every register whose address is not listed holds what it held. -/
def RegsBut (l : List Nat) (s t : State) : Prop := ∀ a, a ∉ l → t.cur a = s.cur a

/-- One counter has risen by `n`, and nothing else of the machine differs. -/
def CountsOnly (s t : State) (a n : Nat) : Prop :=
  Risen s t a n ∧ RegsBut [a] s t ∧ t = { s with regs := { s.regs with cur := t.regs.cur } }

/-- The flash, the fuses, the waiting commands, the committed registers and the log RAM are as they were. -/
def Stores (s t : State) : Prop :=
  (∀ a, flashByte t a = flashByte s a) ∧ (∀ b, fuseLevel t b = fuseLevel s b)
    ∧ t.pending = s.pending ∧ t.regs.act = s.regs.act ∧ t.log = s.log

/-- The registers that an event entry may touch: LOG_LOST, LOG_OVERRUN, LOG_RATE_DROP, the drop counter of the
LOG stream, and the pending Barks. -/
def logRegisters : List Nat := [0x1300A0, 0x1300A4, 0x1300A8, 0x110228, 0x120010]

/-- No entry of the bus cycle of TB `tb` that may still move has a BLOCK above `block` (R545; which entries may
move is the model's reading, log 203). -/
def LastInCycle (l : Log) (tb block : Nat) : Prop :=
  ∀ i y, i < l.cycle → look l.ram ((l.wr + 4095 - i) % 4096) = some y → y.tb = tb → y.block ≤ block

/-- One event is logged from `s` to `t` (R545): where RATE_MAX of its CODE is not reached in the log second, its
entry, with the TB, the frame and the start count of the event, stands in the ring, which has advanced by one
place and one SEQ; behind entries of its bus cycle with no higher BLOCK it has the next place and the next SEQ.
Within a bus cycle that still goes on it is kept back as an item (the model's own, log 203). -/
def LogsOne (s t : State) (code sev arg0 arg1 arg2 : Nat) : Prop :=
  match s.log.batch with
  | some l => t.log.batch = some (l ++ [{ block := code / 256, kind := code % 256, sev := sev, uncorr := false,
                                          arg0 := arg0, arg1 := arg1, arg2 := arg2 }])
  | none =>
    mget 0 (if t.time.tb / 750000000 = s.log.sec then s.log.codeCnt else []) code < orIf (s.fc 0x130040 8 8) 1 →
    (∃ j q, look t.log.ram j = some
      { tb := t.time.tb, seq := q, frame := t.time.k % 2 ^ 32, code := code, sev := sev,
        start := s.sys.startCount % 256, arg0 := arg0, arg1 := arg1 % 2 ^ 32, arg2 := arg2 % 65536 } ∧
      (LastInCycle s.log t.time.tb (code / 256) → j = s.log.wr ∧ q = (s.log.seq + 1) % 2 ^ 32)) ∧
    t.log.wr = (s.log.wr + 1) % 4096 ∧ t.log.seq = (s.log.seq + 1) % 2 ^ 32 ∧ t.log.batch = none

/-- Phase errors at or below the window of a loop's detector, as many in a row as its N asks for, and errors
above it, as many in a row as its LOSS asks for (R405). -/
abbrev LocksBy (s : State) (l : Pll) (errs : List Nat) : Prop := (ldRun s l false errs).1 = true
abbrev LosesBy (s : State) (l : Pll) (errs : List Nat) : Prop := (ldRun s l true errs).1 = false

/-- The receiver of an auxiliary port works. -/
abbrev PortOn (s : State) (p : Nat) : Prop := p < 2 ∧ InTier 2 s ∧ s.aux.on.contains p = true

/-- A request comes next on a link that is UP, no request before it waits, and its response has room. -/
abbrev InOrder (s : State) (i : Instr) (h : RxHdr) : Prop :=
  Awake s ∧ s.isUp h.link = true ∧ linkUsed s h.link = true ∧ h.ok = true ∧ 1 ≤ h.len ∧
    h.len ≤ rxBuffer (reqClass i) ∧ h.seq % 65536 = (s.seqRec h.link).rxNext ∧
    (s.seqRec h.link).waiting = [] ∧ (s.seqRec h.link).bulk = none ∧ respRoom s (respSize i) = true ∧
    blockWaits s (seqLink s h.link) = false

/-- Flash commands are issued, and the flash takes them: the hold-up check is switched off, and PFW_B is high
and has been for 10 ms. -/
abbrev FlashFree (s : State) : Prop := pfwActive s = false ∧ s.cur 0x030020 = 0 ∧ s.boot.failAt = none

/-- The bytes that a read of `n` bytes consumes (R443, R448): those clocked, at most `n`, and without the last
one while its ninth clock is open. -/
def consumed (n : Nat) (clk : Clocked) : Nat :=
  if clk.cut = true ∧ 0 < clk.bytes ∧ clk.bytes ≤ n then clk.bytes - 1 else min n clk.bytes

/-- The state after a START of the management bus: no byte waits for its ninth clock, no transfer before it is
open, and SDA_TO, 1 to 250 steps of 0.1 ms, is taken up (R448, R453). -/
abbrev BusStart (s : State) : State :=
  { s with mgb := { s.mgb with cut := false, busy := false, sdaTo := max 1 (min 250 (s.fc 0x120000 0 8)) * 75000,
                               lastAt := s.time.tb } }

/-- The word of the register space that holds byte `i` from a pointer on; the pointer has 24 bits. -/
def wordAt (p i : Nat) : Nat := (p + i) % 2 ^ 24 / 4 * 4

/-- A read of `n` bytes from the pointer p takes the state s to t (R443, R445, R448): byte i is a byte of the
word at its address, 0 where no register is, and 0xFF beyond the n; the pointer advances by the bytes consumed;
each RC counter of which a byte was sent is cleared, but for that of a last byte that waits for its ninth clock;
nothing else changes. -/
def BusRead (s : State) (p n : Nat) (clk : Clocked) (t : State) : Prop :=
  let m := min n clk.bytes
  let waits := clk.cut = true ∧ 0 < clk.bytes ∧ clk.bytes ≤ n
  let isRc := fun (a : Nat) => (descOf a).any (·.rc) = true
  t.mgb.wire.length = clk.bytes ∧ t.mgb.ptr = (p + consumed n clk) % 2 ^ 24 ∧
    t.mgb.cut = (clk.cut && decide (0 < clk.bytes)) ∧ t.mgb.busy = t.mgb.cut ∧
    (∀ i, i < m → t.mgb.wire[i]? = some ((le 4 (if (descOf (wordAt p i)).isSome
      then (readWord s .mgb (wordAt p i)).toNat else 0)).getD ((p + i) % 4) 0)) ∧
    t.mgb.wire.drop m = List.replicate (clk.bytes - n) 0xFF ∧
    (∀ i, i < m → isRc (wordAt p i) → ¬(waits ∧ wordAt p i = wordAt p (m - 1)) → t.cur (wordAt p i) = 0) ∧
    (∀ a, ¬ isRc a ∨ (∀ i, i < m → a ≠ wordAt p i) ∨ (waits ∧ a = wordAt p (m - 1)) → t.cur a = s.cur a) ∧
    t = { s with regs := { s.regs with cur := t.regs.cur }, mgb := t.mgb }

/-- The pulse of a TICK output in a tick from E of period T (R407, R408): it rises the pin delay, 6.75 to 11.25
bus counts, and DELAY modulo T after E, and falls DIV bus counts later or at one count before E + T, in 1/64 bus
counts. -/
def pulseIn (o : ClkOut) (e t : Nat) : Option (Nat × Nat) :=
  let rise := 64 * e + clamp 432 720 Config.tickPin + o.delay % (64 * t)
  if rise < min (rise + 64 * o.div) (64 * (e + t - 1)) then
    some (rise, min (rise + 64 * o.div) (64 * (e + t - 1)))
  else none

/-- Every running TICK output pulses in the tick that has opened, whose period is at most T_max (R408). -/
abbrev TickPulses (t : State) : Prop :=
  ∀ i, i < 4 → (t.out i).running = true → (t.out i).src = 4 →
    (t.out i).pulse = pulseIn (t.out i) t.time.e (t.time.cmp - t.time.e)

/-- The pulse of the tick that has ended, whose length is now known, is that of its period (R408). -/
abbrev PulseOfLast (s t : State) : Prop :=
  ∀ i, i < 4 → (s.out i).running = true → (s.out i).src = 4 → (s.out i).pulse.isSome = true →
    (t.out i).lastPulse = pulseIn (s.out i) s.time.e (t.time.e - s.time.e)

/-- Every tick-edge field has been committed as its shadow stood at the end of the bus cycle before the edge
(R85): where nothing has landed since, as it stands; and where one write alone has, without that write. -/
def Committed (s t : State) : Prop :=
  ∀ a d, descOf a = some d →
    let m := BitVec.ofNat 32 d.tick
    t.act a &&& m = rget (s.regs.shadowAt t.time.e) a &&& m ∧
    ((∀ x ∈ s.regs.landed, x.tb < t.time.e) → t.act a &&& m = s.cur a &&& m) ∧
    (∀ x rest, s.regs.landed = x :: rest → t.time.e ≤ x.tb → (∀ y ∈ rest, y.tb < t.time.e) → x.addr = a →
      t.act a &&& m = ((s.cur a &&& ~~~x.mask) ||| (x.old &&& x.mask)) &&& m)

/-- Registers of arrays whose write does more than store: those of PLL-G, of the lock detectors, the outputs and
the general timers, AUX_CTRL, the AE tile mask, LATENCY of a fixture, and LSH_CUE_OP. -/
def actsOnWrite (a : Nat) : Bool :=
  decide (gMask a ≠ 0) || (elem a 0x010060 4 3).isSome
    || [0x010100, 0x010104, 0x010108].any (fun b => (elem a b 0x10 4).isSome)
    || [0x018100, 0x018104, 0x018108, 0x01810C].any (fun b => (elem a b 0x20 8).isSome)
    || (elem a 0x090000 0x400 2).isSome || (elem a 0x0A0400 4 96).isSome || (elem a 0x0E0038 0x100 128).isSome
    || (elem a 0x100014 0x100 128).isSome

/-- Registers whose write stores and does nothing else: no command, no copy per source, none of the units that
act on a write. -/
def storesOnly (a : Nat) : Bool :=
  !isCommand a && !isCopied a && !actsOnWrite a
    && decide (a ∉ [0x018040, 0x018200, 0x050000, 0x0A0000, 0x0B0034, 0x110000, 0x120010, 0x130050])

/-- The first active interval of TRIG1 in a window of EQ boundaries from a to before b: it is active from x to
before y (R81). -/
def Interval (s : State) (a b x y : Nat) : Prop :=
  let active := fun (n : Nat) => levelAt s.img.hist (s.time.e + 32 * n) = trig1Want s
  a ≤ x ∧ x < y ∧ y ≤ b ∧ (∀ n, a ≤ n → n < x → ¬ active n) ∧ (∀ n, x ≤ n → n < y → active n) ∧
    (y < b → ¬ active y)

end Sys2Proof.Say

open Sys2Proof Sys2Proof.Machine Sys2Proof.Say

/-! ## The step and the queue -/

/-- Each constructor's arm of `exec` is what a step runs: the command at the front of the queue, on the state
with the queue's rest. -/
def Obligations.StepRunsTheFrontCommand : Prop :=
  ∀ (s : State) (c : Instr) (q : List Instr),
    step { s with pending := c :: q } = exec c { s with pending := q }

/-- On an empty queue the clock that drives TB makes one cycle (the model's choice, log 1): one count of the bus
clock, 500 of the slow clock, and of REFCLK the counts of R421 with the fraction carried on. In reset nothing
moves. Nothing but the timebase changes. -/
def Obligations.IdleStepCountsTime : Prop :=
  ∀ s : State, s.pending = [] → ∃ t, step s = .next t ∧ t = { s with time := t.time } ∧
    (s.sys.phase = .held → t = s) ∧
    (s.sys.phase ≠ .held → s.time.src = .bus → t.time = { s.time with tb := s.time.tb + 1 }) ∧
    (s.sys.phase ≠ .held → s.time.src = .slow → t.time = { s.time with tb := s.time.tb + 500 }) ∧
    (s.sys.phase ≠ .held → s.time.src = .refclk →
      (refStep s.clk.refCode).2 * t.time.tb + t.time.frac
          = (refStep s.clk.refCode).2 * s.time.tb + s.time.frac + (refStep s.clk.refCode).1 ∧
        t.time.frac < (refStep s.clk.refCode).2)

/-! ## Every command completes

For every command: under conditions on the state and the operands alone, those of its rule, it answers a next state
with its own effect. -/

/-- The commands of clock synthesis (R78, R83, R394, R395, R397 to R402, R405, R410, R412). -/
def Sys2Proof.Say.ClockCommandsComplete : Prop :=
  ∀ s : State, Answers s →
    (∀ errs, s.clk.cEnabled = true → s.clk.cLock = false → s.clk.refLost = false → LocksBy s .c errs → ∃ t,
      exec (.pllLock ⟨.c, errs⟩) s = .next t ∧ t.clk.cLock = true) ∧
    (∀ errs, s.clk.sEnabled = true → s.clk.sLock = false → s.clk.refLost = false → LocksBy s .s errs → ∃ t,
      exec (.pllLock ⟨.s, errs⟩) s = .next t ∧ t.clk.sLock = true) ∧
    (∀ errs, s.clk.gEnabled = true → s.clk.gLock = false → gLegal s = true → LocksBy s .g errs → ∃ t,
      exec (.pllLock ⟨.g, errs⟩) s = .next t ∧ t.clk.gLock = true) ∧
    (s.clk.cLock = false → ∃ t, exec (.pllLockTimeout .c) s = .next t ∧ t.clk.busSrc = 1) ∧
    (s.clk.sLock = false → ∃ t, exec (.pllLockTimeout .s) s = .next t ∧
      ∀ l, l < 2 → (t.link l).state ≠ .training) ∧
    (cleanUse s = true → s.clk.gEver = false → s.clk.gBypassed = false → ∃ t,
      exec .pllGLockTimeout s = .next t ∧ t.clk.gBypassed = true) ∧
    (s.clk.cLock = true → ∃ t, exec .pllCUnlock s = .next t ∧ t.clk.cLock = false ∧ t.clk.busSrc = 1) ∧
    (s.clk.sLock = true → ∃ t, exec .pllSUnlock s = .next t ∧ t.clk.sLock = false ∧ Risen s t 0x010204 1) ∧
    (s.clk.gLock = true → ∃ t, exec .pllGUnlock s = .next t ∧ t.clk.gLock = false ∧ Risen s t 0x010208 1) ∧
    (s.clk.refLost = false → ∃ t, exec .refLost s = .next t ∧ t.clk.refLost = true ∧ t.clk.cLock = false) ∧
    (cleanUse s = true → s.clk.gHoldover = false → ∃ t,
      exec .pllGInputLost s = .next t ∧ t.clk.gHoldover = true ∧ Risen s t 0x010208 (bit s.clk.gLock)) ∧
    (cleanUse s = true → s.clk.gHoldover = true → ∃ t,
      exec .pllGInputReturn s = .next t ∧ t.clk.gReacquire = true) ∧
    (∀ src a v, gMask a ≠ 0 → cleanUse s = false → ∃ t, exec (.pllGWrite src a v) s = .next t ∧
      t.cur a = (s.cur a &&& ~~~(gMask a)) ||| (v &&& gMask a)) ∧
    (∀ src l v, ∃ t, exec (.lockDetectWrite src l v) s = .next t ∧
      t.cur (0x010060 + 4 * pllIdx l) = v &&& 0x0FFF1FFF) ∧
    (∀ src i v, i < 4 →
      (∃ t, exec (.clkoutEnable src i v) s = .next t ∧ t.fc (0x010100 + 0x10 * i) 0 1 = 1) ∧
      (∃ t, exec (.clkoutDisable src i v) s = .next t ∧ t.out i = ClkOut.off ∧
        t.fc (0x010100 + 0x10 * i) 0 1 = 0) ∧
      (∀ w, 1 ≤ w → w ≤ 2 → ∃ t, exec (.clkoutChange src i w v) s = .next t ∧
        t.cur (0x010100 + 0x10 * i + 4 * w)
          = (s.cur (0x010100 + 0x10 * i + 4 * w) &&& ~~~(if w = 1 then 0xFFFFFF else 0xFFFF))
            ||| (v &&& (if w = 1 then 0xFFFFFF else 0xFFFF)))) ∧
    (∀ u rising, s.fc 0x010074 0 1 = 1 → rising = decide (s.fc 0x010074 1 1 = 0) →
      (∀ v, s.clk.lastSync = some v → v + 750 ≤ max s.time.tb u) → ∃ t,
      exec (.syncEdge ⟨u, rising⟩) s = .next t ∧ t.clk.lastSync = some (max s.time.tb u) ∧ Risen s t 0x010210 1) ∧
    (∀ x, pulseInput s = true → s.clk.gEnabled = true → legacyMode s = false → s.clk.pulse16 = none → ∃ t,
      exec (.genlockPulse x) s = .next t ∧ t.clk.pulse16 = some x) ∧
    (∀ q r, Awake s → edgeKind s = 1 → pulseInput s = true → s.time.glHold = false →
      s.clk.pulse16 = some q → s.clk.period16 = some r → ∃ t,
      exec .genlockHoldover s = .next t ∧ t.time.glHold = true ∧ t.time.t = s.time.t) ∧
    (∀ u p w, Awake s → s.fc 0x04C300 0 1 = 1 → ∃ t, exec (.ltcWord u ⟨w, p⟩ true) s = .next t ∧
      t.img.tc.word = some (w.toNat, u))

/-- The commands of the timebase and its timers (R422 to R427, R431, R432). -/
def Sys2Proof.Say.TimerCommandsComplete : Prop :=
  ∀ s : State,
    (∀ n, Answers s → n < 8 → s.fc (0x018100 + 0x20 * n) 0 1 = 1 → (s.timer n).armed = true →
      (s.timer n).compare * 2 ^ (s.timer n).presc + 500 ≤ 2 ^ 64 →
      s.time.frac < (refStep s.clk.refCode).2 → (∀ f, (s.timer n).fired = some f → f.tb < s.time.tb) → ∃ t,
      exec (.timerFire n) s = .next t ∧
      (t.cur 0x018200).getLsbD n = true) ∧
    (∀ src n v, Answers s → n < 8 → 4 ≤ n ∨ src = .shp →
      (∃ t, exec (.gtEnable src n v) s = .next t ∧ t.cur (0x018100 + 0x20 * n) = (v ||| 1) &&& 0xF0003) ∧
      (s.tb64 / 2 ^ (s.timer n).presc < (s.timer n).compare →
        (clockCycle s).tb64 / 2 ^ (s.timer n).presc < ((s.timer n).heldHi.getD
          (BitVec.ofNat 32 ((s.timer n).compare / 2 ^ 32))).toNat * 2 ^ 32 + v.toNat →
        ∃ t, exec (.gtCompareLo src n v) s = .next t ∧ (t.timer n).armed = true ∧
          (t.timer n).compare % 2 ^ 32 = v.toNat)) ∧
    (Answers s → s.time.slow = false → s.otp.dbgEn = true → s.otp.lifecycle ≠ 1 → ∃ t,
      exec .slowClockEntry s = .next t ∧ t.time.slow = true ∧
      t.time.src = .slow ∧ Risen s t 0x018210 1) ∧
    (Awake s → s.time.slow = true → ∃ t, exec .busClockReturn s = .next t ∧ t.time.slow = false ∧
      t.time.tb = s.time.tb ∧ t.time.tb < t.time.cmp)

/-- The commands of edges, exposure and brackets (R21, R39, R45, R47, R79 to R81, R88, R461). -/
def Sys2Proof.Say.ExposureCommandsComplete : Prop :=
  ∀ s : State,
    (∀ env, s.sys.phase = .waitFirst → s.time.slow = false → ∃ t, exec (.firstTickEdge env) s = .next t ∧
      t.time.k = 0 ∧ (s.upd.state ≠ 5 ∨ (s.sys.fell = false ∧ s.ptr.healthy = true) →
        t.sys.phase = .run ∧ t.time.tickOpen = true)) ∧
    (∀ env, Ticking s → s.time.slow = false → s.img.cur.mode < 2 → ∃ t, exec (.tickEdge env) s = .next t ∧
      t.time.tickOpen = true ∧ t.time.k = s.time.k + 1) ∧
    (∀ env pin held slip high u, Ticking s → s.time.slow = false → 2 ≤ s.img.cur.mode →
      high = decide (s.fa 0x04C200 2 1 = 0) → s.fc 0x04C20C 0 10 ≤ held →
      u = pin + trigDelay (s.fc 0x04C20C 0 10) slip → s.time.e + s.time.tmin ≤ u → u ≤ s.time.cmp → ∃ t,
      exec (.trig0Edge ⟨pin, high, held, slip⟩ env) s = .next t ∧ t.time.k = s.time.k + 1 ∧ t.time.e = u) ∧
    (∀ env, Ticking s → s.time.slow = false → 2 ≤ s.img.cur.mode → ∃ t,
      exec (.syntheticEdge env) s = .next t ∧ t.time.k = s.time.k + 1 ∧ t.time.e = s.time.cmp) ∧
    (Ticking s → s.img.flushed = false → ∃ t, exec .tileRowFlush s = .next t ∧ t.img.flushed = true ∧
      ∀ i n, n < 2 → s.img.cur.plan.rows.contains (i / 64) = false → t.node i n = Node.empty) ∧
    (∀ tile n, Ticking s → 1 ≤ n → n ≤ 4 → ((s.tile tile).exp n).exists_ = true →
      ((s.tile tile).exp n).dropped = false → ((s.tile tile).exp n).done = false →
      isGated s tile n = false →
      (((s.tile tile).exp n).started = false → ∃ t, exec (.exposureStart tile n) s = .next t ∧
        ((t.tile tile).exp n).started = true) ∧
      (∃ t, exec (.transfer tile n) s = .next t ∧ ((t.tile tile).exp n).done = true ∧
        ((s.node tile (expNode (entryOf s.regs.act tile).mode n)).phase = .empty →
          (t.node tile (expNode (entryOf s.regs.act tile).mode n)).phase = .held))) ∧
    (∀ u held slip high, Awake s → s.img.trig1 ≠ high → s.fc 0x04C20C 16 10 ≤ held → ∃ t,
      exec (.trig1LevelChange u ⟨high, held, slip⟩) s = .next t ∧ t.img.trig1 = high) ∧
    (∀ src, Awake s → s.regs.staged src = none → ∃ t, exec (.expSetOpen src) s = .next t ∧
      t.regs.staged src = some []) ∧
    (∀ src, Awake s → (s.regs.staged src).isSome = true →
      (∃ t, exec (.expSetClose src) s = .next t ∧ t.regs.staged src = none ∧
        ∃ x ∈ t.regs.landed, x.tb = s.time.tb) ∧
      (∃ t, exec (.expSetAbort src) s = .next t ∧ t.regs.staged src = none ∧ Risen s t 0x04C12C 1) ∧
      (orIf (s.fc 0x04C108 0 8) 1 ≤ s.regs.commits src → ∃ t, exec (.bracketMaxAbort src) s = .next t ∧
        t.regs.staged src = none ∧ Risen s t 0x04C12C 1))

/-- The commands of readout, statistics and exposure control (R104, R113, R115, R134, R174, R209, R211, R222).
-/
def Sys2Proof.Say.ReadoutCommandsComplete : Prop :=
  ∀ s : State,
    (∀ r g caps b rest, InTier 2 s → s.img.blocks = b :: rest → ∃ t, exec (.rowSlot r g caps) s = .next t ∧
      t.img.blocks = (if b.next + 1 = b.slots then rest else { b with next := b.next + 1 } :: rest)) ∧
    (InTier 2 s → s.img.blocks = [] → s.img.ended = false → ∃ t, exec .readoutEnd s = .next t ∧
      t.img.ended = true) ∧
    (Awake s → s.cnv.passDone = true → ∃ t, exec .offsetRefresh s = .next t ∧ t.cnv.passDone = false ∧
      t.cnv.nextGain = (s.cnv.nextGain + 1) % 4) ∧
    (Ticking s → s.fc 0x050000 1 1 = 1 → 1023 ≤ (s.cur 0x050010).toNat → s.cnv.due = none →
      s.cnv.passDone = false → s.cnv.fresh = none → ∃ t, exec .refreshDue s = .next t ∧
      t.cnv.due.isSome = true) ∧
    (∀ src, Awake s → ∃ t, exec (.refreshNow src) s = .next t ∧ t.cnv.due.isSome = true) ∧
    (InTier 2 s → s.img.cur.plan.rows ≠ [] → 0 < s.time.k → (s.bank (s.img.prv.k % 2)).state = 0 →
      (s.bank (s.img.prv.k % 2)).frame = s.img.prv.k % 2 ^ 32 →
      (s.img.cur.plan.rows.all fun j => s.img.prv.ready.contains j) = true →
      (s.bank (s.img.prv.k % 2)).lost = false → ∃ t,
      exec .statsComplete s = .next t ∧ (t.bank (s.img.prv.k % 2)).state % 2 = 1) ∧
    (∀ i, InTier 2 s → s.ae.waiting = some i → s.ae.running = none → s.fc 0x0A0000 0 1 = 1 →
      (s.bank i).state % 2 = 1 → s.regs.stgShp = none → ∃ t, exec .aeRun s = .next t ∧
      t.ae.running = some i ∧ t.regs.stgShp.isSome = true ∧ Risen s t 0x0A0080 1) ∧
    (∀ i, Awake s → s.ae.running = some i → ∃ t, exec .aeRunEnd s = .next t ∧ t.ae.running = none ∧
      t.regs.stgShp = none) ∧
    (∀ src v, Awake s → ∃ t, exec (.aeCtrlWrite src v) s = .next t ∧ t.cur 0x0A0000 = v &&& 0x7F)

/-- The commands of pyramids, matching and the Kennel (R23 to R26, R243, R254, R255, R274, R281, R290). -/
def Sys2Proof.Say.TrackingCommandsComplete : Prop :=
  ∀ s : State,
    (∀ row, InTier 2 s → s.img.cur.plan.rows.contains row = true →
      rowComplete s.img.prv s.img.cur.plan (slotCounts s.readSet) row = true →
      s.img.prv.ready.contains row = false → ∃ t, exec (.pyramidReady 0 row) s = .next t ∧
      t.img.prv.ready = row :: s.img.prv.ready ∧
      ∀ r, r < 64 → (look (t.curPyr 0).rows (64 * row + r)).isSome = true) ∧
    (∀ src row f l, InTier 2 s → 1 ≤ src → src ≤ 2 → s.ptr.cut = false →
      srcFrame s src s.img.prv.k = some f → row < 1536 → (s.curPyr src).upTo ≤ row → row < auxTaken s f →
      auxRow f row (field (rget s.regs.prev 0x0C0004) 16 9) = some l → ∃ t,
      exec (.pyramidReady src row) s = .next t ∧ look (t.curPyr src).rows row = some l) ∧
    (∀ failing, InTier 3 s → s.ptr.kat = false → ∃ t, exec (.knownAnswerJob failing) s = .next t ∧
      t.ptr.kat = true) ∧
    (∀ slot lane wrong t0, InTier 3 s → look s.ptr.running lane = some (slot, t0) →
      t0 + jobCounts (s.slot slot) ≤ s.time.e + lastEnd s → beforeSolve s = true → ∃ t,
      exec (.matchJobComplete slot ⟨lane, wrong⟩) s = .next t ∧ (t.slot slot).mat.lane = lane ∧
      (look t.ptr.outcome slot = some 1 ∨ look t.ptr.outcome slot = some 2)) ∧
    (∀ w rest, InTier 3 s → s.ptr.cut = false → s.sct.probed = [] → 0 < s.fc 0x0D0004 0 16 →
      max s.time.tb s.sct.freeAt + 320 ≤ s.time.e + cutAt s → windowList s = w :: rest →
      winReady s w = true → ∃ t, exec .scentProbe s = .next t ∧ t.sct.probed = [w] ∧
      t.sct.freeAt = max s.time.tb s.sct.freeAt + 320) ∧
    (∀ a b c, InTier 3 s → s.ptr.cut = false → beforeSolve s = true → ∃ t,
      exec (.matchCutoff a b c) s = .next t ∧ t.ptr.cut = true) ∧
    (InTier 3 s → s.ptr.cut = true → s.ptr.booked = false → beforeSolve s = true → ∃ t,
      exec .replayWindowEnd s = .next t ∧
      t.ptr.running = [] ∧ t.ptr.replay = []) ∧
    (InTier 3 s → s.ptr.cut = true → s.ptr.booked = false → beforeSolve s = true → ∃ t,
      exec .bookkeeping s = .next t ∧
      t.ptr.booked = true ∧ ∀ p ∈ liveTracks s, (look t.ptr.outcome p.1).isSome = true) ∧
    (InTier 2 s → s.ptr.solved = false → ∃ t, exec .solvePoint s = .next t ∧ t.ptr.solved = true ∧
      t.img.prv.collar = false) ∧
    (∀ src, Awake s → s.ken.cmds.length < 256 →
      (∃ t, exec (.kenCmdKill src) s = .next t ∧
        t.ken.cmds = s.ken.cmds ++ [.opKill (kenCopy s src 0x0B0040)]) ∧
      (∃ t, exec (.kenCmdSetGroups src) s = .next t ∧ t.ken.cmds = s.ken.cmds ++ [.setGroups
        (kenCopy s src 0x0B0040) (kenCopy s src 0x0B0044 + kenCopy s src 0x0B0048 * 2 ^ 32)]) ∧
      (∀ v, ∃ t, exec (.kenCmdSetPersist src v) s = .next t ∧
        t.ken.cmds = s.ken.cmds ++ [.setPersist (kenCopy s src 0x0B0040) v]) ∧
      (∀ n, n < 256 → ∃ t, exec (.kenCueGo src n) s = .next t ∧ t.ken.cmds = s.ken.cmds ++ [.cueGo n]))

/-- The commands of the Heel and the Leash (R310 to R312, R324, R332, R334, R338, R342, R343). -/
def Sys2Proof.Say.PortCommandsComplete : Prop :=
  ∀ (s : State) (n : Nat), n < 128 →
    (InTier 3 s → (s.hp n).state = .holding → (s.hp n).parkDue = true → ∃ t,
      exec (.heelPortPark n) s = .next t ∧ (t.hp n).state = .parked ∧ Risen s t 0x0E848C 1) ∧
    (∀ o, Awake s → (s.hp n).ovr = some o → o.left = some 0 → ∃ t,
      exec (.overrideTtlExpiry n) s = .next t ∧ (t.hp n).ovr = none) ∧
    (InTier 3 s → s.heel.done = false → ∃ t, exec .heelDeadline s = .next t ∧ t.heel.done = true) ∧
    (Ticking s → (s.lp n).latchTick ≠ some s.time.k → lshMode s n = 2 →
      (s.lp n).cfg = s.act (lshReg n 0) → clkLow s n = false → ∃ t, exec (.leashLatch n) s = .next t ∧
      (t.lp n).latchTick = some s.time.k ∧ (t.lp n).seq = ((s.lp n).seq + 1) % 256 ∧ (t.lp n).line ≠ []) ∧
    (Awake s → (s.lp n).lost = false → (s.lp n).missNew = true → lossTicks s n ≤ (s.lp n).missed → ∃ t,
      exec (.partnerLost n) s = .next t ∧ (t.lp n).lost = true) ∧
    (∀ bs f, Awake s → modeIn (s.lp n).cfg = 2 → ackEn (s.lp n).cfg = true → 2 ≤ bs.length →
      crc16 (bs.take (bs.length - 2)) = leAt bs (bs.length - 2) 2 → leAt bs 0 1 = 0x61 → leAt bs 1 1 = n →
      leAt bs 6 1 < 32 → bs.length = 10 + 3 * maskCount (leAt bs 6 1) →
      (s.lp n).sent.find? (fun f => decide (f.seq = leAt bs 2 1)) = some f → f.acked = false → ∃ t,
      exec (.leashAck n bs true) s = .next t ∧ (t.lp n).missed = (if f.met then (s.lp n).missed else 0) ∧
      (t.lp n).lost = false ∧ t.cur (lshReg n 0x1C) = BitVec.ofNat 32 (leAt bs 2 1 * 256 + leAt bs 3 1)) ∧
    (∀ q c k, Awake s → (s.lp n).cues.find? (fun c => decide (c.cseq = q)) = some c →
      s.fc 0x108000 0 16 ≠ 0 → c.first = some k → k + s.fc 0x108000 0 16 ≤ s.time.k → ∃ t,
      exec (.cueExpired n q) s = .next t ∧
      (t.lp n).cues = (s.lp n).cues.filter (fun c => decide (c.cseq ≠ q))) ∧
    (∀ q, Awake s → ackEn (s.lp n).cfg = false → ∃ t, exec (.cueSendsDone n q) s = .next t ∧
      (t.lp n).cues = (s.lp n).cues.filter (fun c =>
        decide (c.cseq ≠ q ∨ c.sends ≤ field (s.lp n).cfg 13 3))) ∧
    (∀ src op, Awake s → 1 ≤ op → op < 256 → lshMode s n = 2 → s.fa (lshReg n 0) 9 3 ≠ 0 →
      (s.lp n).cues.length < 64 → ∃ t, exec (.lshCueOp src n op) s = .next t ∧
      (t.lp n).cues.length = (s.lp n).cues.length + 1 ∧ (t.lp n).nextCseq = (s.lp n).nextCseq % 65535 + 1)

/-- The commands of the auxiliary ports (R189 to R191, R194, R195, R200, R204). -/
def Sys2Proof.Say.AuxCommandsComplete : Prop :=
  ∀ (s : State) (p vc num : Nat) (h : PktPhy), p < 2 →
    (∀ src v stop hs, Awake s → s.fc (auxReg p 0) 0 1 = 0 →
      (∀ i j, i < j → j < 4 → field v (8 + 2 * i) 2 ≠ field v (8 + 2 * j) 2) → ∃ t,
      exec (.auxPortEnable src ⟨p, stop, hs⟩ v) s = .next t ∧ t.aux.on = s.aux.on ++ [p] ∧
      t.cur (auxReg p 0) = (v ||| 1) &&& 0x0FFFFFFF) ∧
    (∀ src v, Awake s → ∃ t, exec (.auxPortDisable src p v) s = .next t ∧
      t.aux.on = s.aux.on.filter (· ≠ p) ∧ t.fc (auxReg p 0) 0 1 = 0) ∧
    (PortOn s p →
      (∃ t, exec (.auxDeskew ⟨p, h⟩) s = .next t ∧ t.fc (auxReg p 8) 2 2 = 1) ∧
      (vc < 4 → vcOn s (4 * p + vc) = true →
        (∃ t f, exec (.auxFs ⟨p, h⟩ vc num) s = .next t ∧ openFrame t (4 * p + vc) = some f ∧ f.num = num) ∧
        (∃ t, exec (.auxFe ⟨p, h⟩ vc num) s = .next t ∧ openFrame t (4 * p + vc) = none) ∧
        (∃ t, exec (.genericShortPacket ⟨p, vc, h⟩) s = .next t ∧ Risen (hear s p h) t (auxReg p 0x4C) 1)) ∧
      (∃ t, exec (.uncorrectableHeader ⟨p, h⟩) s = .next t ∧
        Risen (hear s p { h with corrected := false }) t (auxReg p 0x44) 1) ∧
      (∀ k f, (k : LongPkt).vc < 4 → vcOn s (4 * p + k.vc) = true → (auxGroup k.dt).isSome = true →
        openFrame (hear s p k.phy) (4 * p + k.vc) = some f → f.next < 8192 → f.dt.getD k.dt = k.dt →
        bindingOf s (4 * p + k.vc) = none → k.wc ≤ 16384 → k.bytes.length = k.wc →
        fifoUsed (hear s p k.phy) p + k.wc ≤ 65536 → ∃ t f', exec (.auxLongPacket p k) s = .next t ∧
        openFrame t (4 * p + k.vc) = some f' ∧ f'.next = f.next + 1 ∧ f'.received = f.received + 1)) ∧
    (∀ b, InTier 2 s → b < 2 → s.aux.missDue.contains b = true → ∃ t,
      exec (.auxMissing b) s = .next t ∧ Risen s t (0x090808 + 0x10 * b) 1)

/-- The requests of the adapter (R312, R375, R380, R384, R492). -/
def Sys2Proof.Say.RequestsComplete : Prop :=
  ∀ (s : State) (h : RxHdr),
    (∀ addr count, InOrder s (.regRd h addr count) h → ∃ t p, exec (.regRd h addr count) s = .next t ∧
      t.nlk.resp = s.nlk.resp ++ [p] ∧ p.type = 0x21 ∧ p.tag = h.tag) ∧
    (∀ addr ws, InOrder s (.regWr h addr 1 [ws]) h → regStatus h 12 addr 1 = 0 → storesOnly addr = true →
      ∃ t p, exec (.regWr h addr 1 [ws]) s = .next t ∧ t.nlk.resp = s.nlk.resp ++ [p] ∧ p.type = 0x24 ∧
      p.tag = h.tag ∧ p.body.take 8 = le 1 0x42 ++ le 1 0 ++ zeros 2 ++ le 4 1) ∧
    (∀ addr n, InOrder s (.bulkRd h addr n) h → bulkStatus h 16 addr n 1048576 = 0 → ∃ t p rest,
      exec (.bulkRd h addr n) s = .next t ∧ t.nlk.resp = s.nlk.resp ++ p :: rest ∧ p.type = 0x23 ∧
      p.tag = h.tag ∧ p.body.drop 16 = bulkBytes s addr (min 16384 n)) ∧
    (∀ addr n data, InOrder s (.bulkWr h addr n data) h → bulkStatus h (16 + n) addr n 16384 = 0 → ∃ t p,
      exec (.bulkWr h addr n data) s = .next t ∧ t.nlk.resp = s.nlk.resp ++ [p] ∧ p.type = 0x24 ∧
      p.tag = h.tag ∧ t.ken = (writeAlbums (n / 32) addr (data.take n) none s).2.ken) ∧
    (∀ offset len data senses, InOrder s (.updBlock h offset len data senses none) h → h.body = 16 + len →
      data.length = len → s.upd.pend = [] → s.upd.state = 1 → s.upd.owner = 1 → 128 ≤ len → len ≤ 4096 →
      len % 128 = 0 → offset % 256 = 0 → offset + len ≤ s.upd.imgLen → s.upd.imgLen ≤ 16711680 →
      s.boot.fwBank < 2 → unitConflict s offset data = false → FlashFree s → ∃ t,
      exec (.updBlock h offset len data senses none) s = .next t ∧ Risen s t 0x030180 1 ∧
      ∀ i, i < len / 128 → unitMarked t (offset / 128 + i) = true) ∧
    (∀ d, InOrder s (.trackSeed h d) h → h.body = 40 → s.ken.cmds.length < 256 → ∃ t,
      exec (.trackSeed h d) s = .next t ∧ t.ken.cmds = s.ken.cmds ++ [.seed d]) ∧
    (∀ w, InOrder s (.trackKill h w) h → h.body = 8 → s.ken.cmds.length < 256 → ∃ t,
      exec (.trackKill h w) s = .next t ∧ t.ken.cmds = s.ken.cmds ++ [.kill w.toNat]) ∧
    (∀ o, InOrder s (.aimOverride h o) h → h.body = 40 → o.port < 128 → (s.hp o.port).state ≠ .off →
      o.mode = 2 ∨ o.mode = 3 → ∃ t, exec (.aimOverride h o) s = .next t ∧
      (t.hp o.port).ovr.map (fun q => q.mode) = some o.mode) ∧
    (∀ host ago, InOrder s (.timeSet h host ago) h → h.body = 16 → ∃ t,
      exec (.timeSet h host ago) s = .next t ∧ t.nlk.timeHost = host ∧ s.nlk.timeTb < t.nlk.timeTb) ∧
    (∀ type, InOrder s (.unknownPacket h type) h → ∃ t p, exec (.unknownPacket h type) s = .next t ∧
      t.nlk.resp = s.nlk.resp ++ [p] ∧ p.tag = h.tag ∧
      p.body.take 8 = le 1 type ++ le 1 5 ++ zeros 2 ++ le 4 0)

/-- The control units and events of the links (R362, R363, R365, R366, R372, R373, R381, R384). -/
def Sys2Proof.Say.LinkCommandsComplete : Prop :=
  ∀ (s : State) (l : Nat), Awake s → l < 2 →
    (∀ q, (s.seqRec l).past q < (s.seqRec l).past (s.seqRec l).txNext → ∃ t, exec (.nlkAck l q) s = .next t ∧
      (t.seqRec l).replay = (s.seqRec l).replay.filter (fun p =>
        decide ((s.seqRec l).past q < (s.seqRec l).past p.1)) ∧
      (t.seqRec l).ackNext = (q + 1) % 65536) ∧
    (∀ q, (s.seqRec l).replay.any (fun p => decide (p.1 = q)) = true →
      (∃ t, exec (.nlkNak l q) s = .next t ∧ (t.link l).resend = some q)) ∧
    (∀ cls n, cls < 3 → (s.link l).state = .up → ∃ t, exec (.nlkCredit l cls n) s = .next t ∧
      (t.link l).credit = (s.link l).credit.set cls (n % 65536)) ∧
    (∀ row skew, (s.link l).state = .training ∨ (s.link l).state = .up → ∃ t,
      exec (.nlkAlign ⟨l, row, skew⟩) s = .next t ∧ (t.link l).alignRow = row ∧
      ((∀ k ∈ skew, k ≤ 64) → (t.link l).deskew.length = skew.length)) ∧
    (∀ mask, (s.link l).state = .up → ∃ t, exec (.nlkLaneFailRx l mask) s = .next t ∧
      (t.link l).state = .training) ∧
    (∀ rx tx fresh lanes a b c, (s.link l).state = .training → s.clk.sLock = true →
      8 ≤ laneCount (rx : BitVec 16).toNat → 8 ≤ laneCount (tx : BitVec 16).toNat → 1024 ≤ a → 1024 ≤ b →
      1024 ≤ c → ∃ t, exec (.nlkTs l ⟨rx, lanes⟩ tx fresh (some [a, b, c])) s = .next t ∧
      (t.link l).state = .up ∧ (t.link l).rxWidth = widthOf (laneCount rx.toNat) ∧
      (t.link l).txWidth = widthOf (laneCount tx.toNat)) ∧
    (∀ lane, lane < 16 → (s.link l).state = .up → ∃ t, exec (.laneFailure l lane) s = .next t ∧
      (t.link l).state = .training ∧ (t.link l).rxOk / 2 ^ lane % 2 = 0 ∧ Risen s t (linkCnt l 0x24) 1) ∧
    (∀ src, (s.link l).state = .up → ∃ t, exec (.linkRetrain src l) s = .next t ∧
      (t.link l).state = .training) ∧
    ((s.link l).state = .training → ∃ t, exec (.trainingTimeout l) s = .next t ∧ (t.link l).state = .down) ∧
    (∀ b, (s.link l).state = .down → s.clk.sLock = true ∨ b = true → ∃ t,
      exec (.trainingRetry l b) s = .next t ∧ (t.link l).state = .training) ∧
    (∀ q p rest, (s.seqRec l).replay = (q, p) :: rest → (s.link l).state = .up →
      (s.link l).timeouts + 1 < orIf (s.fc 0x110004 8 4) 1 → ∃ t, exec (.replayTimeout l) s = .next t ∧
      (t.link l).resend = some q ∧ (t.link l).timeouts = (s.link l).timeouts + 1) ∧
    (∀ cls p rest, cls < 3 → headOf s l cls = some (p, rest) → (s.link l).state = .up →
      hasCredit (s.link l) p = false → cls ∉ (s.link l).stalled → ∃ t,
      exec (.creditStall l cls) s = .next t ∧ Risen s t (linkCnt l 0x2C) 1) ∧
    (∀ cls p q, s.isUp l = true → linkUsed s l = true →
      (∀ m, m < 2 → (s.link m).waiting = [] ∧ (s.link m).bulk = none) → (s.link l).resend = none →
      nextNew s l = some (cls, p, q) → ∃ t, exec (.packetTransmit l) s = .next t ∧
      (t.link l).lastTx = some ((s.seqRec l).txNext, onWire s l p) ∧
      (t.seqRec l).txNext = ((s.seqRec l).txNext + 1) % 65536) ∧
    (∀ u : List Byte, crc8 (u.take 7) ≠ (u.getD 7 0).toNat → ∃ t,
      exec (.controlUnitBadCrc ⟨l, u⟩) s = .next t ∧ Risen s t (0x11010C + 0x40 * l) 1)

/-- The commands of the management bus, of Bark and of registers (R11, R14, R443, R444, R447 to R451, R490). -/
def Sys2Proof.Say.BusCommandsComplete : Prop :=
  ∀ s : State, Answers s →
    (∀ p, p < 2 ^ 24 → ∃ t, exec (.mgbPointerSet p) s = .next t ∧ t.mgb.ptr = p) ∧
    (∀ p b0 b1 b2 b3, p < 2 ^ 24 → p % 4 = 0 → storesOnly p = true → ∃ t,
      exec (.mgbRegisterWrite p [b0, b1, b2, b3]) s = .next t ∧ t.mgb.ptr = (p + 4) % 2 ^ 24 ∧
      (∀ d, descOf p = some d → isRefused s .mgb p = false → d.tick = 0 → d.held = 0 → d.w1c = 0 →
        t.cur p = (s.cur p &&& ~~~BitVec.ofNat 32 d.imm) |||
          ((b3 ++ b2 ++ b1 ++ b0) &&& BitVec.ofNat 32 d.imm))) ∧
    (∀ p c (clk : Clocked), p < 2 ^ 24 → ∃ t, exec (.mgbBlockRead p c clk) s = .next t ∧
      t.mgb.wire.length = clk.bytes ∧ t.mgb.ptr = (p + consumed (if c = 0 ∨ 32 < c then 32 else c) clk) % 2 ^ 24) ∧
    (∀ clk : Clocked, s.mgb.ptr < 2 ^ 24 → ∃ t, exec (.mgbCurrentAddressRead clk) s = .next t ∧
      t.mgb.wire.length = clk.bytes ∧ t.mgb.ptr = (s.mgb.ptr + consumed 4 clk) % 2 ^ 24) ∧
    (∃ t, exec .mgbAbort s = .next t ∧ Risen s t 0x120080 1) ∧
    (s.mgb.cut = true → ∃ t, exec .mgbRsAck s = .next t ∧ Risen s t 0x120084 1) ∧
    (∃ t, exec .mgbSdaTimeout s = .next t ∧ Risen s t 0x120088 1) ∧
    (∀ w, ∃ t, exec (.mgbStretchTimeout w) s = .next t ∧ Risen s t 0x120094 1 ∧ t.fc 0x120004 10 1 = 1) ∧
    (∀ code, Awake s → s.mgb.attempt = none → barkOn s = true → s.mgb.busy = false →
      (rangeFrom 1 7).find? (barkDue s) = some code → ∃ t, exec (.bark .acked) s = .next t ∧
      t.mgb.wire = le 1 (2 * s.fc 0x120008 0 7) ++ le 1 (2 * s.mgb.addr) ++ le 1 code
        ++ le 1 (barkCount s code) ∧ Risen s t 0x120098 1) ∧
    (∀ code c n, Awake s → s.mgb.attempt = some (code, c, n) → barkOn s = true → barkDue s code = true →
      s.mgb.busy = false → n < 8 → 1 ≤ code → ∃ t, exec (.barkRetry .acked) s = .next t ∧ t.mgb.attempt = none ∧
      Risen s t 0x120098 1) ∧
    (∀ src mask, ∃ t, exec (.barkPendClear src mask) s = .next t ∧
      ∀ i, i < 7 → (mask : BitVec 7).getLsbD i = true → mget 0 s.mgb.seen i ≠ s.time.tb + 1 →
        t.fc 0x120010 i 1 = 0) ∧
    (∀ src a d, descOf a = some d → ∃ t, exec (.rcRead src a) s = .next t ∧
      t.regs.lastRead = readWord s src a ∧ (d.rc = true → t.cur a = 0)) ∧
    (∀ src a v d, storesOnly a = true → descOf a = some d → isRefused s src a = false → d.tick = 0 →
      d.held = 0 → d.w1c = 0 → ∃ t, exec (.registerWrite src a v) s = .next t ∧
      t.cur a = (s.cur a &&& ~~~BitVec.ofNat 32 d.imm) ||| (v &&& BitVec.ofNat 32 d.imm)) ∧
    (∀ senses, Awake s → s.upd.pend = [] → s.upd.state = 1 → s.upd.owner = 2 → s.fc 0x030204 0 8 = 128 →
      (s.cur 0x030200).toNat % 128 = 0 → (s.cur 0x030200).toNat + 128 ≤ s.upd.imgLen →
      s.upd.imgLen ≤ 16711680 → s.boot.fwBank < 2 → FlashFree s →
      unitConflict s (s.cur 0x030200).toNat
        ((upto 32).map (fun i => le 4 (s.cur (0x030280 + 4 * i)).toNat)).flatten = false → ∃ t,
      exec (.updMbGo .mgb senses none) s = .next t ∧ t.upd.mbCode = 0 ∧
      unitMarked t ((s.cur 0x030200).toNat / 128) = true)

/-- The commands of faults, heat, the log and the flash (R35, R478, R479, R536 to R541, R545, R546, R553). -/
def Sys2Proof.Say.FaultCommandsComplete : Prop :=
  ∀ s : State, Awake s →
    (s.time.slow = false → 4 ≤ s.sys.wdMissed → ∃ t, exec .watchdogExpiry s = .next t ∧ t.sys.phase = .restarting ∧
      t.sys.cause = 4) ∧
    (s.sys.lsN = 0 → ∃ t, exec .lockstepMismatch s = .next t ∧ t.sys.phase = .restarting ∧ t.sys.cause = 3) ∧
    (∀ i n, n < 64 → s.upd.state ≠ 5 → ∃ t, exec (.uncorrectableWord (.album i n)) s = .next t ∧
      (t.snap i n).valid = false ∧ Risen s t 0x130088 1) ∧
    (∀ n, ∃ t, exec (.scrubLine true (.corrected n)) s = .next t ∧ Risen s t 0x130084 n) ∧
    (∀ u, s.upd.state ≠ 5 → ∃ t, exec (.unitFault u) s = .next t ∧ u ∈ t.sys.failed ∧
      t.sys.tier = min (unitTier u) s.sys.tier) ∧
    (8 ≤ s.sys.tripEdges → s.sys.tripped = false → s.upd.state ≠ 5 → ∃ t, exec .thermalTrip s = .next t ∧
      t.sys.tripped = true ∧ Risen s t 0x13009C 1) ∧
    (s.sys.tripped = true → sgn 16 (s.fc 0x130004 0 16) < ((tripTemp s - 15) * 256 : Nat) → ∃ t,
      exec .thermalRecovery s = .next t ∧ t.sys.tripped = false) ∧
    (∃ t, exec .logSecond s = .next t ∧ t.log.ceSram = 0 ∧ t.log.ceEdram = 0 ∧
      t.time.tb % countsPerSec = 0 ∧ s.time.tb ≤ t.time.tb) ∧
    (∀ senses, s.boot.usable = true → s.fc 0x130040 16 1 = 1 → FlashFree s → s.log.archWr < 131072 →
      .logFlush ∉ s.boot.deferred → ∃ t,
      exec (.logFlush senses) s = .next t ∧ t.log.unarch = 0) ∧
    (∀ senses, s.boot.deferred = [.logFlush] → s.boot.usable = true → s.fc 0x130040 16 1 = 1 → FlashFree s →
      s.log.archWr < 131072 → ∃ t, exec (.flashDeferRetry senses) s = .next t ∧ t.boot.deferred = []) ∧
    (s.boot.pfwLow = false → ∃ t, exec .pfwAssert s = .next t ∧ t.boot.pfwLow = true ∧ Risen s t 0x030090 1) ∧
    (s.boot.pfwLow = true → ∃ t, exec .pfwRelease s = .next t ∧ t.boot.pfwLow = false) ∧
    (∀ src i, i < 131072 → s.boot.usable = true → ∃ t, exec (.archiveRead src i) s = .next t ∧
      (t.cur 0x130050).toNat = i ∧ ∀ w, w < 8 → t.cur (0x130060 + 4 * w)
        = BitVec.ofNat 32 (leAt (flashBytes s (0x300000 + 32 * i) 32) (4 * w) 4))

/-- The commands of the update, of the fuses and of the random source (R492, R497 to R502, R518, R520, R525). -/
def Sys2Proof.Say.UpdateCommandsComplete : Prop :=
  ∀ (s : State) (senses : List Nat), Awake s →
    (∀ p rest, s.upd.pend = p :: rest → ∃ t, exec .blockDeferTimeout s = .next t ∧ t.upd.pend = rest ∧
      Risen s t 0x030184 1) ∧
    (s.upd.state = 1 ∨ s.upd.state = 3 ∨ s.upd.state = 6 → FlashFree s → .mapErase ∉ s.boot.deferred → ∃ t,
      exec (.updAbort senses) s = .next t ∧ t.upd.state = 0) ∧
    (s.upd.state = 1 → updComplete s = true → ∃ t, exec .updVerify s = .next t ∧ t.upd.state = 2) ∧
    (s.upd.state = 2 → s.upd.verifySince.isSome = true → FlashFree s → ∃ t, exec (.verifyPassDone senses) s = .next t ∧
      (t.upd.state = 3 ∨ t.upd.state = 6)) ∧
    (∀ force, s.upd.state = 3 → portsActive s = false ∨ force = true → FlashFree s → ∃ t,
      exec (.updActivate force senses) s = .next t ∧ t.sys.phase = .restarting ∧ t.sys.cause = 2) ∧
    (s.upd.state = 4 → s.upd.trialWritten = false → ∃ t, exec .activateTimeout s = .next t ∧ t.upd.state = 3) ∧
    (s.upd.state = 5 → s.upd.hostConfirm = true → checksHold s = true → s.sys.phase = .run →
      0 < s.upd.confirmLeft → FlashFree s → .confirmedRecord ∉ s.boot.deferred → ∃ t,
      exec (.updConfirm senses) s = .next t ∧ t.upd.state = 0 ∧ t.upd.last = 1) ∧
    (s.upd.state = 5 → FlashFree s → ∃ t,
      exec (.updReject senses) s = .next t ∧ t.sys.phase = .restarting ∧ t.sys.cause = 2) ∧
    (s.upd.state = 0 → FlashFree s → .rollbackRecord ∉ s.boot.deferred →
      hdrCheck s (flashHeader s (bankBase (targetBank s))) = 0 → ∃ t,
      exec (.updRollback true senses) s = .next t ∧ t.sys.phase = .restarting ∧ t.sys.cause = 2) ∧
    (s.upd.state = 5 → s.upd.confirming = false → s.upd.confirmLeft = 0 → FlashFree s → ∃ t,
      exec (.confirmWindowEnd senses) s = .next t ∧
      (s.upd.hostConfirm = false ∧ checksHold s = true → t.upd.state = 0) ∧
      (s.upd.hostConfirm = true ∨ checksHold s = false → t.sys.phase = .restarting ∧ t.sys.cause = 2)) ∧
    (∀ src v (env : PulseEnv), field v 0 1 = 1 → field v 16 16 = 0x0F5E →
      progReason s (s.fc 0x020040 9 6 * 512 + s.fc 0x020040 0 9) (decide (field v 1 1 = 1))
        ⟨env.vcoreOk, if field v 1 1 = 1 then env.pumpOk else env.vppOk⟩ = 0 → ∃ t,
      exec (.otpProgGo src v env) s = .next t ∧ t.otp.progBusy = true ∧
      t.otp.progBit = s.fc 0x020040 9 6 * 512 + s.fc 0x020040 0 9) ∧
    (∀ lvl, s.otp.progBusy = true → ∃ t, exec (.otpPulseDone (.done lvl)) s = .next t ∧
      t.otp.progBusy = false ∧ fuseLevel t s.otp.progBit = max (fuseLevel s s.otp.progBit) (min 3 lvl)) ∧
    (1048576 ≤ s.otp.drbgRequests → ∃ t, exec (.drbgReseed true) s = .next t ∧ t.otp.drbgRequests = 0)

/-- The fuse array is in canonical form, and no fuse reads 1 at more than its three thresholds. -/
def Sys2Proof.Say.FuseInv (s : State) : Prop :=
  SMap.wf (fun _ => 0) s.otp.fuse = true ∧ ∀ b, fuseLevel s b ≤ 3

/-- The commands of supplies, reset, starts and debug (R36, R396, R441, R457 to R463, R526 to R528, R570). A
start whose own configuration calls a restart ends in that restart, with its CAUSE. -/
def Sys2Proof.Say.StartCommandsComplete : Prop :=
  ∀ s : State,
    (∀ pin, ∃ t, exec (.resetAssert pin) s = .next t ∧ t.sys.phase = .held ∧ t.time.tickOpen = false) ∧
    (∀ x : Excursion, 2000 ≤ x.ns → ∃ t, exec (.supplyExcursion x) s = .next t ∧ t.sys.phase = .held) ∧
    (∀ env, s.sys.phase = .held → s.otp.latch = false → env.supplies = true → env.refclk = true →
      env.t1Fail = false → ∃ t, exec (.coldStart env) s = .next t ∧
      (t.sys.phase = .waitFirst ∨ t.sys.phase = .restarting) ∧ t.time.tb = 0 ∧
      (t.sys.phase = .waitFirst → t.sys.cause = if s.sys.pgoodLow then 0 else 1) ∧
      (t.sys.phase = .restarting → 2 ≤ t.sys.cause)) ∧
    (∀ env, s.sys.phase = .restarting → 2 ≤ s.sys.cause → s.otp.latch = false → env.supplies = true →
      env.refclk = true → env.t1Fail = false → ∃ t, exec (.warmRestart env) s = .next t ∧
      (t.sys.phase = .waitFirst ∨ t.sys.phase = .restarting) ∧ t.time.tb = s.time.tb ∧
      t.sys.startCount = min 0xFFFFFFFF (s.sys.startCount + 1)) ∧
    (∀ env, s.sys.phase = .waitRef → s.sys.waiting = some env → s.otp.latch = false → env.t1Fail = false → ∃ t,
      exec .refclkReturn s = .next t ∧ (t.sys.phase = .waitFirst ∨ t.sys.phase = .restarting) ∧
      t.clk.refLost = false) ∧
    (s.sys.pgoodLow = false → ∃ t, exec .debugRequest s = .next t ∧ t.otp.latch = true) ∧
    (∀ env l, s.sys.phase = .waitDebug → s.sys.waiting = some env → env.t1Fail = false → FuseInv s →
      (respAccepted s = false → ∃ t, exec (.secDbgGo l) s = .next t ∧ t.otp.dbgState = 3 ∧
        Risen s t 0x02009C 1) ∧
      (respAccepted s = true → s.otp.progBusy = false → pfwActive s = false → ∃ t,
        exec (.secDbgGo (List.replicate 6 ⟨true, true, .done 3⟩)) s = .next t ∧ t.otp.dbgState = 2 ∧
        t.otp.dbgEn = true) ∧
      (∃ t, exec .debugWaitTimeout s = .next t ∧ t.otp.dbgState = 3 ∧ t.sys.phase ≠ .waitDebug ∧
        Risen s t 0x02009C 1))

/-- No command stops the block: every command answers a next state, in every state. The commands of clocks and
timers, of imaging, tracking, ports and auxiliary inputs, and the requests of the adapter, have their own effect
wherever their rules say that they act. -/
def Obligations.EveryCommandRuns : Prop :=
  (∀ (c : Instr) (s : State), ∃ t, exec c s = .next t) ∧ ClockCommandsComplete ∧ TimerCommandsComplete ∧
    ExposureCommandsComplete ∧ ReadoutCommandsComplete ∧ TrackingCommandsComplete ∧ PortCommandsComplete ∧
    AuxCommandsComplete ∧ RequestsComplete

/-- The commands of supplies, reset pins, PFW_B, and of the start: they act while the device does not run. -/
def Sys2Proof.Say.isStartCommand : Instr → Bool
  | .coldStart _ | .warmRestart _ | .resetAssert _ | .supplyExcursion _ | .refclkReturn
  | .firstTickEdge _ | .pfwAssert | .pfwRelease | .debugRequest | .secDbgGo _ | .debugWaitTimeout => true
  | _ => false

/-- While PGOOD or RESET_B holds the device, or the device is dark, no command but those of a start and of PFW_B
finds anything to act on (the model's choice, log 3). The commands of a start, and of links, buses, faults and
updates in a device that runs, have their own effect wherever their rules say that they act. -/
def Obligations.OnlyStartCommandsActInReset : Prop :=
  (∀ (c : Instr) (s : State), s.sys.phase = .held ∨ s.sys.phase = .dark → isStartCommand c = false →
    exec c s = .next s) ∧ StartCommandsComplete ∧ LinkCommandsComplete ∧ BusCommandsComplete ∧
    FaultCommandsComplete ∧ UpdateCommandsComplete

/-- A step takes the first of the commands that wait and leaves the others in their order (the model's queue,
log 9). -/
def Obligations.QueueIsFirstInFirstOut : Prop :=
  ∀ (s t : State), step s = .next t → t.pending = s.pending.tail

/-! ## The fuse array -/

/-- Every step keeps the fuse array legal, and no step lowers a fuse: a blown fuse stays blown through every
command, restart and cold start. -/
def Obligations.FusesStayLegalAndOnlyRise : Prop :=
  ∀ s t : State, step s = .next t → (FuseInv s → FuseInv t) ∧ ∀ b, fuseLevel s b ≤ fuseLevel t b
/-! ## Starts, reset and tick edges -/

/-- Reset: the device is held, no tick is open, both links are OFF, no output runs, every Leash TX pin is
high-impedance, with PGOOD low every output is, and LOCK_A shows no lock while VPLL is in its window; the fuses,
the flash and the waiting commands stay, and so do the registers, which the next start resets (the model's
choice, log 44). An excursion of a supply of 2 µs or longer does what PGOOD low does, and one of VPLL leaves
LOCK_A without power until VPLL is back in its window (whether it is by then, the command says); a shorter one
does nothing. (A command with nothing to act on: log 3.) -/
def Obligations.ResetHoldsTheDevice : Prop :=
  ∀ (s : State),
    (∀ pin, ∃ t, exec (.resetAssert pin) s = .next t ∧ t.sys.phase = .held ∧ t.time.tickOpen = false ∧
      (pin = .pgood → t.sys.pgoodLow = true) ∧ (pin = .resetB → t.sys.resetLow = true) ∧
      (t.link 0).state = .off ∧ (t.link 1).state = .off ∧ (∀ i, t.out i = ClkOut.off) ∧
      (∀ n, lpTx t n = .highZ) ∧ lockA t = (if s.sys.vpllOk then .below else .unpowered) ∧
      (pin = .pgood → ∀ o, pinHighZ t o = true) ∧ t.regs = s.regs ∧ Stores s t) ∧
    (∀ ns back, 2000 ≤ ns → exec (.supplyExcursion ⟨ns, false, back⟩) s = exec (.resetAssert .pgood) s) ∧
    (∀ ns, 2000 ≤ ns → ∃ t, exec (.supplyExcursion ⟨ns, true, false⟩) s = .next t ∧ lockA t = .unpowered ∧
      exec (.resetAssert .pgood) s = .next { t with sys := { t.sys with vpllOk := s.sys.vpllOk } }) ∧
    (∀ ns, 2000 ≤ ns → ∃ t, exec (.supplyExcursion ⟨ns, true, true⟩) s = .next t ∧ lockA t = .below ∧
      exec (.resetAssert .pgood) s = .next { t with sys := { t.sys with vpllOk := s.sys.vpllOk } }) ∧
    (∀ x : Excursion, x.ns < 2000 → exec (.supplyExcursion x) s = .next s)

/-- A start with the supplies in their windows, REFCLK present, no debug request and a flash that is not usable
goes through to the wait for the first tick edge in tier 1 with LIMIT 1, its first edge `us` microseconds after
its beginning (the model's reading of the two ways in which the spec gives that instant, log 16), both links
off, and TB cleared by a cold start alone. The cause of a cold start is power-up after PGOOD was low, and
RESET_B otherwise; a warm restart keeps the cause that called for it and is counted. -/
def Sys2Proof.Say.StartReachesTheFirstEdge : Prop :=
  ∀ (s : State) (env : StartEnv), env.supplies = true → env.refclk = true → env.sfdp.mbit < 512 →
    env.t1Fail = false → s.otp.latch = false →
    (s.sys.phase = .held → ∃ t, exec (.coldStart env) s = .next t ∧ t.sys.phase = .waitFirst ∧ t.sys.tier = 1 ∧
      t.sys.cause = (if s.sys.pgoodLow then 0 else 1) ∧ t.fc 0x030000 24 3 = 1 ∧ t.time.tb = 0 ∧
      t.sys.held = [] ∧ t.time.cmp = 750 * env.us ∧ t.sys.startCount = 0 ∧ t.mgb.addr = 0x58 + env.ma % 8 ∧
      (t.link 0).state = .off ∧ (t.link 1).state = .off ∧ t.pending = s.pending ∧
      ∀ b, fuseLevel t b = fuseLevel s b) ∧
    (s.sys.phase = .restarting → 2 ≤ s.sys.cause → ∃ t, exec (.warmRestart env) s = .next t ∧
      t.sys.phase = .waitFirst ∧ t.sys.tier = 1 ∧ t.sys.cause = s.sys.cause ∧ t.fc 0x030000 24 3 = 1 ∧
      t.time.tb = s.time.tb ∧ t.time.cmp = s.time.tb + 750 * env.us ∧
      t.sys.startCount = min 0xFFFFFFFF (s.sys.startCount + 1) ∧ t.mgb.addr = 0x58 + env.ma % 8 ∧
      (t.link 0).state = .off ∧ (t.link 1).state = .off ∧ t.pending = s.pending ∧
      ∀ b, fuseLevel t b = fuseLevel s b)

/-- Where REFCLK is absent a start waits for it on the slow clock, with no loop in lock, and where a supply is
out of its window the device is in reset again, as at PGOOD low (the model's reading, log 18); REFCLK_RETURN
goes on with the start that waits. -/
def Sys2Proof.Say.StartWaitsForRefclk : Prop :=
  ∀ (s : State) (env : StartEnv),
    (s.sys.phase = .held → env.supplies = true → env.refclk = false → ∃ t,
      exec (.coldStart env) s = .next t ∧ t.sys.phase = .waitRef ∧ t.sys.waiting = some env ∧
      t.time.slow = true ∧ t.time.src = .slow ∧ t.clk.refLost = true ∧ t.clk.cLock = false ∧
      t.clk.sLock = false ∧ t.clk.gLock = false) ∧
    (env.supplies = false →
      (s.sys.phase = .held → exec (.coldStart env) s = exec (.resetAssert .pgood) s) ∧
      (s.sys.phase = .restarting → exec (.warmRestart env) s = exec (.resetAssert .pgood) s)) ∧
    (s.sys.phase = .waitRef → s.sys.waiting = some env → s.otp.latch = false → env.sfdp.mbit < 512 →
      env.t1Fail = false → ∃ t, exec .refclkReturn s = .next t ∧ t.sys.phase = .waitFirst ∧
      t.sys.waiting = none ∧ t.time.slow = false ∧ t.clk.refLost = false)

/-- FIRST_TICK_EDGE opens tick 0 and TICK_EDGE, at the tick timer's compare, tick k + 1: the committed values of
the edge before become those of the frame now read, the shadow of every tick-edge field is committed as it stood
at the end of the bus cycle before the edge, and the settings ID is 1 at the first commit, and afterwards rises
by 1 modulo 65,536 exactly where a write or a CLOSE has landed by then since the last commit. Every running TICK
output pulses at the edge. A trial bank whose checks fail at the first edge reverts there, with a warm restart
of CAUSE 2 (that a tier that fell before the edge counts: the model's reading, log 194). While the clock is slow
no tick opens. (A command with nothing to act on: log 3.) -/
def Obligations.TickEdgeCommitsTheShadow : Prop :=
  ∀ (s : State) (env : EdgeEnv),
    (s.sys.phase = .waitFirst → s.time.slow = false → ∃ t, exec (.firstTickEdge env) s = .next t ∧
      t.time.k = 0 ∧ t.time.e = s.time.cmp ∧
      s.time.cmp ≤ t.time.tb ∧ t.regs.settingsId = 1 ∧ t.regs.prev = s.regs.act ∧ TickPulses t ∧
      Committed s t ∧
      (s.upd.state ≠ 5 ∨ (s.sys.fell = false ∧ s.ptr.healthy = true) →
        t.sys.phase = .run ∧ t.time.tickOpen = true) ∧
      (s.upd.state = 5 → s.sys.fell = true ∨ s.ptr.healthy = false →
        t.sys.phase = .restarting ∧ t.sys.cause = 2 ∧ t.time.tickOpen = false ∧ Risen s t 0x030190 1)) ∧
    (Ticking s → s.time.slow = false → s.img.cur.mode < 2 → ∃ t, exec (.tickEdge env) s = .next t ∧
      t.sys.phase = .run ∧ t.time.tickOpen = true ∧ t.time.k = s.time.k + 1 ∧ t.time.e = s.time.cmp ∧
      s.time.cmp ≤ t.time.tb ∧
      t.regs.settingsId = (if s.regs.landed.any (fun x => decide (x.tb < s.time.cmp))
        then (s.regs.settingsId + 1) % 65536 else s.regs.settingsId) ∧
      t.regs.prev = s.regs.act ∧ TickPulses t ∧ PulseOfLast s t ∧ Committed s t) ∧
    (s.time.slow = true → exec (.firstTickEdge env) s = .next s ∧ exec (.tickEdge env) s = .next s ∧
      exec (.syntheticEdge env) s = .next s ∧ ∀ pin, exec (.trig0Edge pin env) s = .next s)

/-- In EXTERNAL and GATED modes a change of the TRIG0 pin to its active level that stays for the filter is an
edge, after the path delay of filter + 24 ± 1 bus counts: before E + T_min it is counted and opens no tick, and
from then to the compare (E + T_max) it opens the next tick at its own instant. A change to the other level, or
a shorter pulse, does nothing. SYNTHETIC_EDGE opens the tick at the compare. Every running TICK output pulses at
these edges too. (A command with nothing to act on: log 3.) -/
def Obligations.Trig0EdgeOpensWithinItsLimits : Prop :=
  ∀ (s : State) (pin held slip : Nat) (high : Bool) (env : EdgeEnv), Ticking s → s.time.slow = false →
    2 ≤ s.img.cur.mode →
    (high = decide (s.fa 0x04C200 2 1 = 1) ∨ held < s.fc 0x04C20C 0 10 →
      exec (.trig0Edge ⟨pin, high, held, slip⟩ env) s = .next s) ∧
    (∀ u, high = decide (s.fa 0x04C200 2 1 = 0) → s.fc 0x04C20C 0 10 ≤ held →
      u = pin + trigDelay (s.fc 0x04C20C 0 10) slip →
      (pin + s.fc 0x04C20C 0 10 + 23 ≤ u ∧ u ≤ pin + s.fc 0x04C20C 0 10 + 25) ∧
      (u < s.time.e + s.time.tmin → ∃ t, exec (.trig0Edge ⟨pin, high, held, slip⟩ env) s = .next t ∧
        Risen s t 0x04C220 1 ∧ RegsBut [0x04C220] s t ∧ t.time = { s.time with tb := max s.time.tb u } ∧
        t.img = s.img) ∧
      (s.time.e + s.time.tmin ≤ u → u ≤ s.time.cmp → ∃ t,
        exec (.trig0Edge ⟨pin, high, held, slip⟩ env) s = .next t ∧
        t.time.k = s.time.k + 1 ∧ t.time.e = u ∧ t.time.tickOpen = true ∧ t.regs.prev = s.regs.act ∧ TickPulses t ∧
        PulseOfLast s t ∧ Committed s t)) ∧
    (∃ t, exec (.syntheticEdge env) s = .next t ∧ t.time.k = s.time.k + 1 ∧ t.time.e = s.time.cmp ∧
      t.time.tickOpen = true ∧ t.regs.prev = s.regs.act ∧ TickPulses t ∧ PulseOfLast s t ∧ Committed s t)
/-! ## Management bus and Bark -/

/-- The irregular events of the bus, and a Neleklink control unit with a bad CRC, are counted and apply nothing;
a START takes up SDA_TO, and a hold of SDA is one from the last transaction on for SDA_TO (the model's choice,
log 219); a transfer that is aborted, or whose STOP is not seen, leaves the bus free 50 µs later (log 235);
without a byte that waits for its ninth clock MGB_RS_ACK finds nothing to count. A control unit that the device
forms has its type, its bytes and a CRC-8 that holds. (A command with nothing to act on: log 3.) -/
def Sys2Proof.Say.BusErrorsAreCounted : Prop :=
  ∀ s : State,
    (Answers s → ∃ t, exec .mgbAbort s = .next t ∧ CountsOnly
      { BusStart s with mgb := { (BusStart s).mgb with freeAt := s.time.tb + 37500 } } t 0x120080 1) ∧
    (Answers s → s.mgb.cut = true → ∃ t, exec .mgbRsAck s = .next t ∧ CountsOnly
      { BusStart s with mgb := { (BusStart s).mgb with busy := true } } t 0x120084 1) ∧
    (s.mgb.cut = false → exec .mgbRsAck s = .next s) ∧
    (Answers s → let u := max s.time.tb (s.mgb.lastAt + s.mgb.sdaTo)
      ∃ t, exec .mgbSdaTimeout s = .next t ∧ CountsOnly { s with
        time := { s.time with tb := u },
        mgb := { s.mgb with cut := false, busy := false, freeAt := u + 37500 } } t 0x120088 1) ∧
    (Awake s → ∀ (l : Nat) (u : List Byte), crc8 (u.take 7) ≠ (u.getD 7 0).toNat → ∃ t,
      exec (.controlUnitBadCrc ⟨l, u⟩) s = .next t ∧ CountsOnly s t (0x11010C + 0x40 * l) 1) ∧
    (∀ (type : Nat) (b : List Byte), (ctlUnit type b).length = 8 ∧ leAt (ctlUnit type b) 0 1 = type % 256 ∧
      crc8 ((ctlUnit type b).take 7) = ((ctlUnit type b).getD 7 0).toNat ∧
      (b.length = 6 → ((ctlUnit type b).drop 1).take 6 = b))

/-- The pointer phase sets the pointer, and with its START takes up SDA_TO; a group of four data bytes is
REGISTER_WRITE of the management bus at the pointer, after which the pointer advances by 4; a group is discarded
and counted when it is not complete, and with a misaligned pointer nothing is applied and the transfer is
counted. -/
def Obligations.BusWritesWordsAtThePointer : Prop :=
  ∀ (s : State) (p : Nat), Answers s → p < 2 ^ 24 →
    exec (.mgbPointerSet p) s = .next { BusStart s with mgb := { (BusStart s).mgb with ptr := p } } ∧
    (∀ b0 b1 b2 b3 : Byte, p % 4 = 0 → ∃ t,
      exec (.registerWrite .mgb p (b3 ++ b2 ++ b1 ++ b0))
        { BusStart s with mgb := { (BusStart s).mgb with ptr := p } } = .next t ∧
      (Answers t → exec (.mgbRegisterWrite p [b0, b1, b2, b3]) s
        = .next { t with mgb := { t.mgb with ptr := (p + 4) % 2 ^ 24 } }) ∧
      (¬ Answers t → exec (.mgbRegisterWrite p [b0, b1, b2, b3]) s = .next t)) ∧
    (∀ bs : List Byte, p % 4 = 0 → 1 ≤ bs.length → bs.length ≤ 3 → ∃ t,
      exec (.mgbRegisterWrite p bs) s = .next t ∧
      CountsOnly { BusStart s with mgb := { (BusStart s).mgb with ptr := p } } t 0x12008C 1) ∧
    (∀ bs : List Byte, p % 4 ≠ 0 → bs ≠ [] → ∃ t,
      exec (.mgbRegisterWrite p bs) s = .next t ∧
      CountsOnly { BusStart s with mgb := { (BusStart s).mgb with ptr := p } } t 0x120090 1)

/-- A block read of C bytes, 32 where C is 0 or above 32, from the pointer that it gives, and a current-address
read of 4 bytes from the pointer as it stands: the device drives one byte for each that the controller clocks,
the bytes of the registers from the pointer on, least significant first, and 0xFF beyond the count; the pointer
advances by the bytes consumed; an RC counter read so is cleared by what it returned, unless its last byte was
not consumed. -/
def Obligations.BusReadsFromThePointer : Prop :=
  ∀ (s : State) (clk : Clocked), Answers s →
    (∀ p c : Nat, p < 2 ^ 24 → ∃ t, exec (.mgbBlockRead p c clk) s = .next t ∧
      BusRead s p (if c = 0 ∨ 32 < c then 32 else c) clk t) ∧
    (s.mgb.ptr < 2 ^ 24 → ∃ t, exec (.mgbCurrentAddressRead clk) s = .next t ∧ BusRead s s.mgb.ptr 4 clk t)

/-- A stretch that reaches its limit is counted and shown; the word of a write is not applied, and the bytes
that are clocked of the word of a fetch read 0xFF, with no read effect, while the pointer advances by those
consumed (that it advances over them: the model's reading, log 142). -/
def Sys2Proof.Say.StretchTimeoutAppliesNothing : Prop :=
  ∀ (s : State), Answers s →
    (∃ t, exec (.mgbStretchTimeout .write) s = .next t ∧ Risen s t 0x120094 1 ∧ t.fc 0x120004 10 1 = 1 ∧
      RegsBut [0x120094, 0x120004] s t ∧ t = { s with regs := { s.regs with cur := t.regs.cur } }) ∧
    (∀ clk, ∃ t, exec (.mgbStretchTimeout (.fetch clk)) s = .next t ∧ Risen s t 0x120094 1 ∧
      t.fc 0x120004 10 1 = 1 ∧ RegsBut [0x120094, 0x120004] s t ∧
      t.mgb.wire = List.replicate (min clk.bytes (4 - s.mgb.ptr % 4)) 0xFF ∧
      t.mgb.ptr = (s.mgb.ptr + consumed (4 - s.mgb.ptr % 4) clk) % 2 ^ 24 ∧
      t = { s with regs := { s.regs with cur := t.regs.cur },
                   mgb := { s.mgb with wire := t.mgb.wire, ptr := t.mgb.ptr, cut := t.mgb.cut,
                                       busy := t.mgb.cut } })

/-- A Bark that the host acknowledges: the due code is sent with its count behind HOST_ADDR and the own address,
MGB_BARK_LAST holds code and count, MGB_BARK_SENT counts it, and the count is the count last sent, so that the
code is due no longer. A Bark that fails is tried again; a lost arbitration is counted. No Bark is sent while a
transfer is open on the bus, nor before the bus is free (when that is after a transfer without a STOP, or a
start: the model's choice, log 235). -/
def Sys2Proof.Say.BarkSendsTheDueCode : Prop :=
  ∀ (s : State) (code : Nat), Awake s → s.mgb.attempt = none → barkOn s = true →
    (rangeFrom 1 7).find? (barkDue s) = some code →
    (s.mgb.busy = true → ∀ r, exec (.bark r) s = .next s) ∧
    (s.mgb.busy = false → ∃ t, exec (.bark .acked) s = .next t ∧ s.mgb.freeAt ≤ t.time.tb ∧
      t.mgb.wire = le 1 (2 * s.fc 0x120008 0 7) ++ le 1 (2 * s.mgb.addr) ++ le 1 code ++ le 1 (barkCount s
      code) ∧
      t.cur 0x120014 = BitVec.ofNat 32 (barkCount s code * 256 + code) ∧ Risen s t 0x120098 1 ∧
      RegsBut [0x120014, 0x120098] s t ∧ t.mgb.attempt = none ∧ barkDue t code = false) ∧
    (∀ r, s.mgb.busy = false → r = .nack ∨ r = .aborted ∨ r = .arbLost → ∃ t, exec (.bark r) s = .next t ∧
      s.mgb.freeAt ≤ t.time.tb ∧ (r = .aborted → t.mgb.freeAt = t.time.tb + 37500) ∧
      t.mgb.attempt = some (code, barkCount s code, 0) ∧ t.mgb.sent = s.mgb.sent ∧ t.mgb.cnt = s.mgb.cnt ∧
      RegsBut [0x12009C] s t ∧ (r = .arbLost → Risen s t 0x12009C 1) ∧
      (r ≠ .arbLost → t.cur 0x12009C = s.cur 0x12009C))

/-- A retry of a code that is still due comes no earlier than 2^(i − 1) ms + 125 µs × MA after the attempt
before it: an acknowledged one ends the attempt; a failed one before the eighth is counted as one retry more;
the eighth failure abandons the Bark and MGB_BARK_FAIL counts it, with the PEND bit and the count as they were.
-/
def Sys2Proof.Say.BarkRetriesEightTimes : Prop :=
  ∀ (s : State) (code c n : Nat), Awake s → s.mgb.attempt = some (code, c, n) → barkOn s = true →
    barkDue s code = true → s.mgb.busy = false → n < 8 → 1 ≤ code →
    (∃ t, exec (.barkRetry .acked) s = .next t ∧ s.mgb.tryAt + barkWait s (n + 1) ≤ t.time.tb ∧
      s.mgb.freeAt ≤ t.time.tb ∧
      t.mgb.attempt = none ∧ barkDue t code = false ∧
      Risen s t 0x120098 1) ∧
    (∃ t, exec (.barkRetry .nack) s = .next t ∧ t.cur 0x120010 = s.cur 0x120010 ∧ t.mgb.cnt = s.mgb.cnt ∧
      (n < 7 → t.mgb.attempt = some (code, barkCount s code, n + 1) ∧ RegsBut [] s t) ∧
      (n = 7 → t.mgb.attempt = none ∧ Risen s t 0x1200A0 1 ∧ RegsBut [0x1200A0] s t ∧
        barkDue t code = false))

/-- A written 1 clears the PEND bit, the count and the count last sent of its code, and where the code has occurred in
the same cycle it leaves the bit with a count of 1 and none sent; every other code, and every other register, stays. -/
def Sys2Proof.Say.BarkPendWriteClearsItsCodes : Prop :=
  ∀ (s : State) (src : Src) (mask : BitVec 7), Answers s → ∃ t,
    exec (.barkPendClear src mask) s = .next t ∧ RegsBut [0x120010] s t ∧
    (∀ i, i < 7 → mask.getLsbD i = true → mget 0 t.mgb.sent i = 0 ∧
      (mget 0 s.mgb.seen i ≠ s.time.tb + 1 → t.fc 0x120010 i 1 = 0 ∧ mget 0 t.mgb.cnt i = 0) ∧
      (mget 0 s.mgb.seen i = s.time.tb + 1 → t.fc 0x120010 i 1 = s.fc 0x120010 i 1 ∧
        (mget 0 s.mgb.cnt i ≠ 0 → mget 0 t.mgb.cnt i = 1))) ∧
    (∀ i, i < 7 → mask.getLsbD i = false →
      t.fc 0x120010 i 1 = s.fc 0x120010 i 1 ∧ mget 0 t.mgb.cnt i = mget 0 s.mgb.cnt i ∧
        mget 0 t.mgb.sent i = mget 0 s.mgb.sent i) ∧
    t = { s with regs := { s.regs with cur := t.regs.cur },
                 mgb := { s.mgb with cnt := t.mgb.cnt, sent := t.mgb.sent } }
/-! ## Register accesses and brackets -/

/-- REGISTER_WRITE by access code and effect class: an immediate field is set at once; a written 1 clears a W1C
bit; a tick-edge field of a source without an open bracket goes to the shadow, where it has landed in this bus
cycle, and of a source with one to its staging set, with the shadow as it was; a restart-class field is held for
the next start, and reads as before; so do bits of no class; a register that may not be changed, or an address
that no register occupies, is left alone. No other register changes, and no committed value does. -/
def Sys2Proof.Say.RegisterWriteActsByClass : Prop :=
  ∀ (s : State) (src : Src) (a : Nat) (v : Word), Answers s → storesOnly a = true →
    (isRefused s src a = true → exec (.registerWrite src a v) s = .next s) ∧
    (∀ d, descOf a = some d → isRefused s src a = false → ∃ t,
      exec (.registerWrite src a v) s = .next t ∧ RegsBut [a] s t ∧ t.regs.act = s.regs.act ∧
      t = { s with regs := t.regs, sys := { s.sys with held := t.sys.held } } ∧
      (∀ n, n < 32 →
        let in_ := fun (m : Nat) => (BitVec.ofNat 32 m).getLsbD n
        (t.cur a).getLsbD n =
          if in_ d.imm then v.getLsbD n
          else if in_ d.w1c then (s.cur a).getLsbD n && !v.getLsbD n
          else if in_ d.tick && (s.regs.staged src).isNone then v.getLsbD n
          else (s.cur a).getLsbD n) ∧
      (d.tick = 0 → t.regs = { s.regs with cur := t.regs.cur }) ∧
      (d.tick = 0 → d.held = 0 → d.w1c = 0 → t.sys = s.sys ∧
        t.cur a = (s.cur a &&& ~~~BitVec.ofNat 32 d.imm) ||| (v &&& BitVec.ofNat 32 d.imm)) ∧
      (d.imm = 0 → d.tick = 0 → d.held = 0 → t.sys = s.sys ∧
        t.cur a = s.cur a &&& ~~~(v &&& BitVec.ofNat 32 d.w1c)) ∧
      (d.imm = 0 → d.tick = 0 → d.w1c = 0 → BitVec.ofNat 32 d.held ≠ 0 → t.cur a = s.cur a) ∧
      (BitVec.ofNat 32 d.held ≠ 0 →
        t.sys = { s.sys with held := stageWord s.sys.held a (BitVec.ofNat 32 d.held) v }) ∧
      (d.imm = 0 → d.held = 0 → d.w1c = 0 → BitVec.ofNat 32 d.tick ≠ 0 → t.sys = s.sys ∧
        (s.regs.staged src = none → t.regs.landed =
            { tb := s.time.tb, addr := a, mask := BitVec.ofNat 32 d.tick, old := s.cur a } :: s.regs.landed ∧
          t.cur a = (s.cur a &&& ~~~BitVec.ofNat 32 d.tick) ||| (v &&& BitVec.ofNat 32 d.tick)) ∧
        (∀ g, s.regs.staged src = some g → t.cur a = s.cur a ∧ t.regs.landed = s.regs.landed ∧
          t.regs.staged src = some (stageWord g a (BitVec.ofNat 32 d.tick) v))))

/-- The registers that act on a write do what their commands do: PLL-G and its lock detectors, the outputs, the
compare of a general timer, the brackets, exposure control, the Kennel, an auxiliary port, MGB_BARK_PEND and
LOG_ARCH_IDX; a tile mask of exposure control is stored; a LATENCY is stored, in the shadow or in the staging
set of an open bracket, and with the write, not with its commit, the lead correction of the fixture becomes 0
(the model's reading, log 117); a register with a copy for each source is written in the copy of its own. -/
def Sys2Proof.Say.RegisterWritesAreTheirCommands : Prop :=
  ∀ (s : State) (src : Src) (v : Word), Answers s →
    (∀ a, gMask a ≠ 0 → exec (.registerWrite src a v) s = exec (.pllGWrite src a v) s) ∧
    (∀ l, exec (.registerWrite src (0x010060 + 4 * pllIdx l) v) s = exec (.lockDetectWrite src l v) s) ∧
    (∀ i, i < 4 →
      (field v 0 1 = 1 → exec (.registerWrite src (0x010100 + 0x10 * i) v) s = exec (.clkoutEnable src i v) s) ∧
      (field v 0 1 = 0 → exec (.registerWrite src (0x010100 + 0x10 * i) v) s = exec (.clkoutDisable src i v) s) ∧
      (∀ w, 1 ≤ w → w ≤ 2 →
        exec (.registerWrite src (0x010100 + 0x10 * i + 4 * w) v) s = exec (.clkoutChange src i w v) s)) ∧
    (∀ n, n < 8 →
      exec (.registerWrite src (0x01810C + 0x20 * n) v) s = exec (.gtCompareLo src n v) s ∧
      (field v 0 1 = 1 → exec (.registerWrite src (0x018100 + 0x20 * n) v) s = exec (.gtEnable src n v) s)) ∧
    (Awake s →
      (field v 0 3 = 1 → exec (.registerWrite src 0x04C100 v) s = exec (.expSetOpen src) s) ∧
      (field v 0 3 = 2 → exec (.registerWrite src 0x04C100 v) s = exec (.expSetClose src) s) ∧
      (field v 0 3 = 4 → exec (.registerWrite src 0x04C100 v) s = exec (.expSetAbort src) s) ∧
      (field v 0 2 = 1 → exec (.registerWrite src 0x0B004C v) s = exec (.kenCmdKill src) s) ∧
      (field v 0 2 = 2 → exec (.registerWrite src 0x0B004C v) s = exec (.kenCmdSetGroups src) s) ∧
      (field v 0 2 = 3 → exec (.registerWrite src 0x0B004C v) s
        = exec (.kenCmdSetPersist src (decide (field v 2 1 = 1))) s)) ∧
    (∀ a, isCopied a = true → isRefused s src a = false → ∃ t, exec (.registerWrite src a v) s = .next t ∧
      kenCopy t src a = v.toNat ∧ RegsBut [a] s t ∧ ∀ d, d ≠ src → kenCopy t d a = kenCopy s d a) ∧
    (∀ p, p < 2 → field v 0 1 = 0 →
      exec (.registerWrite src (0x090000 + 0x400 * p) v) s = exec (.auxPortDisable src p v) s) ∧
    (Awake s → exec (.registerWrite src 0x0A0000 v) s = exec (.aeCtrlWrite src v) s) ∧
    (Awake s → exec (.registerWrite src 0x0B0034 v) s = exec (.kenCueGo src (field v 0 8)) s) ∧
    exec (.registerWrite src 0x120010 v) s = exec (.barkPendClear src (v.extractLsb' 0 7)) s ∧
    exec (.registerWrite src 0x130050 v) s = exec (.archiveRead src (field v 0 17)) s ∧
    (∀ i, i < 96 → isRefused s src (0x0A0400 + 4 * i) = false → ∃ t,
      exec (.registerWrite src (0x0A0400 + 4 * i) v) s = .next t ∧ t.cur (0x0A0400 + 4 * i) = v ∧
      RegsBut [0x0A0400 + 4 * i] s t ∧ t.regs = { s.regs with cur := t.regs.cur } ∧
      t = { s with regs := t.regs, ae := { s.ae with cmd := t.ae.cmd, newCmd := t.ae.newCmd } }) ∧
    (∀ n, n < 128 → isRefused s src (0x0E0038 + 0x100 * n) = false → ∃ t,
      exec (.registerWrite src (0x0E0038 + 0x100 * n) v) s = .next t ∧
      (s.regs.staged src = none → t.cur (0x0E0038 + 0x100 * n) = v ∧ t.regs.landed =
        { tb := s.time.tb, addr := 0x0E0038 + 0x100 * n, mask := 0xFFFFFFFF,
          old := s.cur (0x0E0038 + 0x100 * n) } :: s.regs.landed) ∧
      (∀ g, s.regs.staged src = some g → t.cur (0x0E0038 + 0x100 * n) = s.cur (0x0E0038 + 0x100 * n) ∧
        t.regs.staged src = some (stageWord g (0x0E0038 + 0x100 * n) 0xFFFFFFFF v)) ∧
      RegsBut [0x0E0038 + 0x100 * n] s t ∧ t.regs.act = s.regs.act ∧
      (t.hp n).lead = 0 ∧ t.hp n = { s.hp n with lead := 0 } ∧ ∀ m, m ≠ n → t.hp m = s.hp m)

/-- A read of a counter answers its value and subtracts it; a read of any other register changes none; an
address that no register occupies reads 0. -/
def Obligations.ReadingACounterTakesItsCount : Prop :=
  ∀ (s : State) (src : Src) (a : Nat), Answers s → ∃ t, exec (.rcRead src a) s = .next t ∧
    RegsBut [a] s t ∧ t = { s with regs := { s.regs with cur := t.regs.cur, lastRead := t.regs.lastRead } } ∧
    (descOf a = none → t.regs.lastRead = 0 ∧ t.cur a = s.cur a) ∧
    (∀ d, descOf a = some d → t.regs.lastRead = readWord s src a ∧
      t.cur a = if d.rc then 0 else s.cur a)

/-- Brackets: OPEN of a closed bracket empties the staging set; CLOSE merges every staged word into the shadow
in one step and closes, and what it merges has landed in its bus cycle: a commit of that cycle or an earlier one
takes the shadow as it was; ABORT discards the set and is counted; OPEN of an open bracket, CLOSE or ABORT of a
closed one, and a write with more than one bit set, do nothing but count as misuse. -/
def Sys2Proof.Say.BracketsOpenCloseAndAbort : Prop :=
  ∀ (s : State) (src : Src), Awake s →
    (s.regs.staged src = none →
      (∃ t, exec (.expSetOpen src) s = .next t ∧ t.regs.staged src = some [] ∧ t.regs.commits src = 0 ∧
        t.regs.opened src = s.time.tb ∧ RegsBut [] s t ∧ t.regs.act = s.regs.act ∧ t = { s with regs := t.regs }) ∧
      (∃ t, exec (.expSetClose src) s = .next t ∧ CountsOnly s t 0x04C130 1) ∧
      (∃ t, exec (.expSetAbort src) s = .next t ∧ CountsOnly s t 0x04C130 1)) ∧
    (∀ g, s.regs.staged src = some g →
      (∃ t, exec (.expSetOpen src) s = .next t ∧ CountsOnly s t 0x04C130 1) ∧
      (∃ t, exec (.expSetClose src) s = .next t ∧ t.regs.staged src = none ∧
        (∃ x ∈ t.regs.landed, x.tb = s.time.tb) ∧
        (∀ e a, e ≤ s.time.tb → rget (t.regs.shadowAt e) a = rget (s.regs.shadowAt e) a) ∧
        t.regs.act = s.regs.act ∧ t = { s with regs := t.regs } ∧
        (∀ a, (∀ x ∈ g, x.1 ≠ a) → t.cur a = s.cur a) ∧
        ((g.map (fun x => x.1)).Nodup → ∀ x ∈ g,
          t.cur x.1 = (s.cur x.1 &&& ~~~x.2.1) ||| (x.2.2 &&& x.2.1))) ∧
      (∃ t, exec (.expSetAbort src) s = .next t ∧ t.regs.staged src = none ∧ Risen s t 0x04C12C 1 ∧
        t.regs.act = s.regs.act ∧ t.regs.landed = s.regs.landed ∧ t.pending = s.pending ∧
        (src ≠ .shp ∨ s.ae.running = none → RegsBut [0x04C12C] s t ∧ t = { s with regs := t.regs }))) ∧
    (∀ v : Word, field v 0 3 ∈ [3, 5, 6, 7] → ∃ t,
      exec (.registerWrite src 0x04C100 v) s = .next t ∧ CountsOnly s t 0x04C130 1)

/-- The commit that is the BRACKET_MAX-th inside a bracket ends it: the staging set is discarded and counted,
and an event is logged; before that commit the bracket stays as it is. (A command with nothing to act on: log
3.) -/
def Sys2Proof.Say.BracketMaxEndsTheBracket : Prop :=
  ∀ (s : State) (src : Src), Awake s →
    ((s.regs.staged src).isSome = true → orIf (s.fc 0x04C108 0 8) 1 ≤ s.regs.commits src → ∃ t,
      exec (.bracketMaxAbort src) s = .next t ∧ t.regs.staged src = none ∧ t.regs.commits src = 0 ∧
      Risen s t 0x04C12C 1 ∧ RegsBut (0x04C12C :: 0x0A0088 :: logRegisters) s t ∧ t.regs.act = s.regs.act ∧
      LogsOne s t 0x0802 1 0x04C12C (match src with | .nlk => 0 | .mgb => 1 | .shp => 2) 0) ∧
    (s.regs.commits src < orIf (s.fc 0x04C108 0 8) 1 → exec (.bracketMaxAbort src) s = .next s)
/-! ## Exposure and storage nodes -/

/-- EXPOSURE_START of a scheduled exposure that no TRIG1 level gates: the exposure runs from its scheduled
boundary, E + start; no other exposure, tile, storage node or register changes. -/
def Sys2Proof.Say.ExposureStartsAtItsBoundary : Prop :=
  ∀ (s : State) (tile n : Nat), Ticking s → 1 ≤ n → n ≤ 4 →
    let e := (s.tile tile).exp n
    e.exists_ = true → e.dropped = false → e.started = false → e.done = false → isGated s tile n = false →
    ∃ t, exec (.exposureStart tile n) s = .next t ∧ (t.tile tile).exp n = { e with started := true } ∧
      s.time.e + 32 * e.start ≤ t.time.tb ∧
      (∀ m, 1 ≤ m → m ≠ n → (t.tile tile).exp m = (s.tile tile).exp m) ∧
      (∀ i, i ≠ tile → t.tile i = s.tile i) ∧
      t.img.nodes = s.img.nodes ∧ t.regs = s.regs ∧ t.time = { s.time with tb := t.time.tb } ∧ Stores s t

/-- A transfer changes no node that holds charge. TRANSFER of an exposure that no TRIG1 level gates: an EMPTY
node takes the charge and is HELD, with the frame and the exposure it belongs to; a node that holds charge keeps
its state, the suppressed transfer is counted and the tile marked. Every other node and register stays. -/
def Sys2Proof.Say.TransferFillsOnlyAnEmptyNode : Prop :=
  ∀ (s : State) (tile n : Nat),
    (∃ t, exec (.transfer tile n) s = .next t ∧
      ∀ i m, (s.node i m).phase ≠ .empty → t.node i m = s.node i m) ∧
    (Ticking s → 1 ≤ n → n ≤ 4 →
    let e := (s.tile tile).exp n
    let d := expNode (entryOf s.regs.act tile).mode n
    e.exists_ = true → e.dropped = false → e.done = false → isGated s tile n = false →
    ∃ t, exec (.transfer tile n) s = .next t ∧
      ((t.tile tile).exp n).done = true ∧ s.time.e + 32 * (e.start + e.len) ≤ t.time.tb ∧
      ((s.node tile d).phase = .empty →
        t.node tile d = { phase := .held, frame := s.time.k, n := n } ∧
        (∀ i m, 2 * i + m ≠ 2 * tile + d → t.node i m = s.node i m) ∧ t.regs = s.regs) ∧
      ((s.node tile d).phase ≠ .empty → t.img.nodes = s.img.nodes ∧ Risen s t 0x04C010 1 ∧
        RegsBut [0x04C010] s t ∧
        (if d = 0 then (t.tile tile).blockedA = true else (t.tile tile).blockedB = true)) ∧
      Stores s t)

/-- A gated exposure whose window holds an active interval of TRIG1 starts with the interval, and its transfer,
at the scheduled end, records the first interval in the tile and fills an EMPTY node as any other does. -/
def Sys2Proof.Say.GatedExposureFollowsTheLevel : Prop :=
  ∀ (s : State) (tile n x y : Nat), Ticking s →
    let e := (s.tile tile).exp n
    let d := expNode (entryOf s.regs.act tile).mode n
    e.exists_ = true → e.dropped = false → e.done = false → isGated s tile n = true →
    Interval s e.start (e.start + e.len) x y →
    (e.started = false → ∃ t, exec (.exposureStart tile n) s = .next t ∧
      (t.tile tile).exp n = { e with started := true } ∧ t.time.tb = max s.time.tb (s.time.e + 32 * x) ∧
      t.img.nodes = s.img.nodes ∧ t.regs = s.regs ∧ Stores s t) ∧
    (∃ t, exec (.transfer tile n) s = .next t ∧ (t.tile tile).gate = some (x, y - x) ∧
      ((t.tile tile).exp n).done = true ∧ t.time.tb = max s.time.tb (s.time.e + 32 * (e.start + e.len)) ∧
      ((s.node tile d).phase = .empty →
        t.node tile d = { phase := .held, frame := s.time.k, n := n } ∧ t.regs = s.regs) ∧
      ((s.node tile d).phase ≠ .empty → t.img.nodes = s.img.nodes ∧ Risen s t 0x04C010 1) ∧ Stores s t)

/-- A gated exposure whose window holds no active interval of TRIG1 makes no pulse: no node changes, the tile is
marked GATE_EMPTY, and the frame is counted once; nor does such an exposure start. (A command with nothing to
act on: log 3.) -/
def Sys2Proof.Say.GatedTransferWithoutLevelMakesNoPulse : Prop :=
  ∀ (s : State) (tile n : Nat), Ticking s →
    let e := (s.tile tile).exp n
    e.exists_ = true → e.dropped = false → e.done = false → isGated s tile n = true →
    firstAt s.time.e s.img.hist (trig1Want s) e.start (e.start + e.len) = none →
    ∃ t, exec (.transfer tile n) s = .next t ∧ t.img.nodes = s.img.nodes ∧
      (t.tile tile).gateEmpty = true ∧ t.img.gateMiss = true ∧ RegsBut [0x04C228] s t ∧
      (s.img.gateMiss = true → t.regs = s.regs) ∧ (s.img.gateMiss = false → Risen s t 0x04C228 1) ∧
      exec (.exposureStart tile n) s = .next s

/-- TILE_ROW_FLUSH empties both nodes of every tile whose tile-row the plan of the tick does not read, and no
other, and in a tick with an optical-black pass, and in one that opened without a plan, the nodes of the OB
rows; a second flush of the tick does nothing. TRIG1_LEVEL_CHANGE: a level that the pin keeps for the filter is
the new filtered level from its instant, filter + 24 ± 1 bus counts later; a shorter one changes nothing. (A
command with nothing to act on: log 3.) -/
def Obligations.FlushEmptiesSkippedTileRows : Prop :=
  ∀ s : State,
    (Ticking s → s.img.flushed = false → ∃ t, exec .tileRowFlush s = .next t ∧ t.img.flushed = true ∧
      (∀ i n, n < 2 → t.node i n = if s.img.cur.plan.rows.contains (i / 64) then s.node i n else Node.empty) ∧
      (s.img.cur.plan.obRun = true ∨ s.img.cur.plan.made = false →
        t.cnv = { s.cnv with obClear := s.time.e + 2250 }) ∧
      (s.img.cur.plan.obRun = false → s.img.cur.plan.made = true → t.cnv = s.cnv) ∧
      t.regs = s.regs ∧ s.time.e + 2250 ≤ t.time.tb ∧ Stores s t) ∧
    (Ticking s → s.img.flushed = true → exec .tileRowFlush s = .next s) ∧
    (Awake s → ∀ (u held slip : Nat) (high : Bool), ∃ t, exec (.trig1LevelChange u ⟨high, held, slip⟩) s = .next t ∧
      u ≤ t.time.tb ∧ t.regs = s.regs ∧ t.img.nodes = s.img.nodes ∧
      (s.img.trig1 ≠ high → s.fc 0x04C20C 16 10 ≤ held → t.img.trig1 = high ∧
        ∃ v, t.img.hist = s.img.hist ++ [(v, high)] ∧ max s.time.tb u + s.fc 0x04C20C 16 10 + 23 ≤ v ∧
          v ≤ max s.time.tb u + s.fc 0x04C20C 16 10 + 25) ∧
      (s.img.trig1 = high ∨ held < s.fc 0x04C20C 16 10 → t.img = s.img))
/-! ## Timecode, GENLOCK, SYNC and timers -/

/-- LTC_WORD: a complete word is kept with its instant; a bad one is discarded and counted, and the word kept
before stands. With RATE 0 two complete words in a row whose periods are nearest the same nominal rate set the
rate in use; words that do not agree leave it (kept while RATE is set: the model's choice, log 169; a period
midway between two rates counts for the slower: log 215). -/
def Sys2Proof.Say.TimecodeWordIsKeptOrCounted : Prop :=
  ∀ (s : State) (u p : Nat) (w : BitVec 64), Awake s → s.fc 0x04C300 0 1 = 1 →
    (∃ t, exec (.ltcWord u ⟨w, p⟩ true) s = .next t ∧ t.img.tc.word = some (w.toNat, u) ∧
      t.img.tc.lastRate = nearestRate p ∧ t.regs = s.regs ∧ Stores s t ∧
      (s.fc 0x04C300 1 2 = 0 → s.img.tc.lastRate = nearestRate p → t.img.tc.rate = nearestRate p) ∧
      (s.fc 0x04C300 1 2 ≠ 0 ∨ s.img.tc.lastRate ≠ nearestRate p → t.img.tc.rate = s.img.tc.rate)) ∧
    (∃ t, exec (.ltcWord u ⟨w, p⟩ false) s = .next t ∧ t.img.tc.word = s.img.tc.word ∧
      t.img.tc.rate = s.img.tc.rate ∧ Risen s t 0x04C310 1 ∧ RegsBut [0x04C310] s t ∧ Stores s t)

/-- GENLOCK_PULSE: while PLL-G is locked to pulses, a pulse within 5 % of one period of the last qualified one
is the new phase; another is counted as spurious and changes nothing else. Before the first lock every pulse is
taken; after a loss of lock one at a whole number of periods within 5 % of a period (log 166). -/
def Sys2Proof.Say.GenlockPulseIsQualified : Prop :=
  ∀ (s : State) (x : Nat), Answers s → pulseInput s = true → s.clk.gEnabled = true → legacyMode s = false →
    (∀ p last, s.clk.pulse16 = some last → s.clk.period16 = some p →
      let d := x - last
      (s.clk.gEver = false ∨ (s.clk.gLock = true ∧ 95 * p ≤ 100 * d ∧ 100 * d ≤ 105 * p) → ∃ t,
        exec (.genlockPulse x) s = .next t ∧ t.clk.pulse16 = some x ∧ t.clk.period16 = some d ∧
        t.regs = s.regs) ∧
      (∀ n, s.clk.gEver = true → s.clk.gLock = false → 0 < p → 1 ≤ n → d = n * p → ∃ t,
        exec (.genlockPulse x) s = .next t ∧ t.clk.pulse16 = some x ∧ t.clk.period16 = some p ∧
        t.regs = s.regs) ∧
      (s.clk.gEver = true → s.clk.gLock = true → 100 * d < 95 * p ∨ 105 * p < 100 * d → ∃ t,
        exec (.genlockPulse x) s = .next t ∧ t.clk = s.clk ∧ Risen s t 0x01020C 1 ∧ RegsBut [0x01020C] s t)) ∧
    (s.clk.pulse16 = none → ∃ t, exec (.genlockPulse x) s = .next t ∧ t.clk.pulse16 = some x ∧
      t.clk.period16 = s.clk.period16 ∧ t.regs = s.regs)

/-- GENLOCK_HOLDOVER while ticks follow GENLOCK, two periods after the last qualified pulse: GL_HOLD is set and
GL_SLEW cleared, a PLL-G that was locked holds over and is counted, and the period stays; a second one changes
nothing. (A command with nothing to act on: log 3.) -/
def Sys2Proof.Say.GenlockHoldoverHoldsThePeriod : Prop :=
  ∀ s : State, Awake s → edgeKind s = 1 → pulseInput s = true →
    (∀ p q, s.time.glHold = false → s.clk.pulse16 = some p → s.clk.period16 = some q → ∃ t,
      exec .genlockHoldover s = .next t ∧ t.time.glHold = true ∧ p + 2 * q ≤ 16 * t.time.tb ∧
      t.time.glSlew = false ∧ t.clk.gLock = false ∧ t.time.t = s.time.t ∧ t.time.cmp = s.time.cmp ∧
      (s.clk.gLock = true → t.clk.gHoldover = true ∧ Risen s t 0x010208 1)) ∧
    (s.time.glHold = true → exec .genlockHoldover s = .next s)

/-- SYNC_EDGE of the polarity selected, with SYNC input enabled: an edge less than 1 µs (750 counts) after the
last accepted one is counted and changes no output; any other is counted as accepted, and the divider of every
selected output that runs, or waits with its loop locked, is reset at the second REFCLK edge after it (R412;
within a count: the model's choice, log 167), but one that waits above the frequency limit of its format is
stopped with FREQ_ERR. An edge of the other polarity does nothing but pass. -/
def Sys2Proof.Say.SyncEdgeAlignsSelectedOutputs : Prop :=
  ∀ (s : State) (u : Nat) (rising : Bool), Answers s → s.fc 0x010074 0 1 = 1 →
    (rising = decide (s.fc 0x010074 1 1 = 1) → exec (.syncEdge ⟨u, rising⟩) s
      = .next { s with time := { s.time with tb := max s.time.tb u } }) ∧
    (∀ v, rising = decide (s.fc 0x010074 1 1 = 0) → s.clk.lastSync = some v → max s.time.tb u < v + 750 → ∃ t,
      exec (.syncEdge ⟨u, rising⟩) s = .next t ∧ t.clk = s.clk ∧ Risen s t 0x010214 1 ∧ RegsBut [0x010214] s t) ∧
    (rising = decide (s.fc 0x010074 1 1 = 0) →
      (∀ v, s.clk.lastSync = some v → v + 750 ≤ max s.time.tb u) → ∃ t,
      exec (.syncEdge ⟨u, rising⟩) s = .next t ∧ t.clk.lastSync = some (max s.time.tb u) ∧ Risen s t 0x010210 1 ∧
      RegsBut [0x010210, 0x010100, 0x010110, 0x010120, 0x010130] s t ∧
      ∀ i, i < 4 →
        let a := 0x010100 + 0x10 * i
        let hit := s.fc a 7 1 = 1 ∧ ((s.out i).running = true ∨
          ((s.out i).waitSync = true ∧ srcLocked s (s.out i).src = true))
        let hz := outFreq s (s.out i).src (s.out i).div
        let high := (s.out i).waitSync = true ∧ 0 < hz.2 ∧ fmtMax (s.out i).fmt * hz.2 < hz.1
        (¬ hit → t.out i = s.out i ∧ t.cur a = s.cur a) ∧
        (hit → high → t.out i = ClkOut.off ∧ t.fc a 31 1 = 1 ∧ t.fc a 0 31 = s.fc a 0 31) ∧
        (hit → ¬ high → t.cur a = s.cur a ∧ t.out i =
          { s.out i with running := true, waitSync := false, low := false,
                         aligned := some (syncReset s (max s.time.tb u)) }))

/-- TIMER_FIRE of an enabled and armed timer, in the first cycle of the clock at which its count has reached the
compare: its status bit is set, and with IE its interrupt is pending, on the slow clock when the Shepherd runs
again; with INTERVAL 0 (as it stood before the bus cycle of the match) it is disarmed; else its compare moves on
by whole intervals to a point later than the count, and the points skipped are counted. The other timers stay.
-/
def Sys2Proof.Say.TimerFiresAndRearms : Prop :=
  ∀ (s : State) (n : Nat), Answers s → n < 8 → s.fc (0x018100 + 0x20 * n) 0 1 = 1 → (s.timer n).armed = true →
    (s.timer n).compare * 2 ^ (s.timer n).presc + 500 ≤ 2 ^ 64 → s.time.frac < (refStep s.clk.refCode).2 →
    (∀ f, (s.timer n).fired = some f → f.tb < s.time.tb) →
    ∃ t, exec (.timerFire n) s = .next t ∧ (t.cur 0x018200).getLsbD n = true ∧
      (s.fc (0x018100 + 0x20 * n) 1 1 = 1 → s.time.slow = false → t.clk.irq.getLsbD n = true) ∧
      (s.fc (0x018100 + 0x20 * n) 1 1 = 0 ∨ s.time.slow = true → t.clk = { s.clk with timers := t.clk.timers }) ∧
      RegsBut [0x018200, 0x018114 + 0x20 * n] s t ∧ (∀ m, m ≠ n → t.timer m = s.timer m) ∧
      s.time.tb ≤ t.time.tb ∧ (s.timer n).compare * 2 ^ (s.timer n).presc ≤ t.time.tb % 2 ^ 64 ∧
      t.time.tb < s.time.tb + ((s.timer n).compare * 2 ^ (s.timer n).presc - s.tb64) + 500 ∧
      (s.time.src = .bus → t.time.tb = s.time.tb + ((s.timer n).compare * 2 ^ (s.timer n).presc - s.tb64)) ∧
      (let iv := match (s.timer n).ivOld with
         | some (u, w) => if u = t.time.tb then w else (s.cur (0x018104 + 0x20 * n)).toNat
         | none => (s.cur (0x018104 + 0x20 * n)).toNat
       let count := t.time.tb % 2 ^ 64 / 2 ^ (s.timer n).presc
       (iv = 0 → (t.timer n).armed = false ∧ (t.timer n).compare = (s.timer n).compare) ∧
       (iv ≠ 0 → (t.timer n).armed = true ∧ ∃ m, count < (s.timer n).compare + (m + 1) * iv ∧
         (m ≠ 0 → (s.timer n).compare + m * iv ≤ count) ∧
         (t.timer n).compare = ((s.timer n).compare + (m + 1) * iv) % 2 ^ 64 ∧
         Risen s t (0x018114 + 0x20 * n) m))

/-- GT_COMPARE_LO applies the held high word and the low word as one compare in the cycle after the write, and
arms the timer; GT_ENABLE of a timer that was disabled applies PRESC and arms it, and of an enabled one leaves
the PRESC, COMPARE and INTERVAL in effect as they are. Where the count of that cycle has not reached the
compare, nothing fires; where it has, an enabled timer fires at once. GT0 to GT3 take writes of the Shepherd
alone: another source changes nothing. (A command with nothing to act on: log 3.) -/
def Sys2Proof.Say.TimerWritesArmTheTimer : Prop :=
  ∀ (s : State) (src : Src) (n : Nat) (v : Word), Answers s → n < 8 →
    (n < 4 → src ≠ .shp →
      exec (.gtCompareLo src n v) s = .next s ∧ exec (.gtEnable src n v) s = .next s) ∧
    (4 ≤ n ∨ src = .shp →
      (∀ h : Word, (s.timer n).heldHi = some h →
        s.tb64 / 2 ^ (s.timer n).presc < (s.timer n).compare →
        (clockCycle s).tb64 / 2 ^ (s.timer n).presc < h.toNat * 2 ^ 32 + v.toNat → ∃ t,
          exec (.gtCompareLo src n v) s = .next t ∧ t.regs = s.regs ∧ t.time = (clockCycle s).time ∧
          t.timer n = { s.timer n with
            compare := h.toNat * 2 ^ 32 + v.toNat, heldHi := none, armed := true } ∧
          (∀ m, m ≠ n → t.timer m = s.timer m)) ∧
      (∀ h : Word, (s.timer n).heldHi = some h → s.fc (0x018100 + 0x20 * n) 0 1 = 1 →
        s.tb64 / 2 ^ (s.timer n).presc < (s.timer n).compare →
        h.toNat * 2 ^ 32 + v.toNat ≤ (clockCycle s).tb64 / 2 ^ (s.timer n).presc →
        (∀ f, (s.timer n).fired = some f → f.tb ≤ s.time.tb) → ∃ t,
          exec (.gtCompareLo src n v) s = .next t ∧ (t.cur 0x018200).getLsbD n = true ∧
          t.time = (clockCycle s).time ∧ (t.timer n).heldHi = none) ∧
      (s.fc (0x018100 + 0x20 * n) 0 1 = 0 →
        (clockCycle s).tb64 / 2 ^ field v 16 4 < (s.timer n).compare → ∃ t,
          exec (.gtEnable src n v) s = .next t ∧
          t.cur (0x018100 + 0x20 * n) = (v ||| 1) &&& 0xF0003 ∧ RegsBut [0x018100 + 0x20 * n] s t ∧
          t.timer n = { s.timer n with presc := field v 16 4, armed := true } ∧
          (∀ m, m ≠ n → t.timer m = s.timer m)) ∧
      (s.fc (0x018100 + 0x20 * n) 0 1 = 0 → ∃ t, exec (.gtEnable src n v) s = .next t ∧
        (t.timer n).presc = field v 16 4 ∧ ∀ m, m ≠ n → t.timer m = s.timer m) ∧
      (s.fc (0x018100 + 0x20 * n) 0 1 = 1 → ∃ t, exec (.gtEnable src n v) s = .next t ∧
        t.cur (0x018100 + 0x20 * n) = (v ||| 1) &&& 0xF0003 ∧ RegsBut [0x018100 + 0x20 * n] s t ∧
        ∀ m, t.timer m = s.timer m))

/-- SLOW_CLOCK_ENTRY, in FACTORY and OPENED with debug enabled: TB goes on from the slow clock, the entry is
counted and shown; without an open debug port it finds nothing to do (log 3). BUS_CLOCK_RETURN: the tick compare
is caught up by whole periods to the FIRST point later than TB, and TMR_TICK_MISSED counts the periods skipped;
the period is the tick interval where ticks run as FREE (in the other modes the last or longest period: the
model's reading, log 140); the interrupts of timers that have fired meanwhile are delivered. -/
def Obligations.SlowClockComesAndGoes : Prop :=
  ∀ s : State, Awake s →
    (s.time.slow = false → s.otp.dbgEn = true → s.otp.lifecycle ≠ 1 → ∃ t, exec .slowClockEntry s = .next t ∧
      t.time = { s.time with slow := true, src := .slow } ∧
      Risen s t 0x018210 1 ∧ t.fc 0x01800C 2 1 = 1 ∧ RegsBut [0x018210, 0x01800C] s t) ∧
    (s.otp.dbgEn = false ∨ s.otp.lifecycle = 1 → exec .slowClockEntry s = .next s) ∧
    (s.time.slow = true → ∃ t, exec .busClockReturn s = .next t ∧ t.time.slow = false ∧
      t.time.src = (if s.clk.busSrc = 1 then .refclk else .bus) ∧ t.time.tb = s.time.tb ∧
      RegsBut [0x018050] s t ∧ t.time.tb < t.time.cmp ∧
      (s.img.cur.mode = 0 →
        gridStep s = max 1 (min (max (s.cur 0x018040).toNat s.time.tmin) countsPerSec)) ∧
      (∃ n, Risen s t 0x018050 n ∧ t.time.cmp = s.time.cmp + n * gridStep s ∧
        (n = 0 ∨ s.time.cmp + (n - 1) * gridStep s ≤ s.time.tb)) ∧
      ∀ n, n < 8 → s.fc 0x018200 n 1 = 1 → s.fc (0x018100 + 0x20 * n) 1 1 = 1 → t.clk.irq.getLsbD n = true)
/-! ## Clock synthesis -/

/-- A loop declares lock on errors within its window: PLL-C gives the bus its clock again, PLL-S the links
theirs, PLL-G ends its holdover; the other loops stay as they are. N errors within the window, from a count of
none, are enough. LOCK_A then stands above its threshold where it follows the loop and VPLL is in its window. A
loop that is not enabled changes nothing. (A command with nothing to act on: log 3.) -/
def Sys2Proof.Say.LoopsDeclareLock : Prop :=
  ∀ (s : State) (errs : List Nat), Answers s →
    (∀ l, (∀ x ∈ errs, x ≤ (ldLimits s l).2.1) → errs.length = (ldLimits s l).1 →
      mget 0 s.clk.ld (pllIdx l) = 0 → LocksBy s l errs) ∧
    (s.clk.cEnabled = true → s.clk.cLock = false → s.clk.refLost = false → LocksBy s .c errs → ∃ t,
      exec (.pllLock ⟨.c, errs⟩) s = .next t ∧ t.clk.cLock = true ∧ t.clk.busSrc = 0 ∧
      (s.sys.vpllOk = true → lockSel s = 0 → lockA t = .above) ∧
      t.clk.sLock = s.clk.sLock ∧ t.clk.gLock = s.clk.gLock ∧
      t.time = { s.time with src := if s.time.slow then .slow else .bus }) ∧
    (s.clk.sEnabled = true → s.clk.sLock = false → s.clk.refLost = false → LocksBy s .s errs →
      ∃ t, exec (.pllLock ⟨.s, errs⟩) s = .next t ∧ t.clk.sLock = true ∧ t.clk.cLock = s.clk.cLock ∧
      (s.sys.vpllOk = true → lockSel s = 1 → lockA t = .above) ∧
      t.clk.gLock = s.clk.gLock ∧ t = { s with clk := t.clk }) ∧
    (s.clk.gEnabled = true → s.clk.gLock = false → gLegal s = true → LocksBy s .g errs → ∃ t,
      exec (.pllLock ⟨.g, errs⟩) s = .next t ∧
      (s.sys.vpllOk = true → lockSel s = 2 → lockA t = .above) ∧
      t.clk.gLock = true ∧ t.clk.gHoldover = false ∧ t.clk.gReacquire = false ∧
      t.clk.cLock = s.clk.cLock ∧ t.clk.sLock = s.clk.sLock ∧ t.time = s.time) ∧
    (∀ l, (l = .c → s.clk.cEnabled = false) → (l = .s → s.clk.sEnabled = false) →
      (l = .g → s.clk.gEnabled = false) → exec (.pllLock ⟨l, errs⟩) s = .next s)

/-- A loop that does not lock in time: without PLL-C the bus clock is REFCLK; without PLL-S every link in
training goes DOWN; where PLL-G has not locked since its enable, in a CLEAN use, PLL-C takes REFCLK directly
with the settings of its REF_CODE row, and the event is logged; a PLL-G that has locked once in the start is
left as it is. (A command with nothing to act on: log 3.) -/
def Sys2Proof.Say.LoopsThatDoNotLock : Prop :=
  ∀ s : State, Answers s →
    (s.clk.cLock = false → exec (.pllLockTimeout .c) s = .next
      { s with clk := { s.clk with cEnabled := false, busSrc := 1 },
               time := { s.time with src := if s.time.slow then .slow else .refclk } }) ∧
    (s.clk.sLock = false → ∃ t, exec (.pllLockTimeout .s) s = .next t ∧
      ∀ l, l < 2 → (t.link l).state = if (s.link l).state = .training then .down else (s.link l).state) ∧
    (cleanUse s = true → s.clk.gEver = false → s.clk.gBypassed = false → ∃ t,
      exec .pllGLockTimeout s = .next t ∧ t.clk = { s.clk with gBypassed := true } ∧
      (let row := refRow s.clk.refCode
       t.cur 0x010010 = BitVec.ofNat 32 (row.2.1 * 65536 + row.1) ∧
       t.cur 0x010014 = BitVec.ofNat 32 row.2.2.1 ∧ t.cur 0x010018 = BitVec.ofNat 32 row.2.2.2) ∧
      LogsOne s t 0x0201 1 0x010004 1 0 ∧
      RegsBut (0x010010 :: 0x010014 :: 0x010018 :: logRegisters) s t ∧ t.time = s.time) ∧
    (s.clk.gEver = true → exec .pllGLockTimeout s = .next s)

/-- Loss of lock, by the event or by phase errors beyond the window: PLL-C, a unit whose fault takes the device
to tier 1 at most, is counted, leaves the bus on REFCLK and the readout stopped; PLL-S takes every link out of
UP and is counted, with the tier as it was; PLL-G is counted. With a pulse input the event of PLL-G comes two
periods after the last qualified pulse, and it holds over. LOSS errors beyond the window, from a count of none,
are enough; errors that do not suffice leave the lock. LOCK_A falls with the lock of PLL-C where it follows it.
-/
def Sys2Proof.Say.LoopsLoseLock : Prop :=
  ∀ (s : State) (errs : List Nat), Answers s →
    (∀ l, (∀ x ∈ errs, (ldLimits s l).2.1 < x) → errs.length = (ldLimits s l).2.2 →
      mget 0 s.clk.ld (pllIdx l) = 0 → LosesBy s l errs) ∧
    (s.clk.cLock = true → ∀ i, i = .pllCUnlock ∨ (i = .pllLock ⟨.c, errs⟩ ∧ s.clk.cEnabled = true ∧
      s.clk.refLost = false ∧ LosesBy s .c errs) → ∃ t, exec i s = .next t ∧ t.clk.cLock = false ∧
      t.clk.busSrc = 1 ∧ (s.sys.vpllOk = true → lockSel s = 0 → lockA t = .below) ∧
      Risen s t 0x010200 1 ∧ t.sys.rdoStopped = true ∧ t.sys.tier ≤ 1 ∧ .pllC ∈ t.sys.failed) ∧
    (s.clk.sLock = true → ∀ i, i = .pllSUnlock ∨ (i = .pllLock ⟨.s, errs⟩ ∧ s.clk.sEnabled = true ∧
      s.clk.refLost = false ∧ LosesBy s .s errs) → ∃ t, exec i s = .next t ∧ t.clk.sLock = false ∧
      Risen s t 0x010204 1 ∧ t.sys.tier = s.sys.tier ∧ (t.link 0).state ≠ .up ∧ (t.link 1).state ≠ .up) ∧
    (s.clk.gLock = true → ∀ i, (i = .pllGUnlock ∧ pulseInput s = false) ∨ (i = .pllLock ⟨.g, errs⟩ ∧
      s.clk.gEnabled = true ∧ LosesBy s .g errs) → ∃ t, exec i s = .next t ∧ t.clk.gLock = false ∧
      t.clk.cLock = s.clk.cLock ∧ t.clk.sLock = s.clk.sLock ∧ Risen s t 0x010208 1) ∧
    (∀ p q, s.clk.gLock = true → pulseInput s = true → s.clk.pulse16 = some p → s.clk.period16 = some q → ∃ t,
      exec .pllGUnlock s = .next t ∧ t.clk.gLock = false ∧ t.clk.gHoldover = true ∧
      p + 2 * q ≤ 16 * t.time.tb ∧ t.clk.cLock = s.clk.cLock ∧ t.clk.sLock = s.clk.sLock ∧
      Risen s t 0x010208 1) ∧
    (∀ l, (l = .c → s.clk.cLock = true) → (l = .s → s.clk.sLock = true) → (l = .g → s.clk.gLock = true) →
      ¬ LosesBy s l errs → ∃ t, exec (.pllLock ⟨l, errs⟩) s = .next t ∧
      t = { s with clk := { s.clk with ld := t.clk.ld } })

/-- REF_LOST: PLL-C holds over as the bus clock's source, no loop is in lock and each that was is counted, the
tier is 1 at most, no output runs and a warm restart of CAUSE 5 is due. -/
def Sys2Proof.Say.ReferenceLossCallsARestart : Prop :=
  ∀ s : State, Answers s → s.clk.refLost = false → ∃ t, exec .refLost s = .next t ∧
    t.clk.refLost = true ∧ t.clk.busSrc = 2 ∧ t.clk.cLock = false ∧ t.clk.sLock = false ∧ t.clk.gLock = false ∧
    Risen s t 0x010200 (if s.clk.cLock then 1 else 0) ∧ Risen s t 0x010204 (if s.clk.sLock then 1 else 0) ∧
    Risen s t 0x010208 (if s.clk.gLock then 1 else 0) ∧
    (∀ i, t.out i = ClkOut.off) ∧ t.sys.tier ≤ max 1 s.sys.tier ∧ (1 ≤ s.sys.tier → t.sys.tier = 1) ∧
    t.sys.phase = .restarting ∧ t.sys.cause = 5 ∧ t.time.tickOpen = false

/-- In a CLEAN use the loss of PLL-G's input leaves PLL-C as it is, is counted where PLL-G was locked, and
logged; its return starts a slewed reacquisition. -/
def Sys2Proof.Say.CleanInputIsLostAndReturns : Prop :=
  ∀ s : State, Answers s → cleanUse s = true →
    (s.clk.gHoldover = false → ∃ t, exec .pllGInputLost s = .next t ∧
      t.clk.gHoldover = true ∧ t.clk.gLock = false ∧ t.clk.cLock = s.clk.cLock ∧
      Risen s t 0x010208 (if s.clk.gLock then 1 else 0) ∧ LogsOne s t 0x0201 1 0x010004 1 0) ∧
    (s.clk.gHoldover = true →
      exec .pllGInputReturn s = .next { s with clk := { s.clk with gReacquire := true } })

/-- A write of a PLL-G register: in a CLEAN use it is refused; with PLL-G disabled before and after, it sets the
register's bits and nothing else; where EN is or becomes 1 the acquisition starts again and G_LOCK is 0. A write
of a lock detector sets its word, and no loop gains or loses lock by it. -/
def Sys2Proof.Say.PllWritesRestartAcquisition : Prop :=
  ∀ (s : State) (src : Src) (a : Nat) (v : Word), Answers s →
    (gMask a ≠ 0 → cleanUse s = true → exec (.pllGWrite src a v) s = .next s) ∧
    (gMask a ≠ 0 → cleanUse s = false → ∃ t, exec (.pllGWrite src a v) s = .next t ∧
      t.cur a = (s.cur a &&& ~~~(gMask a)) ||| (v &&& gMask a) ∧
      (s.fc 0x010040 0 1 = 1 ∨ t.fc 0x010040 0 1 = 1 → t.clk.gLock = false) ∧
      (s.fc 0x010040 0 1 = 0 → t.fc 0x010040 0 1 = 0 → t.clk = s.clk ∧ RegsBut [a] s t)) ∧
    (∀ l, ∃ t, exec (.lockDetectWrite src l v) s = .next t ∧
      t.cur (0x010060 + 4 * pllIdx l) = v &&& 0x0FFF1FFF ∧ RegsBut [0x010060 + 4 * pllIdx l] s t ∧
      t.clk = { s.clk with ld := t.clk.ld })

/-- An output whose EN is written 1 while its loop is locked and its frequency within its format's limit runs,
or waits for SYNC, with the settings of its registers; one whose loop is not locked stays off and shows it;
before the first tick edge of a start every output stays off; CLKOUT_DISABLE turns it off; a change of an output
that is off sets its word alone; a running one whose phase is changed with WAIT_SYNC set holds low, and is not
high-impedance, until the SYNC reset. In the LVCMOS formats the _N pin is high-impedance. No other output
changes. -/
def Sys2Proof.Say.OutputsStartAndStop : Prop :=
  ∀ (s : State) (src : Src) (i : Nat) (v : Word), Answers s → i < 4 →
    (∃ t, exec (.clkoutEnable src i v) s = .next t ∧ t.fc (0x010100 + 0x10 * i) 0 1 = 1 ∧
      (∀ j, j ≠ i → t.out j = s.out j) ∧
      (s.fc (0x010100 + 0x10 * i) 0 1 = 0 →
        let src' := field v 1 3
        let div := orIf (s.fc (0x010104 + 0x10 * i) 0 24) 1
        let d := outDelay s src' div (s.fc (0x010108 + 0x10 * i) 0 16)
        (s.sys.phase ≠ .run → t.out i = ClkOut.off) ∧
        (s.sys.phase = .run → src' < 5 → srcLocked s src' = true →
          (outFreq s src' div).1 ≤ fmtMax (field v 4 2) * (outFreq s src' div).2 ∨ (outFreq s src' div).2 = 0 →
          t.out i = { running := decide (field v 8 1 = 0), waitSync := decide (field v 8 1 = 1),
                      low := decide (field v 8 1 = 1) && ((s.out i).running || (s.out i).low), src := src',
                      div := div, high := ceilDiv div 2, delay := d.1, delayDen := d.2, fmt := field v 4 2,
                      pulse := none, lastPulse := none, aligned := none }) ∧
        (s.sys.phase = .run → src' < 5 → srcLocked s src' = false →
          t.out i = ClkOut.off ∧ t.fc (0x010100 + 0x10 * i) 30 1 = 1))) ∧
    (∃ t, exec (.clkoutDisable src i v) s = .next t ∧ t.out i = ClkOut.off ∧
      t.fc (0x010100 + 0x10 * i) 0 1 = 0 ∧ t.fc (0x010100 + 0x10 * i) 29 3 = 0 ∧
      (∀ j, j ≠ i → t.out j = s.out j) ∧ RegsBut [0x010100 + 0x10 * i] s t) ∧
    (∀ w, 1 ≤ w → w ≤ 2 → s.fc (0x010100 + 0x10 * i) 0 1 = 0 → ∃ t,
      exec (.clkoutChange src i w v) s = .next t ∧
      t.cur (0x010100 + 0x10 * i + 4 * w)
        = (s.cur (0x010100 + 0x10 * i + 4 * w) &&& ~~~(if w = 1 then 0xFFFFFF else 0xFFFF))
          ||| (v &&& (if w = 1 then 0xFFFFFF else 0xFFFF)) ∧
      t.out i = ClkOut.off ∧ ∀ j, j ≠ i → t.out j = s.out j) ∧
    (let a := 0x010100 + 0x10 * i
     let div := orIf (s.fc (a + 4) 0 24) 1
     s.sys.phase = .run → s.fc a 0 1 = 1 → s.fc a 8 1 = 1 → field v 0 16 ≠ s.fc (a + 8) 0 16 →
      (s.out i).running = true → s.fc a 1 3 < 5 →
      srcLocked s (s.fc a 1 3) = true →
      (outFreq s (s.fc a 1 3) div).1 ≤ fmtMax (s.fc a 4 2) * (outFreq s (s.fc a 1 3) div).2 → ∃ t,
      exec (.clkoutChange src i 2 v) s = .next t ∧ (t.out i).waitSync = true ∧ (t.out i).running = false ∧
      (t.out i).low = true ∧ clkoutHighZ t i = false ∧ ∀ j, j ≠ i → t.out j = s.out j) ∧
    (2 ≤ (s.out i).fmt → clkoutNegHighZ s i = true)
/-! ## Conversion and readout -/

/-- ROW_SLOT completes the next slot of the plan: the slot leaves the head of the blocks, the count of columns
forced for want of a latch rises by those of the slot, time is at least the end of the slot, and the latches are
kept for the codes of its four rows. In the first slot of a tile-row its HELD nodes become PARTIAL, in the last
its nodes become EMPTY; the nodes of other tile-rows, and those of an optical-black slot, stay as they are.
Without a block left there is no slot. (A command with nothing to act on: log 3.) -/
def Sys2Proof.Say.RowSlotTakesTheNextSlot : Prop :=
  ∀ (s : State) (r g : Option Nat) (caps : List Capture), InTier 2 s →
    (s.img.blocks = [] → exec (.rowSlot r g caps) s = .next s) ∧
    (∀ b rest, s.img.blocks = b :: rest → ∃ t, exec (.rowSlot r g caps) s = .next t ∧
      t.img.blocks = (if b.next + 1 = b.slots then rest else { b with next := b.next + 1 } :: rest) ∧
      s.time.e + b.start + b.slotTime * (b.next + 1) ≤ t.time.tb ∧
      Risen s t 0x050020 (slotForced { reset := r, signal := g, caps := caps }) ∧
      t.regs.act = s.regs.act ∧ (∀ a, flashByte t a = flashByte s a) ∧
      (let c : SlotCap := { reset := r, signal := g, caps := caps }
       let row := 32 * b.row + b.next
       (b.kind = 0 → look t.img.prv.main row = some c) ∧ (b.kind = 1 → look t.img.cur.burst row = some c) ∧
       (b.kind = 2 → look t.cnv.ob row = some c) ∧
       ∀ y x n, b.kind = 0 → y / 4 = row → (mainCtx t).rawCode y x n = cdsCode (mainCtx t).ten (mainCtx t).ped
         (slotLatches c (y % 4) x n).1 (slotLatches c (y % 4) x n).2) ∧
      (∀ i, b.kind = 2 ∨ (b.kind < 2 ∧ i / 128 ≠ b.row) → look t.img.nodes i = look s.img.nodes i) ∧
      (∀ i, b.kind < 2 → i / 128 = b.row →
        look t.img.nodes i = if b.next + 1 = b.slots then none else (look s.img.nodes i).map fun x =>
          if b.next = 0 ∧ x.phase = .held then { x with phase := .part } else x))

/-- The code of a comparator that has switched on both ramps: the decoded signal count less the decoded reset
count and 448, with the pedestal of the depth, PED12 or PED10, within the range of the depth. -/
def Obligations.CodesFollowTheLatches : Prop :=
  ∀ (c : ReadCtx) (y x n r g : Nat) (cap : SlotCap), r < 8192 → g < 8192 → look c.caps (y / 4) = some cap →
    slotLatches cap (y % 4) x n = (some (r ^^^ r / 2), some (g ^^^ g / 2)) →
    let b := if c.ten then 10 else 12
    let ped := field (rget c.set 0x050004) (if c.ten then 16 else 0) b
    c.rawCode y x n = (min (max ((g : Int) - r - 448 + ped) 0) (2 ^ b - 1)).toNat

/-- A comparator that has not switched: a signal counts as the last of its ramp, 4,639 or 1,567, and a reset
gives the top code whatever the signal is. -/
def Sys2Proof.Say.ForcedLatchesGiveTheirCodes : Prop :=
  ∀ (c : ReadCtx) (y x n r : Nat) (cap : SlotCap) (sig : Option Nat), r < 8192 → look c.caps (y / 4) = some cap →
    let b := if c.ten then 10 else 12
    let last : Int := if c.ten then 1567 else 4639
    (slotLatches cap (y % 4) x n = (some (r ^^^ r / 2), none) →
      c.rawCode y x n = (min (max (last - r - 448 + c.ped) 0) (2 ^ b - 1)).toNat) ∧
    (slotLatches cap (y % 4) x n = (none, sig) → c.rawCode y x n = 2 ^ b - 1)

/-- The lines of a tile-row leave: of the main pass on streams 0 and 1, of a burst pass on stream 2. -/
def Sys2Proof.Say.rowLines (s : State) (b : Block) : State :=
  if b.kind = 0 then sendTileRow (sendTileRow s 0 b.row) 1 b.row else sendBurstRow s b.row

/-- A state inside a slot, from which its lines leave: no packet has been queued yet, and the committed
registers and those before them are as they were, and every other one but the counters of the slot. -/
def Sys2Proof.Say.InSlot (s u : State) : Prop :=
  u.nlk = s.nlk ∧ u.regs.prev = s.regs.prev ∧ u.regs.act = s.regs.act ∧ RegsBut [0x050020, 0x0700D4] s u

/-- What a slot sends. The lines of a tile-row leave, through the pipeline, with its last slot, or where the
pass goes on with the adjacent tile-row, whose first rows may be neighbours of its last, with the first slot of
that one (the wait is the model's choice, log 190); on streams 0 and 1 those of the main pass, on stream 2 those
of a burst pass. After the last tile-row of a pass END_OF_FRAME ends its streams (log 54), but stream 0 where an
optical-black pass still sends on it. An optical-black slot sends its four rows where they are wanted, and the
last one ends stream 0; any other slot sends nothing. No record and no response leaves with a slot. -/
def Sys2Proof.Say.RowsLeaveWithTheirLastSlot : Prop :=
  ∀ (s : State) (r g : Option Nat) (caps : List Capture) (b : Block) (rest : List Block), InTier 2 s →
    s.img.blocks = b :: rest →
    (∀ st p, st ≤ 2 → (s.streamFrame st).tail = some p → p.cls = 0 ∧ p.stream = st) →
    ∃ t, exec (.rowSlot r g caps) s = .next t ∧
      t.nlk.meta_ = s.nlk.meta_ ∧ t.nlk.resp = s.nlk.resp ∧
      (∃ l, t.nlk.img = s.nlk.img ++ l ∧ ∀ p ∈ l, p.stream ≤ 2) ∧
      (0 < b.next → (b.kind < 2 ∧ b.next + 1 ≠ b.slots) ∨ (b.kind = 2 ∧ obOut s = false ∧ b.next + 1 ≠ b.slots) →
        t.nlk = s.nlk) ∧
      (b.next = 0 → b.slots ≠ 1 → b.kind < 2 → (∀ w ∈ s.img.wait, w.kind = b.kind → w.row + 1 ≠ b.row) →
        t.nlk = s.nlk) ∧
      (0 < b.next → b.next + 1 = b.slots → b.kind < 2 → (∃ c ∈ rest, c.kind = b.kind) →
        (∀ c ∈ rest, c.kind = b.kind → c.row = b.row + 1 →
          b.kind = 1 ∧ (passRows s.img.cur.plan b.row).contains (b.row + 1) = false) →
        ∃ u, InSlot s u ∧ u.img = t.img ∧ u.cnv = t.cnv ∧ u.stat = t.stat ∧ t = rowLines u b) ∧
      (0 < b.next → b.next + 1 = b.slots → b.kind < 2 → (∃ c ∈ rest, c.kind = b.kind ∧ c.row = b.row + 1) →
        (b.kind = 1 → (passRows s.img.cur.plan b.row).contains (b.row + 1) = true) →
        t.nlk = s.nlk ∧ t.img.wait = s.img.wait ++ [b]) ∧
      (∀ w, b.next = 0 → b.slots ≠ 1 → b.kind < 2 → s.img.wait = [w] → w.kind = b.kind → w.row + 1 = b.row →
        t.img.wait = [] ∧
        ∃ u, InSlot s u ∧ u.img = t.img ∧ u.cnv = t.cnv ∧ u.stat = t.stat ∧ t = rowLines u w) ∧
      (0 < b.next → b.next + 1 = b.slots → b.kind < 2 → (∀ c ∈ rest, c.kind ≠ b.kind) →
        ∃ u, InSlot s u ∧ u.img = t.img ∧ u.cnv = t.cnv ∧ u.stat = t.stat ∧
          (b.kind = 1 → t = closeStream (rowLines u b) 2 s.img.cur.k) ∧
          (b.kind = 0 → t = if s.img.cur.plan.obRun && obOut s then closeStream (rowLines u b) 1 s.img.prv.k
            else closeStream (closeStream (rowLines u b) 1 s.img.prv.k) 0 s.img.prv.k)) ∧
      (0 < b.next → b.next + 1 ≠ b.slots → b.kind = 2 → obOut s = true →
        ∃ u, InSlot s u ∧ u.cnv = t.cnv ∧ u.img.prv = t.img.prv ∧ t.nlk = (sendObRows u b.next).nlk) ∧
      (0 < b.next → b.next + 1 = b.slots → b.kind = 2 →
        ∃ u, InSlot s u ∧ u.cnv = { t.cnv with due := s.cnv.due, passDone := s.cnv.passDone } ∧
          u.img.prv = t.img.prv ∧
          t.nlk = (closeStream (if obOut s then sendObRows u b.next else u) 0 s.img.prv.k).nlk)

/-- READOUT_END closes the readout of a tick without a slot left, once; OFFSET_REFRESH of a complete pass takes
the refresh to the next gain with new entries that wait for the next edge; REFRESH_DUE and REFRESH_NOW ask for a
pass, and change nothing where one is asked for already. (A command with nothing to act on: log 3.) -/
def Sys2Proof.Say.ReadoutEndsAndOffsetsRefresh : Prop :=
  ∀ s : State,
    (InTier 2 s → s.img.blocks = [] → s.img.ended = false → ∃ t, exec .readoutEnd s = .next t ∧
      t.img = { s.img with ended := true } ∧ s.time.e + s.img.cur.plan.endAt ≤ t.time.tb ∧
      t.regs.act = s.regs.act ∧
      t.cnv = s.cnv ∧ (s.aux.frames = [] → s.aux.fifo = [] → t.regs = s.regs ∧ t.aux = s.aux)) ∧
    (InTier 2 s → s.img.blocks ≠ [] ∨ s.img.ended = true → exec .readoutEnd s = .next s) ∧
    (Awake s → s.cnv.passDone = true → ∃ t, exec .offsetRefresh s = .next t ∧ t.cnv.passDone = false ∧
      t.cnv.nextGain = (s.cnv.nextGain + 1) % 4 ∧ t.cnv.fresh.isSome = true ∧ t.cnv.offs = s.cnv.offs ∧
      RegsBut (0x050024 :: 0x050028 :: logRegisters) s t) ∧
    (Awake s → s.cnv.passDone = false → exec .offsetRefresh s = .next s) ∧
    (Ticking s → s.fc 0x050000 1 1 = 1 → 1023 ≤ (s.cur 0x050010).toNat → s.cnv.due = none →
      s.cnv.passDone = false → s.cnv.fresh = none →
      exec .refreshDue s = .next { s with cnv := { s.cnv with due := some 0 } }) ∧
    (Ticking s → s.cnv.due.isSome = true → exec .refreshDue s = .next s) ∧
    (Awake s → ∀ src, exec (.refreshNow src) s
      = .next { s with cnv := { s.cnv with due := if s.cnv.due = none then some 0 else s.cnv.due } })

/-! ## Statistics and exposure control -/

/-- STATS_COMPLETE of the bank of the frame now read, once every tile-row of the plan is ready: the bank is
COMPLETE, STAT_FRAME names its frame, and with AE enabled it waits for a run, the one that waited before being
counted as passed over. A bank that has lost its header is left as it is, and no run waits for it. -/
def Sys2Proof.Say.StatsCompleteHandsTheBankOver : Prop :=
  ∀ s : State, InTier 2 s → s.img.cur.plan.rows ≠ [] → 0 < s.time.k →
    let i := s.img.prv.k % 2
    (s.bank i).state = 0 → (s.bank i).frame = s.img.prv.k % 2 ^ 32 →
    (s.img.cur.plan.rows.all fun j => s.img.prv.ready.contains j) = true →
    ((s.bank i).lost = true → ∃ t, exec .statsComplete s = .next t ∧ t.bank i = s.bank i ∧
      t.cur 0x080020 = s.cur 0x080020 ∧ t.ae = s.ae) ∧
    ((s.bank i).lost = false →
      ∃ t, exec .statsComplete s = .next t ∧ (t.bank i).state % 2 = 1 ∧ (t.bank i).tiles = (s.bank i).tiles ∧
      t.cur 0x080020 = BitVec.ofNat 32 (s.bank i).frame ∧
      (s.fc 0x0A0000 0 1 = 1 → t.ae.waiting = some i ∧
        (s.ae.waiting.isSome = true → Risen s t 0x0A0084 1) ∧
        (s.ae.waiting = none → t.cur 0x0A0084 = s.cur 0x0A0084)) ∧
      (s.fc 0x0A0000 0 1 = 0 → t.ae = s.ae))

/-- AE_RUN takes the complete bank that waits: the run is counted, names its frame, and opens the Shepherd
bracket, so that no committed value changes and every tick-edge write of the run is staged. AE_RUN_END closes
the bracket and lets the run's commands stand. (A command with nothing to act on: log 3.) -/
def Sys2Proof.Say.AeRunWorksInTheShepherdBracket : Prop :=
  ∀ s : State,
    (∀ i, InTier 2 s → s.ae.waiting = some i → s.ae.running = none → s.fc 0x0A0000 0 1 = 1 →
      (s.bank i).state % 2 = 1 → s.regs.stgShp = none → ∃ t, exec .aeRun s = .next t ∧
        t.ae.running = some i ∧ t.ae.waiting = none ∧ t.regs.stgShp.isSome = true ∧ Risen s t 0x0A0080 1 ∧
        t.cur 0x0A0008 = BitVec.ofNat 32 (s.bank i).frame ∧ t.regs.act = s.regs.act ∧
        t.regs.landed = s.regs.landed ∧ t.ae.cmd = s.ae.cmd ∧ t.bank i = s.bank i) ∧
    (∀ i g, Awake s → s.ae.running = some i → s.regs.stgShp = some g → ∃ t, exec .aeRunEnd s = .next t ∧
      t.ae.running = none ∧ t.ae.cmd = s.ae.newCmd.foldl (fun m p => put m p.1 p.2) s.ae.cmd ∧
      t.ae.newCmd = [] ∧ t.regs.stgShp = none ∧
      (∃ x ∈ t.regs.landed, x.tb = t.time.tb) ∧ t.regs.act = s.regs.act) ∧
    (Awake s → s.ae.running = none → exec .aeRunEnd s = .next s)

/-- AE_CTRL_WRITE sets the seven control bits. Clearing AE_EN drops the bank that waits; where a run is under
way, clearing AE_EN or setting AE_FREEZE or WB_FREEZE ends it at once and discards the Shepherd bracket; setting
AE_EN, or clearing AE_FREEZE, drops the commands that stood. -/
def Sys2Proof.Say.AeControlEndsTheRun : Prop :=
  ∀ (s : State) (src : Src) (v : Word), Awake s → ∃ t, exec (.aeCtrlWrite src v) s = .next t ∧
    t.cur 0x0A0000 = v &&& 0x7F ∧ RegsBut [0x0A0000, 0x04C12C, 0x04C130, 0x0A0088] s t ∧
    t.regs.act = s.regs.act ∧ t.stat = s.stat ∧
    (s.fc 0x0A0000 0 1 = 1 → field v 0 1 = 0 → t.ae.waiting = none) ∧
    (∀ g, s.ae.running.isSome = true → s.regs.stgShp = some g →
      (s.fc 0x0A0000 0 1 = 1 ∧ field v 0 1 = 0) ∨ (s.fc 0x0A0000 1 1 = 0 ∧ field v 1 1 = 1)
        ∨ (s.fc 0x0A0000 2 1 = 0 ∧ field v 2 1 = 1) →
      t.ae.running = none ∧ t.regs.stgShp = none ∧ Risen s t 0x04C12C 1 ∧ Risen s t 0x0A0088 1) ∧
    ((s.fc 0x0A0000 0 1 = 0 ∧ field v 0 1 = 1) ∨ (s.fc 0x0A0000 1 1 = 1 ∧ field v 1 1 = 0) →
      t.ae.cmd = [])

/-! ## Pyramids, matching and the Kennel -/

/-- PYRAMID_READY of a tile-row of the array that the main pass has read (with the first row of the next
tile-row where that is read by then: the model's choice, log 190) marks it ready, no sooner than 8 µs after its
last row, and lists its 64 rows of level 0 in the current pyramid; of an auxiliary source it lists the row that
the port received. A row that is ready already, or a source above 2, changes nothing. (A command with nothing to
act on: log 3.) -/
def Sys2Proof.Say.PyramidReadyBuildsItsRows : Prop :=
  ∀ (s : State) (row : Nat), InTier 2 s →
    ((s.img.cur.plan.rows.contains row && (look s.img.prv.main (32 * row + 31)).isSome
        && (!nextInTime s.img.cur.plan (slotCounts s.readSet) row
          || (look s.img.prv.main (32 * (row + 1))).isSome)
        && !s.img.prv.ready.contains row) = true → ∃ t, exec (.pyramidReady 0 row) s = .next t ∧
      t.img.prv.ready = row :: s.img.prv.ready ∧
      s.time.e + s.img.cur.plan.loOf row + 6000 ≤ t.time.tb ∧
      (∀ r, r < 64 → (look (t.curPyr 0).rows (64 * row + r)).isSome = true) ∧
      t.ken = s.ken ∧ RegsBut [0x0700D4, 0x0700D8] s t ∧ Stores s t) ∧
    (s.img.prv.ready.contains row = true → exec (.pyramidReady 0 row) s = .next s) ∧
    (∀ src f l, 1 ≤ src → src ≤ 2 → s.ptr.cut = false → srcFrame s src s.img.prv.k = some f → row < 1536 →
      (s.curPyr src).upTo ≤ row → row < auxTaken s f →
      auxRow f row (field (rget s.regs.prev 0x0C0004) 16 9) = some l → ∃ t,
        exec (.pyramidReady src row) s = .next t ∧ look (t.curPyr src).rows row = some l ∧
        t.regs = s.regs ∧ t.img = s.img ∧ t.ken = s.ken ∧ Stores s t) ∧
    (∀ src, 2 < src → exec (.pyramidReady src row) s = .next s)

/-- SCENT_PROBE takes the first window of the tick's list that is not probed and has its rows ready: it is
probed for 320 bus counts from the end of the window before it on, and each pairing it finds names it, a LOST
subject, and a distance within DIST_MAX. After the cut-off, with the budget spent, or where its 320 counts would
not end by C, nothing is probed. (The order of the windows over the sources, and when the next one begins and
must end: the model's reading, log 100. A command with nothing to act on: log 3.) -/
def Sys2Proof.Say.ScentProbePairsOnlyLostSubjects : Prop :=
  ∀ s : State, InTier 3 s →
    (s.ptr.cut = true ∨ s.fc 0x0D0004 0 16 ≤ s.sct.probed.length ∨
      s.time.e + cutAt s < max s.time.tb s.sct.freeAt + 320 → exec .scentProbe s = .next s) ∧
    (∀ pre w rest, s.ptr.cut = false → s.sct.probed.length < s.fc 0x0D0004 0 16 →
      max s.time.tb s.sct.freeAt + 320 ≤ s.time.e + cutAt s →
      windowList s = pre ++ w :: rest → (∀ x ∈ pre, probedWin s x = true ∨ winReady s x = false) →
      probedWin s w = false → winReady s w = true → ∃ t, exec .scentProbe s = .next t ∧
        t.sct.probed = s.sct.probed ++ [w] ∧ t.sct.freeAt = max s.time.tb s.sct.freeAt + 320 ∧ t.sct.sets = s.sct.sets ∧
        t.ken = s.ken ∧ t.ptr = s.ptr ∧
        RegsBut [0x0D0090, 0x0D0094] s t ∧ Stores s t ∧
        ∃ l, t.sct.pairs = s.sct.pairs ++ l ∧
          ∀ p ∈ l, p.win = w ∧ (s.slot p.slot).state = 4 ∧ p.dist ≤ s.fc 0x0D0000 24 8)

/-- KNOWN_ANSWER_JOB without a wrong answer starts the tick's matching, no sooner than 4 µs after the edge, with
no lane retired and the counter as it was; a lane in service that answers wrong is counted, retired, and
replaced by a spare that is free. It runs once in a tick. (A command with nothing to act on: log 3.) -/
def Sys2Proof.Say.KnownAnswerRetiresTheWrongLane : Prop :=
  ∀ s : State, InTier 3 s →
    (s.ptr.kat = true → ∀ l, exec (.knownAnswerJob l) s = .next s) ∧
    (s.ptr.kat = false → s.sys.tier = 3 → laneHealth s = true → ∃ t,
      exec (.knownAnswerJob []) s = .next t ∧ t.ptr.kat = true ∧ t.ptr.cut = s.ptr.cut ∧
      t.ptr.retired = s.ptr.retired ∧ t.regs = s.regs ∧ t.ken = s.ken ∧ s.time.e + 3000 ≤ t.time.tb ∧
      (s.fa 0x0C0000 8 1 = 0 → t.ptr.shadow = none) ∧ Stores s t) ∧
    (∀ l, s.ptr.kat = false → l < 64 → s.ptr.retired.contains l = false → ∃ t,
      exec (.knownAnswerJob [l]) s = .next t ∧ t.ptr.kat = true ∧ t.ptr.retired = l :: s.ptr.retired ∧
      Risen s t 0x0C0080 1 ∧ Risen s t 0x0C0088 1 ∧ t.regs.act = s.regs.act ∧
      t.ptr.spareFor = if s.ptr.spareFor = none ∧ s.ptr.retired.contains 64 = false then some l
                       else s.ptr.spareFor)

/-- MATCH_JOB_COMPLETE of the job that runs on a lane, no sooner than its 3.2 µs (a feature's 0.8 µs) after its
start: MATCH of the slot names the lane, an accepted measurement gives the slot the frame it tried and a
rejected one leaves its position; no other slot changes, and none is allocated or freed. With no such job, or
one that would end after the cut-off (a re-run: after the replay window), and from the solve point on, nothing
changes. A lane that miscomputes leaves a result that nothing bounds: free values, of which the acceptance is
one (log 8). (A command with nothing to act on: log 3.) -/
def Obligations.MatchJobCommitsItsSlot : Prop :=
  ∀ (s : State) (slot lane : Nat) (wrong : Bool), InTier 3 s →
    (∀ t0, look s.ptr.running lane = some (slot, t0) → t0 + jobCounts (s.slot slot) ≤ s.time.e + lastEnd s →
    beforeSolve s = true → ∃ t,
      exec (.matchJobComplete slot ⟨lane, wrong⟩) s = .next t ∧ t0 + jobCounts (s.slot slot) ≤ t.time.tb ∧
      (t.slot slot).mat.lane = lane ∧ (t.slot slot).state = (s.slot slot).state ∧
      (t.slot slot).gen = (s.slot slot).gen ∧ (t.slot slot).hits = (s.slot slot).hits ∧
      ((look t.ptr.outcome slot = some 1 ∧
          (t.slot slot).frameLast = (s.curPyr (s.slot slot).source).frame % 2 ^ 32) ∨
        (look t.ptr.outcome slot = some 2 ∧ (t.slot slot).x = (s.slot slot).x ∧
          (t.slot slot).y = (s.slot slot).y ∧ (t.slot slot).frameLast = (s.slot slot).frameLast)) ∧
      (wrong = true → let f := Config.freeValue (s.freeCtr + 1)
        (t.slot slot).mat.err = f % 65536 ∧ (t.slot slot).mat.dx = sgn 16 (f / 2 ^ 32) ∧
        (t.slot slot).mat.dy = sgn 16 (f / 2 ^ 48) ∧
        look t.ptr.outcome slot = some (if f / 2 ^ 152 % 2 = 1 then 1 else 2)) ∧
      (∀ j, j ≠ slot → t.slot j = s.slot j) ∧ t.ken.albums = s.ken.albums ∧ RegsBut [0x0C008C] s t ∧
      Stores s t) ∧
    (∀ t0, look s.ptr.running lane = some (slot, t0) → s.time.e + lastEnd s < t0 + jobCounts (s.slot slot) →
      exec (.matchJobComplete slot ⟨lane, wrong⟩) s = .next s) ∧
    (beforeSolve s = false → exec (.matchJobComplete slot ⟨lane, wrong⟩) s = .next s) ∧
    ((∀ t0, look s.ptr.running lane ≠ some (slot, t0)) →
      exec (.matchJobComplete slot ⟨lane, wrong⟩) s = .next s)

/-- MATCH_CUTOFF, once in a tick and no sooner than E + 0.87 T, ends the starting of jobs: with no lane shadowed
every job in flight commits and no lane runs on. REPLAY_WINDOW_END makes every re-run that is not complete a
STALE observation and counts it. From the solve point on neither does anything. (A command with nothing to act
on: log 3.) -/
def Sys2Proof.Say.CutoffEndsMatching : Prop :=
  ∀ s : State, InTier 3 s →
    (∀ a b c, s.ptr.cut = true ∨ beforeSolve s = false → exec (.matchCutoff a b c) s = .next s) ∧
    (∀ a b c, s.ptr.cut = false → beforeSolve s = true → ∃ t, exec (.matchCutoff a b c) s = .next t ∧ t.ptr.cut = true ∧
      s.time.e + cutAt s ≤ t.time.tb ∧ t.regs.act = s.regs.act ∧
      (s.ptr.shadow = none → s.ptr.replay = [] → t.ptr.running = [] ∧
        ∀ q ∈ s.ptr.running, (look t.ptr.outcome q.2.1).isSome = true)) ∧
    (s.ptr.cut = true → s.ptr.booked = false → beforeSolve s = true → ∃ t, exec .replayWindowEnd s = .next t ∧
      t.ptr.running = [] ∧ t.ptr.replay = [] ∧ s.time.e + replayEnd s ≤ t.time.tb ∧
      Risen s t 0x0C0090 (s.ptr.running.length + s.ptr.replay.length) ∧ RegsBut (0x0C0090 :: logRegisters) s t ∧
      (s.ptr.running = [] → s.ptr.replay = [] → t.log = s.log) ∧
      (∀ q ∈ s.ptr.running, look t.ptr.outcome q.2.1 = some 3) ∧
      (∀ e ∈ s.ptr.replay, look t.ptr.outcome e.slot = some 3) ∧ t.ken = s.ken ∧ t.regs.act = s.regs.act) ∧
    (s.ptr.cut = false ∨ s.ptr.booked = true ∨ beforeSolve s = false → exec .replayWindowEnd s = .next s)

/-- BOOKKEEPING ends the replay window, gives every track an outcome and moves it on once: an accepted TRACKED
or COASTING track is TRACKED with one hit more and no miss, and a rejected one whose misses reach LOST_MISS is
LOST. From the solve point on no track moves. (A command with nothing to act on: log 3.) -/
def Sys2Proof.Say.BookkeepingMovesEveryTrack : Prop :=
  ∀ s : State, InTier 3 s → s.ptr.cut = true →
    (s.ptr.booked = true ∨ beforeSolve s = false → exec .bookkeeping s = .next s) ∧
    (s.ptr.booked = false → beforeSolve s = true → ∃ t, exec .bookkeeping s = .next t ∧
      t.ptr.booked = true ∧ t.ken.broken = [] ∧
      (∀ p ∈ liveTracks s, (look t.ptr.outcome p.1).isSome = true) ∧
      t.ptr.running = [] ∧ t.ptr.replay = [] ∧ s.time.e + replayEnd s ≤ t.time.tb ∧ t.regs.act = s.regs.act ∧
      (s.ptr.running = [] → s.ptr.replay = [] → Stores s t) ∧
      (∀ i T, SMap.wf (fun _ => Track.free 0) s.ken.slots = true → look s.ken.slots i = some T →
        T.state = 2 ∨ T.state = 3 → i ∉ s.ken.broken → i ∉ s.ptr.badJournal →
        (∀ q ∈ s.ptr.running, q.2.1 ≠ i) → (∀ x ∈ s.ptr.replay, x.slot ≠ i) →
        (look s.ptr.outcome i = some 1 → (t.slot i).state = 2 ∧ (t.slot i).hits = min 15 (T.hits + 1) ∧
          (t.slot i).miss = 0 ∧ (t.slot i).age = 0 ∧ (t.slot i).stale = false) ∧
        (look s.ptr.outcome i = some 2 → (lifeOf s T.subj).2.2.1 ≤ min 15 (T.miss + 1) →
          (t.slot i).state = 4 ∧ (t.slot i).hits = T.hits)))

/-- SOLVE_POINT, once in a tick and no sooner than E + 0.9 T: the Collar is closed; in T3 the Kennel is stable,
and below it the tracks and axes are as they were. (A command with nothing to act on: log 3.) -/
def Sys2Proof.Say.SolvePointClosesTheCollar : Prop :=
  ∀ s : State, InTier 2 s →
    (s.ptr.solved = true → exec .solvePoint s = .next s) ∧
    (s.ptr.solved = false → ∃ t, exec .solvePoint s = .next t ∧ t.ptr.solved = true ∧
      s.time.e + s.time.t * 9 / 10 ≤ t.time.tb ∧ t.img.prv.collar = false ∧ t.regs.act = s.regs.act ∧
      (s.sys.tier = 3 → t.ken.stable = true ∧ t.ken.slots = s.ken.slots) ∧
      (s.sys.tier = 2 → t.ken = s.ken ∧ t.heel = s.heel))

/-- A host command of the Kennel joins the queue of the next edge with the handle, groups and value of its
source, and changes no track now; beyond 256 it is refused and counted. -/
def Obligations.KennelCommandsWaitForTheEdge : Prop :=
  ∀ (s : State) (src : Src), Awake s →
    (s.ken.cmds.length < 256 →
      exec (.kenCmdKill src) s = .next { s with ken := { s.ken with
        cmds := s.ken.cmds ++ [.opKill (kenCopy s src 0x0B0040)] } } ∧
      exec (.kenCmdSetGroups src) s = .next { s with ken := { s.ken with
        cmds := s.ken.cmds ++ [.setGroups (kenCopy s src 0x0B0040)
          (kenCopy s src 0x0B0044 + kenCopy s src 0x0B0048 * 2 ^ 32)] } } ∧
      (∀ v, exec (.kenCmdSetPersist src v) s = .next { s with ken := { s.ken with
        cmds := s.ken.cmds ++ [.setPersist (kenCopy s src 0x0B0040) v] } }) ∧
      (∀ n, n < 256 → exec (.kenCueGo src n) s = .next { s with ken := { s.ken with
        cmds := s.ken.cmds ++ [.cueGo n] } })) ∧
    (256 ≤ s.ken.cmds.length →
      (∃ t, exec (.kenCmdKill src) s = .next t ∧ CountsOnly s t 0x0B0088 1) ∧
      (∃ t, exec (.kenCmdSetGroups src) s = .next t ∧ CountsOnly s t 0x0B0088 1) ∧
      (∀ v, ∃ t, exec (.kenCmdSetPersist src v) s = .next t ∧ CountsOnly s t 0x0B0088 1) ∧
      (∀ n, ∃ t, exec (.kenCueGo src n) s = .next t ∧ CountsOnly s t 0x0B0088 1))

/-! ## Heel and Leash -/

/-- HEEL_PORT_PARK of a HOLDING port that is due to park: it is PARKED with its outputs as they were, is
counted, and is logged. OVERRIDE_TTL_EXPIRY of an override without a solve left ends it. A port in any other
state stays as it is, and so does every other port. (A command with nothing to act on: log 3.) -/
def Sys2Proof.Say.PortsParkAndOverridesEnd : Prop :=
  ∀ (s : State) (n : Nat),
    (InTier 3 s → (s.hp n).state = .holding → (s.hp n).parkDue = true → ∃ t,
      exec (.heelPortPark n) s = .next t ∧ (t.hp n).state = .parked ∧ (t.hp n).hold = 0 ∧
      (t.hp n).parkDue = false ∧ (t.hp n).outs = (s.hp n).outs ∧ (t.hp n).ovr = (s.hp n).ovr ∧
      (∀ m, m ≠ n → t.hp m = s.hp m) ∧ Risen s t 0x0E848C 1 ∧ RegsBut (0x0E848C :: logRegisters) s t ∧
      (n < 128 → LogsOne s t 0x1C01 0 (0x0E8800 + 4 * n) (portStatus t n) n) ∧ t.lsh = s.lsh ∧ t.ken = s.ken) ∧
    (InTier 3 s → (s.hp n).state ≠ .holding ∨ (s.hp n).parkDue = false →
      exec (.heelPortPark n) s = .next s) ∧
    (∀ o, Awake s → (s.hp n).ovr = some o → o.left = some 0 → ∃ t,
      exec (.overrideTtlExpiry n) s = .next t ∧ t.hp n = { s.hp n with ovr := none } ∧
      (∀ m, m ≠ n → t.hp m = s.hp m) ∧ t = { s with heel := t.heel }) ∧
    (Awake s → (∀ o, (s.hp n).ovr = some o → o.left ≠ some 0) → exec (.overrideTtlExpiry n) s = .next s)

/-- HEEL_DEADLINE, once in a tick and no sooner than E + 0.94 T: the port buffers are final, no port's solution
changes, and a tick with a held port is counted. (A command with nothing to act on: log 3.) -/
def Sys2Proof.Say.DeadlineMakesTheBuffersFinal : Prop :=
  ∀ s : State, InTier 3 s →
    (s.heel.done = true → exec .heelDeadline s = .next s) ∧
    (s.heel.done = false → ∃ t, exec .heelDeadline s = .next t ∧ t.heel.done = true ∧
      t.heel.ports = s.heel.ports ∧ t.heel.held = heldPorts s ∧ s.time.e + s.time.t * 94 / 100 ≤ t.time.tb ∧
      (heldPorts s ≠ [] → Risen s t 0x0E8494 1) ∧ (heldPorts s = [] → t.cur 0x0E8494 = s.cur 0x0E8494) ∧
      (∀ n, n < 128 → t.cur (0x0E8800 + 4 * n) = BitVec.ofNat 32 (portStatus t n)) ∧
      t.lsh = s.lsh ∧ t.ken = s.ken ∧ t.regs.act = s.regs.act)

/-- LEASH_LATCH of a port in LEASH mode sends one frame in the tick: the KIND, the port and the SEQ in front and
a CRC that holds over the rest behind, and the next frame has the next SEQ. Below T3 and for a port that is OFF
or PARKED the frame is PARK. A second latch in the tick sends nothing. LPn_TX is high-impedance for a port that
is OFF and outside a run, else high, or sending what the latch put on the line. (A command with nothing to act
on: log 3.) -/
def Sys2Proof.Say.LatchSendsOneFrame : Prop :=
  ∀ (s : State) (n : Nat), Ticking s → n < 128 →
    ((s.lp n).latchTick ≠ some s.time.k → lshMode s n = 2 → (s.lp n).cfg = s.act (lshReg n 0) →
      clkLow s n = false → ∃ t, exec (.leashLatch n) s = .next t ∧
      (t.lp n).latchTick = some s.time.k ∧ (t.lp n).latch = some (latchAt s n) ∧ latchAt s n ≤ t.time.tb ∧
      (s.time.src = .bus → t.time.tb = max s.time.tb (latchAt s n)) ∧ (t.lp n).busy = t.time.tb
        + frameTime s (t.lp n).line.length (lshRate (s.lp n).cfg) ∧
      (t.lp n).seq = ((s.lp n).seq + 1) % 256 ∧
      (t.lp n).line.take 3
        = le 1 (if (t.lp n).kind = 3 then 0x52 else 0x51) ++ le 1 n ++ le 1 (s.lp n).seq ∧
      crc16 ((t.lp n).line.take ((t.lp n).line.length - 2)) = leAt (t.lp n).line ((t.lp n).line.length - 2) 2 ∧
      (s.sys.tier < 3 ∨ (s.hp n).state = .off ∨ (s.hp n).state = .parked → (t.lp n).kind = 3) ∧
      (∀ m, m ≠ n → t.lp m = s.lp m) ∧ RegsBut [lshReg n 0x28] s t ∧ t.ken = s.ken ∧ Stores s t) ∧
    ((s.lp n).latchTick = some s.time.k → exec (.leashLatch n) s = .next s) ∧
    (modeIn (s.lp n).cfg = 0 → lpTx s n = .highZ) ∧
    (modeIn (s.lp n).cfg ≠ 0 → lpTx s n = if clkLow s n then .high
      else if s.time.tb < (s.lp n).busy then .sending (s.lp n).line else .high) ∧
    (∀ r : State, r.sys.phase ≠ .run → lpTx r n = .highZ)

/-- The slots of a packet: each channel whose SLOT lies from 1 to N fills WIDTH slots from it upward, most
significant byte first, none beyond N; of the channels that share a slot the last one stands, and DMX_OVERLAP is
set; a slot that no channel fills is 0. -/
def Obligations.ChannelsFillTheirSlots : Prop :=
  ∀ (s : State) (n : Nat) (vals : List Nat),
    let slots := (dmxPacket s n vals).1.drop 1
    let nSlots := dmxSlots (s.lp n).cfg
    let first := fun c => field (s.act (lshReg n (0xC0 + 4 * c))) 0 10
    let width := fun c => orIf (field (s.act (lshReg n (0xC0 + 4 * c))) 10 2) 1
    let covers := fun c i => c < vals.length ∧ 1 ≤ first c ∧ first c ≤ i ∧ i < first c + width c ∧ i ≤ nSlots
    slots.length = nSlots ∧
    (∀ c i v, vals[c]? = some v → covers c i → (∀ d, c < d → ¬ covers d i) →
      slots[i - 1]? = some (BitVec.ofNat 8 (v / 2 ^ (8 * (2 - (i - first c)))))) ∧
    (∀ i, 1 ≤ i → i ≤ nSlots → (∀ d, ¬ covers d i) → slots[i - 1]? = some 0) ∧
    ((dmxPacket s n vals).2 = true ↔ ∃ c d i, c < d ∧ covers c i ∧ covers d i)

/-- DMX_REFRESH: the latch of a refresh tick of a DMX512-A port sends one packet, a break and mark of 188 µs and
44 µs for the start code 0 and each of its N slots. A slot holds its byte of the last channel that covers it,
most significant byte first, and 0 where none does; the channels are 0 to NCH − 1 (the model's reading, log
120). A held content sends the slots sent last, cut to N, and those beyond them as the last outputs fill them
(the model's choice, log 180; a grown NCH with the static values: log 120). A packet less than 8 µs before it
sends nothing and counts a skip; in any other tick nothing is sent. -/
def Sys2Proof.Say.DmxLatchSendsOnePacket : Prop :=
  ∀ (s : State) (n : Nat), Ticking s → n < 128 → (s.lp n).latchTick ≠ some s.time.k → lshMode s n = 1 →
    (s.lp n).cfg = s.act (lshReg n 0) →
    let at_ := (reachCycle s (latchAt s n)).time.tb
    let nSlots := dmxSlots (s.lp n).cfg
    let vals := (contentVals s n (nchOf (s.lp n).cfg) (contentOf s n)).1
    (refreshTick s n = true → clkLow s n = false → (s.lp n).busy + 6000 ≤ at_ →
      ∃ t, exec (.leashLatch n) s = .next t ∧ (t.lp n).latchTick = some s.time.k ∧
        (t.lp n).latch = some (latchAt s n) ∧ (t.lp n).refresh = some s.time.k ∧ at_ = t.time.tb ∧
        (s.clk.busSrc ≠ 1 → (t.lp n).busy = at_ + 750 * (188 + 44 * (nSlots + 1))) ∧
        (t.lp n).line = le 1 0 ++ (t.lp n).slots ∧
        (contentOf s n ≠ .held → (t.lp n).line = (dmxPacket s n vals).1 ∧
          (t.lp n).overlap = (dmxPacket s n vals).2) ∧
        (contentOf s n = .held → (t.lp n).line = le 1 0 ++ (s.lp n).slots.take nSlots ++
          (dmxPacket s n vals).1.drop (1 + (s.lp n).slots.length)) ∧
        (∀ m, m ≠ n → t.lp m = s.lp m) ∧ RegsBut [lshReg n 0x28] s t ∧ t.ken = s.ken ∧ Stores s t) ∧
    (refreshTick s n = true → clkLow s n = false → at_ < (s.lp n).busy + 6000 →
      ∃ t, exec (.leashLatch n) s = .next t ∧ Risen s t (lshReg n 0x3C) 1 ∧
        (t.lp n).refresh = (s.lp n).refresh ∧ (t.lp n).line = (s.lp n).line ∧ (t.lp n).busy = (s.lp n).busy) ∧
    (refreshTick s n = false → ∃ t, exec (.leashLatch n) s = .next t ∧ (∀ m, t.lp m = s.lp m) ∧
      t = { s with lsh := t.lsh })

/-- PARTNER_LOST of a port that has missed LOSS_TICKS acknowledgements, the last of them since the last
acknowledgement: LOST is set, an entry is logged and the LOST Bark is pending. A port that is lost, or has
missed fewer, stays as it is. (A command with nothing to act on: log 3.) -/
def Sys2Proof.Say.PartnerIsLostAfterLossTicks : Prop :=
  ∀ (s : State) (n : Nat), Awake s → n < 128 →
    ((s.lp n).lost = false → (s.lp n).missNew = true → lossTicks s n ≤ (s.lp n).missed → ∃ t,
      exec (.partnerLost n) s = .next t ∧ t.lp n = { s.lp n with lost := true } ∧
      (∀ m, m ≠ n → t.lp m = s.lp m) ∧ t.fc 0x120010 3 1 = 1 ∧ RegsBut logRegisters s t ∧ t.heel = s.heel ∧
      LogsOne s t 0x2001 1 (lshReg n 8) (lshStatus t n) n) ∧
    ((s.lp n).lost = true ∨ (s.lp n).missNew = false ∨ (s.lp n).missed < lossTicks s n →
      exec (.partnerLost n) s = .next s)

/-- LEASH_ACK: a frame with bad framing or CRC, and one with a bad field or an unknown SEQ, is counted and does
nothing else; the first valid one for a frame sent ends the partner's loss, which is logged, and the count of
frames without one (but where its frame has been counted already: the model's reading, log 123), shows its
status, releases cues and gives the Heel its feedback. On a port without acknowledgements it does nothing. (A
command with nothing to act on: log 3.) -/
def Sys2Proof.Say.AckReleasesAndFeedsBack : Prop :=
  ∀ (s : State) (n : Nat) (bs : List Byte), Awake s → n < 128 →
    (modeIn (s.lp n).cfg ≠ 2 ∨ ackEn (s.lp n).cfg = false → ∀ ok, exec (.leashAck n bs ok) s = .next s) ∧
    (modeIn (s.lp n).cfg = 2 → ackEn (s.lp n).cfg = true →
      (∃ t, exec (.leashAck n bs false) s = .next t ∧ CountsOnly s t (lshReg n 0x20) 1) ∧
      (bs.length < 2 ∨ crc16 (bs.take (bs.length - 2)) ≠ leAt bs (bs.length - 2) 2 →
        ∃ t, exec (.leashAck n bs true) s = .next t ∧ CountsOnly s t (lshReg n 0x20) 1) ∧
      (2 ≤ bs.length → crc16 (bs.take (bs.length - 2)) = leAt bs (bs.length - 2) 2 →
        (leAt bs 0 1 ≠ 0x61 ∨ leAt bs 1 1 ≠ n ∨ 32 ≤ leAt bs 6 1
            ∨ bs.length ≠ 10 + 3 * maskCount (leAt bs 6 1) →
          ∃ t, exec (.leashAck n bs true) s = .next t ∧ CountsOnly s t (lshReg n 0x24) 1) ∧
        (leAt bs 0 1 = 0x61 → leAt bs 1 1 = n → leAt bs 6 1 < 32 →
          bs.length = 10 + 3 * maskCount (leAt bs 6 1) →
          (s.lp n).sent.find? (fun f => decide (f.seq = leAt bs 2 1)) = none →
          ∃ t, exec (.leashAck n bs true) s = .next t ∧ CountsOnly s t (lshReg n 0x24) 1) ∧
        (∀ f, leAt bs 0 1 = 0x61 → leAt bs 1 1 = n → leAt bs 6 1 < 32 →
          bs.length = 10 + 3 * maskCount (leAt bs 6 1) →
          (s.lp n).sent.find? (fun f => decide (f.seq = leAt bs 2 1)) = some f → f.acked = false →
          ∃ t, exec (.leashAck n bs true) s = .next t ∧ (t.lp n).missed = (if f.met then (s.lp n).missed else 0) ∧
            (t.lp n).missNew = false ∧ (t.lp n).lost = false ∧
            ((s.lp n).lost = true → LogsOne s t 0x2001 0 (lshReg n 8) (lshStatus t n) n) ∧
            ((s.lp n).lost = false → t.log = s.log) ∧
            t.cur (lshReg n 0x1C) = BitVec.ofNat 32 (leAt bs 2 1 * 256 + leAt bs 3 1) ∧
            (∀ c, c ∈ (t.lp n).cues → c ∈ (s.lp n).cues) ∧
            (leAt bs 4 2 = 0 → (t.lp n).cues = (s.lp n).cues) ∧
            (leAt bs 6 1 ≠ 0 → (t.hp n).newest = feedbackOf (leAt bs 6 1) bs) ∧
            (t.hp n).state = (s.hp n).state ∧ (t.hp n).outs = (s.hp n).outs ∧
            (∀ m, m ≠ n → t.lp m = s.lp m ∧ t.hp m = s.hp m) ∧
            RegsBut (lshReg n 0x18 :: lshReg n 0x1C :: lshReg n 0x2C :: logRegisters) s t)))

/-- A write of LSH_CUE_OP queues a cue with the next CSEQ, which runs from 1 to 65,535 and over; it is refused
and counted where the port is not in LEASH mode, its group is disabled, it carries no cues, or it holds 64. An
OP of 0 does nothing, and each source has its own LSH_CUE_ARG. A cue expires CUE_TTL ticks after its first
transmission, and is counted and logged; without acknowledgements it leaves after CUE_SENDS + 1 frames. (A
command with nothing to act on: log 3.) -/
def Obligations.CuesQueueAndLeave : Prop :=
  ∀ (s : State) (n : Nat), Awake s → n < 128 →
    (∀ src op, 1 ≤ op → op < 256 → lshMode s n = 2 → s.fa (lshReg n 0) 9 3 ≠ 0 → (s.lp n).cues.length < 64 →
      ∃ t, exec (.lshCueOp src n op) s = .next t ∧ t = { s with lsh := t.lsh } ∧
        (t.lp n).cues = (s.lp n).cues ++
          [{ cseq := (s.lp n).nextCseq, op := op, arg := BitVec.ofNat 32 (kenCopy s src (lshReg n 0x10)),
             tb := s.time.tb, first := none, sends := 0 }] ∧
        (t.lp n).nextCseq = (s.lp n).nextCseq % 65535 + 1 ∧ ∀ m, m ≠ n → t.lp m = s.lp m) ∧
    (∀ src op, 1 ≤ op → op < 256 →
      lshMode s n ≠ 2 ∨ s.fa (lshReg n 0) 9 3 = 0 ∨ 64 ≤ (s.lp n).cues.length →
      ∃ t, exec (.lshCueOp src n op) s = .next t ∧ CountsOnly s t (lshReg n 0x30) 1) ∧
    (∀ src, exec (.lshCueOp src n 0) s = .next s) ∧
    (∀ src v, ∃ t, exec (.registerWrite src (lshReg n 0x10) v) s = .next t ∧
      kenCopy t src (lshReg n 0x10) = v.toNat ∧
      ∀ d, d ≠ src → kenCopy t d (lshReg n 0x10) = kenCopy s d (lshReg n 0x10)) ∧
    (∀ c q k, (s.lp n).cues.find? (fun c => decide (c.cseq = q)) = some c → s.fc 0x108000 0 16 ≠ 0 →
      c.first = some k → k + s.fc 0x108000 0 16 ≤ s.time.k → ∃ t, exec (.cueExpired n q) s = .next t ∧
        t.lp n = { s.lp n with cues := (s.lp n).cues.filter (fun c => decide (c.cseq ≠ q)) } ∧
        (∀ m, m ≠ n → t.lp m = s.lp m) ∧ Risen s t (lshReg n 0x34) 1 ∧
        LogsOne s t 0x2006 1 (lshReg n 0x34) (n * 65536 + q) c.op ∧
        RegsBut (lshReg n 0x34 :: logRegisters) s t) ∧
    (∀ q, s.fc 0x108000 0 16 = 0 → exec (.cueExpired n q) s = .next s) ∧
    (∀ q, ackEn (s.lp n).cfg = false → ∃ t, exec (.cueSendsDone n q) s = .next t ∧
      t.lp n = { s.lp n with cues := (s.lp n).cues.filter (fun c =>
        decide (c.cseq ≠ q ∨ c.sends ≤ field (s.lp n).cfg 13 3)) } ∧
      (∀ m, m ≠ n → t.lp m = s.lp m) ∧ t = { s with lsh := t.lsh }) ∧
    (∀ q, ackEn (s.lp n).cfg = true → exec (.cueSendsDone n q) s = .next s)

/-! ## Auxiliary inputs -/

/-- AUX_PORT_ENABLE of a port that is off applies its lane settings: with four distinct lanes the receiver
works, and otherwise MAP_ERR shows (all four are checked whatever LANES says: the model's reading, log 78); of a
port that is on it writes the word. STOP and HS_ACTIVE show the lanes of a receiver that works, and 0 of another
(log 79). AUX_PORT_DISABLE closes every open frame of the port. AUX_DESKEW shows the calibration. -/
def Sys2Proof.Say.AuxPortsStartAndStop : Prop :=
  ∀ (s : State) (src : Src) (p : Nat) (v : Word), Awake s → p < 2 →
    (∀ stop hs, ∃ t, exec (.auxPortEnable src ⟨p, stop, hs⟩ v) s = .next t ∧
      t.cur (auxReg p 0) = (v ||| 1) &&& 0x0FFFFFFF ∧
      RegsBut [auxReg p 0, auxReg p 8] s t ∧ Stores s t ∧
      t = { s with aux := { s.aux with on := t.aux.on, lanes := t.aux.lanes },
                   regs := { s.regs with cur := t.regs.cur } } ∧
      field (readWord t src (auxReg p 8)) 0 2 = (if auxOn t p then 2 * bit stop + bit hs else 0) ∧
      (s.fc (auxReg p 0) 0 1 = 1 → t.aux.on = s.aux.on) ∧
      (s.fc (auxReg p 0) 0 1 = 0 →
        (∀ i j, i < j → j < 4 → field v (8 + 2 * i) 2 ≠ field v (8 + 2 * j) 2) →
        t.aux.on = s.aux.on ++ [p] ∧ t.fc (auxReg p 8) 4 1 = 0) ∧
      (∀ i j, s.fc (auxReg p 0) 0 1 = 0 → i < j → j < 4 → field v (8 + 2 * i) 2 = field v (8 + 2 * j) 2 →
        t.aux.on = s.aux.on ∧ t.fc (auxReg p 8) 4 1 = 1)) ∧
    (∃ t, exec (.auxPortDisable src p v) s = .next t ∧ t.cur (auxReg p 0) = v &&& 0x0FFFFFFE ∧
      t.aux.on = s.aux.on.filter (· ≠ p) ∧ (∀ c, c < 4 → openFrame t (4 * p + c) = none) ∧
      t.regs.act = s.regs.act ∧ t.ken = s.ken) ∧
    (∀ h, auxOn s p = true → let s1 := hear s p { h with corrected := false }
      ∃ t, exec (.auxDeskew ⟨p, h⟩) s = .next t ∧ t.fc (auxReg p 8) 2 2 = 1 ∧
      RegsBut [auxReg p 8] s1 t ∧ t = { s1 with regs := { s1.regs with cur := t.regs.cur } }) ∧
    (∀ h, auxOn s p = false → exec (.auxDeskew ⟨p, h⟩) s = .next (hear s p { h with corrected := false }))

/-- AUX_FS of a channel that the port accepts opens a frame with its number, instant, tick and settings ID, and
is counted; a frame still open is closed first, and counted. AUX_FE closes the open frame; without one it is
counted. A channel above 3 is counted, and a channel that the port does not accept changes nothing. (`s1` is the
state after what comes with every transmission: the slicer's work until then, a corrected header that is
counted, and the state of the lanes; log 76, log 79.) -/
def Sys2Proof.Say.AuxFramesOpenAndClose : Prop :=
  ∀ (s : State) (p vc num : Nat) (h : PktPhy), PortOn s p → let s1 := hear s p h
    (4 ≤ vc → (∃ t, exec (.auxFs ⟨p, h⟩ vc num) s = .next t ∧ CountsOnly s1 t (auxReg p 0x4C) 1) ∧
      (∃ t, exec (.auxFe ⟨p, h⟩ vc num) s = .next t ∧ CountsOnly s1 t (auxReg p 0x4C) 1)) ∧
    (vc < 4 → vcOn s (4 * p + vc) = false →
      exec (.auxFs ⟨p, h⟩ vc num) s = .next s1 ∧ exec (.auxFe ⟨p, h⟩ vc num) s = .next s1) ∧
    (vc < 4 → vcOn s (4 * p + vc) = true →
      (∃ t f, exec (.auxFs ⟨p, h⟩ vc num) s = .next t ∧ openFrame t (4 * p + vc) = some f ∧ f.num = num ∧
        f.fs = s.time.tb ∧ f.frame = s.time.k ∧ f.id = s.regs.settingsId ∧ f.next = 0 ∧
        Risen s1 t (pairReg (4 * p + vc) 0x88) 1 ∧
        ((openFrame s1 (4 * p + vc)).isSome = true → Risen s1 t (auxReg p 0x48) 1) ∧
        (openFrame s1 (4 * p + vc) = none → t.cur (auxReg p 0x48) = s1.cur (auxReg p 0x48) ∧
          t.auxFrames (4 * p + vc) = s1.auxFrames (4 * p + vc) ++ [f])) ∧
      ((openFrame s1 (4 * p + vc)).isSome = true → ∃ t, exec (.auxFe ⟨p, h⟩ vc num) s = .next t ∧
        openFrame t (4 * p + vc) = none ∧ t.cur (auxReg p 0x48) = s1.cur (auxReg p 0x48) ∧
        (t.auxFrames (4 * p + vc)).length = (s1.auxFrames (4 * p + vc)).length) ∧
      (openFrame s1 (4 * p + vc) = none → ∃ t, exec (.auxFe ⟨p, h⟩ vc num) s = .next t ∧
        CountsOnly s1 t (auxReg p 0x48) 1))

/-- AUX_LONG_PACKET, after the slicer has taken its bytes: of an unsupported channel or data type it is counted,
and so is one outside a frame; a line of the open frame takes the next index, waits in the port's FIFO with the
room of its size, and is counted where its CRC fails. -/
def Sys2Proof.Say.AuxLinesEnterTheFifo : Prop :=
  ∀ (s : State) (p : Nat) (k : LongPkt), PortOn s p →
    let s1 := hear s p k.phy
    (4 ≤ k.vc → ∃ t, exec (.auxLongPacket p k) s = .next t ∧ CountsOnly s1 t (auxReg p 0x4C) 1) ∧
    (k.vc < 4 → vcOn s (4 * p + k.vc) = true → k.dt ≠ 0x10 → k.dt ≠ 0x11 →
      (auxGroup k.dt = none → ∃ t, exec (.auxLongPacket p k) s = .next t ∧
        CountsOnly s1 t (auxReg p 0x4C) 1) ∧
      ((auxGroup k.dt).isSome = true → openFrame s1 (4 * p + k.vc) = none → ∃ t,
        exec (.auxLongPacket p k) s = .next t ∧ CountsOnly s1 t (auxReg p 0x48) 1) ∧
      (∀ f, (auxGroup k.dt).isSome = true → openFrame s1 (4 * p + k.vc) = some f → f.next < 8192 →
        f.dt.getD k.dt = k.dt → bindingOf s (4 * p + k.vc) = none → k.wc ≤ 16384 → k.bytes.length = k.wc →
        fifoUsed s1 p + k.wc ≤ 65536 → ∃ t f' x, exec (.auxLongPacket p k) s = .next t ∧
          openFrame t (4 * p + k.vc) = some f' ∧ f'.next = f.next + 1 ∧ f'.received = f.received + 1 ∧
          f'.dropped = f.dropped ∧ t.aux.fifo = s1.aux.fifo ++ [x] ∧ x.pair = 4 * p + k.vc ∧ x.uid = f.uid ∧
          x.left = k.wc ∧ x.line.idx = f.next ∧ x.line.dt = k.dt ∧
          (k.crcOk = true → t.cur (pairReg (4 * p + k.vc) 0x80) = s1.cur (pairReg (4 * p + k.vc) 0x80)) ∧
          (k.crcOk = false → Risen s1 t (pairReg (4 * p + k.vc) 0x80) 1 ∧ f'.damaged = true)))

/-- With a transmission a corrected header is counted and the state of the lanes shows in AUX_STATUS. A generic
short packet on a channel that the port accepts, or above 3, is counted and does nothing else; an uncorrectable
header is counted and leaves every open frame of its port, and no other, DAMAGED. At an edge a binding that
still names its pair has gone one tick longer without a frame start on it; at its TIMEOUT, and in every later
tick until a frame start, the tick is one of MISSING, whatever TIMEOUT has become. Such a tick is counted once;
the binding is MISSING while it still names its pair, until a frame start that may have come since the edge, and
the beginning is logged (with WARNING and ARG1 1: the model's reading, log 80). (A command with nothing to act
on: log 3.) -/
def Sys2Proof.Say.AuxFaultsAreCounted : Prop :=
  ∀ s : State,
    (∀ p h, PortOn s p → (∀ src, field (readWord (hear s p h) src (auxReg p 8)) 0 2 = 2 * bit h.stop + bit h.hs) ∧
      (h.corrected = true → Risen (serve s h.served) (hear s p h) (auxReg p 0x40) 1)) ∧
    (∀ p vc h, PortOn s p → 4 ≤ vc ∨ vcOn s (4 * p + vc) = true → ∃ t,
      exec (.genericShortPacket ⟨p, vc, h⟩) s = .next t ∧ CountsOnly (hear s p h) t (auxReg p 0x4C) 1) ∧
    (∀ p vc h, PortOn s p → vc < 4 → vcOn s (4 * p + vc) = false →
      exec (.genericShortPacket ⟨p, vc, h⟩) s = .next (hear s p h)) ∧
    (∀ p h, PortOn s p → let s1 := hear s p { h with corrected := false }
      ∃ t, exec (.uncorrectableHeader ⟨p, h⟩) s = .next t ∧ Risen s1 t (auxReg p 0x44) 1 ∧
      RegsBut [auxReg p 0x44] s1 t ∧
      (∀ c, c < 4 → ∀ f, openFrame t (4 * p + c) = some f → f.damaged = true) ∧
      (∀ q, q / 4 ≠ p → t.auxFrames q = s1.auxFrames q) ∧ Stores s1 t) ∧
    (∀ p vc h, s.sys.tier < 2 → exec (.genericShortPacket ⟨p, vc, h⟩) s = .next s ∧
      exec (.uncorrectableHeader ⟨p, h⟩) s = .next s) ∧
    (∀ b pair, b < 2 → boundPair s b = some pair → boundIn s.regs.prev b = some pair →
      let started := (s.auxFrames pair).any (fun x => decide (x.frame = s.time.k))
      let u := auxEdge s
      mget 0 u.aux.quiet b = (if started then 0 else mget 0 s.aux.quiet b + 1) ∧
      u.aux.missDue.contains b = (!started && (decide (bindTimeout s b ≤ mget 0 s.aux.quiet b + 1)
        || s.aux.missing.contains b))) ∧
    (∀ b, InTier 2 s → b < 2 →
      (s.aux.missDue.contains b = false → exec (.auxMissing b) s = .next s) ∧
      (s.aux.missDue.contains b = true → ∃ t, exec (.auxMissing b) s = .next t ∧
        Risen s t (0x090808 + 0x10 * b) 1 ∧
        t.aux.missPrv = s.aux.missPrv ++ [b] ∧ t.aux.missDue.contains b = false ∧ t.aux.frames = s.aux.frames ∧
        (boundIn s.regs.prev b = boundPair s b → s.aux.missing.contains b = false → startedNow s b = false →
          t.aux.missing.contains b = true ∧ LogsOne s t 0x1201 1 (0x090800 + 0x10 * b) 1 0) ∧
        (boundIn s.regs.prev b = boundPair s b → s.aux.missing.contains b = false → startedNow s b = true →
          t.aux.missing.contains b = false) ∧
        (s.aux.missing.contains b = true → t.aux.missing = s.aux.missing) ∧
        (boundIn s.regs.prev b ≠ boundPair s b ∨ s.aux.missing.contains b = true → t.log = s.log) ∧
        RegsBut ((0x090808 + 0x10 * b) :: logRegisters) s t))


/-! ## Neleklink requests -/

/-- The packet is taken: the next SEQ is expected on its link, its ACK is sent, and nothing waits. -/
def Sys2Proof.Say.Taken (s t : State) (h : RxHdr) : Prop :=
  (t.seqRec h.link).rxNext = ((s.seqRec h.link).rxNext + 1) % 65536 ∧ (t.seqRec h.link).waiting = [] ∧
    look (t.link h.link).ctl 0x33 = some (ackUnit (s.seqRec h.link).rxNext)

/-- One STATUS_RESP is queued behind the responses, under the request's TAG. -/
def Sys2Proof.Say.Answered (s t : State) (h : RxHdr) (type status detail : Nat) : Prop :=
  ∃ p, t.nlk.resp = s.nlk.resp ++ [p] ∧ p.type = 0x24 ∧ p.tag = h.tag ∧ p.cls = 2 ∧
    p.body.take 8 = le 1 type ++ le 1 status ++ zeros 2 ++ le 4 detail

/-- A packet with a bad CRC, one beyond the SEQ expected, and one before it, is counted on its link; none of
them is executed or answered, and the SEQ expected stays. The first two are answered with NAK of the SEQ
expected, but not again within 20 µs, and the third with ACK of the SEQ before it. (A SEQ that differs by 32,768
counts as one before: the model's reading, log 129.) -/
def Obligations.OnlyTheNextPacketIsTaken : Prop :=
  ∀ (s : State) (i : Instr) (h : RxHdr), reqHdr i = some h → Awake s → s.isUp h.link = true →
    linkUsed s h.link = true →
    (h.ok = false ∨ h.len = 0 → ∃ t, exec i s = .next t ∧ Risen s t (linkCnt h.link 0) 1 ∧
      RegsBut [linkCnt h.link 0] s t ∧ (t.seqRec h.link).rxNext = (s.seqRec h.link).rxNext ∧
      (nakRecent s (seqLink s h.link) = false →
        look (t.link h.link).ctl 0x4B = some (nakUnit (s.seqRec h.link).rxNext)) ∧
      (nakRecent s (seqLink s h.link) = true → t.nlk = s.nlk) ∧
      t.nlk.resp = s.nlk.resp ∧ t.ken = s.ken ∧ t.heel = s.heel ∧ Stores s t) ∧
    (h.ok = true → h.len ≠ 0 → newer16 h.seq (s.seqRec h.link).rxNext = true → ∃ t, exec i s = .next t ∧
      Risen s t (linkCnt h.link 0x04) 1 ∧ RegsBut [linkCnt h.link 0x04] s t ∧
      (t.seqRec h.link).rxNext = (s.seqRec h.link).rxNext ∧
      (nakRecent s (seqLink s h.link) = false →
        look (t.link h.link).ctl 0x4B = some (nakUnit (s.seqRec h.link).rxNext)) ∧
      (nakRecent s (seqLink s h.link) = true → t.nlk = s.nlk) ∧
      t.nlk.resp = s.nlk.resp ∧ t.ken = s.ken ∧ t.heel = s.heel ∧ Stores s t) ∧
    (h.ok = true → h.len ≠ 0 → newer16 h.seq (s.seqRec h.link).rxNext = false →
      h.seq % 65536 ≠ (s.seqRec h.link).rxNext → ∃ t, exec i s = .next t ∧
      Risen s t (linkCnt h.link 0x08) 1 ∧ RegsBut [linkCnt h.link 0x08] s t ∧
      (t.seqRec h.link).rxNext = (s.seqRec h.link).rxNext ∧
      look (t.link h.link).ctl 0x33 = some (ackUnit (((s.seqRec h.link).rxNext + 65535) % 65536)) ∧
      t.nlk.resp = s.nlk.resp ∧ t.ken = s.ken ∧ t.heel = s.heel ∧ Stores s t)

/-- REG_RD answers the words of COUNT registers in ascending address, with the read effects of a Neleklink read;
REG_WR writes its words in ascending address and answers how many. A wrong LEN, or an ADDR that is not aligned
or outside the space, is answered with its status and counted, and reads and writes nothing. (That LEN is
checked before ADDR, that a read's error counts too, and the bound on ADDR: the model's reading, log 128.) -/
def Sys2Proof.Say.RegisterRequestsReadAndWrite : Prop :=
  ∀ (s : State) (h : RxHdr) (addr count : Nat) (ws : List Word),
    (InOrder s (.regRd h addr count) h →
      (regStatus h 8 addr count = 0 → ∃ s1 t p, s1 = { s with nlk := s1.nlk } ∧
        exec (.regRd h addr count) s = .next t ∧ Taken s t h ∧ t.nlk.resp = s.nlk.resp ++ [p] ∧
        p.type = 0x21 ∧ p.tag = h.tag ∧
        p.body.drop 16 = ((readWords count addr s1).1.map (fun w => le 4 w.toNat)).flatten ∧
        t.regs = (readWords count addr s1).2.regs) ∧
      (regStatus h 8 addr count ≠ 0 → ∃ t p, exec (.regRd h addr count) s = .next t ∧ Taken s t h ∧
        t.nlk.resp = s.nlk.resp ++ [p] ∧ p.type = 0x21 ∧ p.tag = h.tag ∧ p.body.drop 16 = [] ∧
        leAt p.body 6 1 = regStatus h 8 addr count ∧ Risen s t (linkCnt h.link 0x18) 1 ∧
        RegsBut [linkCnt h.link 0x18] s t)) ∧
    (InOrder s (.regWr h addr count ws) h →
      (regStatus h (8 + 4 * count) addr count = 0 → ∃ s1 t, s1 = { s with nlk := s1.nlk } ∧
        exec (.regWr h addr count ws) s = .next t ∧
        let u := ((ws.take count).zipIdx).foldl (fun s (q : Word × Nat) =>
          whenAwake s fun s => regWrite s .nlk (addr + 4 * q.2) q.1) s1
        (t.regs = u.regs ∧ (Awake u → Answered u t h 0x42 0 count))) ∧
      (regStatus h (8 + 4 * count) addr count ≠ 0 → ∃ t, exec (.regWr h addr count ws) s = .next t ∧
        Taken s t h ∧ Answered s t h 0x42 (regStatus h (8 + 4 * count) addr count) 0 ∧
        Risen s t (linkCnt h.link 0x18) 1 ∧ RegsBut [linkCnt h.link 0x18] s t))

/-- BULK_RD answers its bytes of bulk space, the first part in the packet next in the queue; BULK_WR writes the
snapshots of FREE slots and answers the bytes applied: the album of a slot that holds a track stays. A wrong LEN
or ADDR is answered with its status and counted, and nothing is read or written. (The order of the checks and
the counting of a read's error: log 128; DETAIL of an album write in whole album units: log 135; both the
model's reading.) -/
def Sys2Proof.Say.BulkRequestsReadAndWrite : Prop :=
  ∀ (s : State) (h : RxHdr) (addr n : Nat) (data : List Byte),
    (InOrder s (.bulkRd h addr n) h → bulkStatus h 16 addr n 1048576 = 0 → ∃ t p rest,
      exec (.bulkRd h addr n) s = .next t ∧ Taken s t h ∧ t.nlk.resp = s.nlk.resp ++ p :: rest ∧
      p.type = 0x23 ∧ p.tag = h.tag ∧ p.body.drop 16 = bulkBytes s addr (min 16384 n) ∧
      t.regs = s.regs ∧ Stores s t) ∧
    (InOrder s (.bulkRd h addr n) h → bulkStatus h 16 addr n 1048576 ≠ 0 → ∃ t p,
      exec (.bulkRd h addr n) s = .next t ∧ Taken s t h ∧ t.nlk.resp = s.nlk.resp ++ [p] ∧
      p.type = 0x23 ∧ p.tag = h.tag ∧ p.body =
        le 8 addr ++ le 4 0 ++ le 1 (bulkStatus h 16 addr n 1048576) ++ le 1 1 ++ zeros 2 ∧
      Risen s t (linkCnt h.link 0x18) 1 ∧ RegsBut [linkCnt h.link 0x18] s t ∧ Stores s t) ∧
    (InOrder s (.bulkWr h addr n data) h →
      (bulkStatus h (16 + n) addr n 16384 = 0 → ∃ t, exec (.bulkWr h addr n data) s = .next t ∧
        Taken s t h ∧ Answered s t h 0x44 0 (writeAlbums (n / 32) addr (data.take n) none s).1 ∧
        t.ken = (writeAlbums (n / 32) addr (data.take n) none s).2.ken ∧ t.ken.slots = s.ken.slots ∧
        (∀ slot i, i < 64 → (s.slot slot).state ≠ 0 → t.snap slot i = s.snap slot i) ∧
        RegsBut [0x0B00A0] s t) ∧
      (bulkStatus h (16 + n) addr n 16384 ≠ 0 → ∃ t, exec (.bulkWr h addr n data) s = .next t ∧
        Taken s t h ∧ Answered s t h 0x44 (bulkStatus h (16 + n) addr n 16384) 0 ∧
        Risen s t (linkCnt h.link 0x18) 1 ∧ RegsBut [linkCnt h.link 0x18] s t ∧ t.ken = s.ken))

/-- UPD_BLOCK of the open session, with the hold-up check switched off, a flash that reports no failure and no
unit in conflict: every unit of the block is marked programmed, the block is counted and answered with the
result OK. A wrong LEN is answered and counted. -/
def Sys2Proof.Say.UpdateBlockIsProgrammed : Prop :=
  ∀ (s : State) (h : RxHdr) (offset len : Nat) (data : List Byte) (senses : List Nat) (fail : Option Nat),
    InOrder s (.updBlock h offset len data senses fail) h →
    (h.body = 16 + len → fail = none → data.length = len → s.upd.pend = [] → s.upd.state = 1 →
      s.upd.owner = 1 → 128 ≤ len → len ≤ 4096 → len % 128 = 0 → offset % 256 = 0 →
      offset + len ≤ s.upd.imgLen → s.upd.imgLen ≤ 16711680 → s.boot.fwBank < 2 →
      unitConflict s offset data = false → FlashFree s → ∃ t,
      exec (.updBlock h offset len data senses fail) s = .next t ∧ Taken s t h ∧ Answered s t h 0x45 0 0 ∧
      Risen s t 0x030180 1 ∧ RegsBut [0x030180, 0x030034, 0x030038] s t ∧ t.upd.pend = [] ∧
      (∀ i, i < len / 128 → unitMarked t (offset / 128 + i) = true) ∧
      (∀ u, unitMarked s u = true → u < unitCount s → unitMarked t u = true)) ∧
    (h.body ≠ 16 + len → ∃ t, exec (.updBlock h offset len data senses fail) s = .next t ∧ Taken s t h ∧
      Answered s t h 0x45 3 0 ∧ Risen s t (linkCnt h.link 0x18) 1 ∧ RegsBut [linkCnt h.link 0x18] s t ∧
      t.upd = s.upd ∧ Stores s t)

/-- TRACK_SEED, TRACK_KILL and AIM_OVERRIDE are answered QUEUED; the first two wait for the next edge, the third
for the next solve, stored at its reception, where it replaces the override before it or, with mode 0, ends it
(the model's reading, log 116); one to a port that is OFF or above 127, of a MODE above 3, or POINT to a port of
MODEL IMAGE is refused and counted. TIME_SET keeps the host's time with the TB of its SOP arrival, within 4 bus
counts (a free value: log 132) and above the TB kept before. An unknown TYPE is answered and counted. -/
def Obligations.HostRequestsAreQueued : Prop :=
  ∀ (s : State) (h : RxHdr),
    (∀ d, InOrder s (.trackSeed h d) h → h.body = 40 → s.ken.cmds.length < 256 → ∃ t,
      exec (.trackSeed h d) s = .next t ∧ Taken s t h ∧ Answered s t h 0x46 1 0 ∧
      t.ken = { s.ken with cmds := s.ken.cmds ++ [.seed d] } ∧ t.regs = s.regs) ∧
    (∀ w, InOrder s (.trackKill h w) h → h.body = 8 → s.ken.cmds.length < 256 → ∃ t,
      exec (.trackKill h w) s = .next t ∧ Taken s t h ∧ Answered s t h 0x47 1 0 ∧
      t.ken = { s.ken with cmds := s.ken.cmds ++ [.kill w.toNat] } ∧ t.regs = s.regs) ∧
    (∀ o, InOrder s (.aimOverride h o) h → h.body = 40 → o.port < 128 → (s.hp o.port).state ≠ .off →
      o.mode < 4 → (o.mode = 1 → modelOf s o.port ≠ 4) → ∃ t, exec (.aimOverride h o) s = .next t ∧ Taken s t h ∧
      Answered s t h 0x48 1 0 ∧ t.regs = s.regs ∧ (∀ n, n ≠ o.port → t.hp n = s.hp n) ∧
      (o.mode = 0 → t.hp o.port = { s.hp o.port with ovr := none }) ∧
      (o.mode ≠ 0 → ∃ q, t.hp o.port = { s.hp o.port with ovr := some q } ∧ q.mode = o.mode ∧
        q.left = (if o.ttl = 0 then none else some o.ttl) ∧ q.axes = o.axes ∧ q.mask = o.axmask % 32 ∧
        q.px = o.px ∧ q.py = o.py ∧ q.pz = o.pz)) ∧
    (∀ o, InOrder s (.aimOverride h o) h → h.body = 40 → 127 < o.port ∨ (s.hp o.port).state = .off ∨ 3 < o.mode ∨
      (o.mode = 1 ∧ modelOf s o.port = 4) → ∃ t, exec (.aimOverride h o) s = .next t ∧ Taken s t h ∧
      Risen s t 0x0E8490 1 ∧ RegsBut [0x0E8490] s t ∧ t.heel = s.heel) ∧
    (∀ host ago, InOrder s (.timeSet h host ago) h → h.body = 16 → ∃ t,
      exec (.timeSet h host ago) s = .next t ∧ Taken s t h ∧ Answered s t h 0x49 0 0 ∧
      s.nlk.timeTb < t.nlk.timeTb ∧ s.time.tb - ago ≤ t.nlk.timeTb + 4 ∧
      (s.nlk.timeTb + 4 < s.time.tb - ago → t.nlk.timeTb ≤ s.time.tb - ago + 4) ∧
      t.nlk.timeHost = host ∧ t.regs = s.regs ∧ t.time = s.time) ∧
    (∀ type, InOrder s (.unknownPacket h type) h → ∃ t,
      exec (.unknownPacket h type) s = .next t ∧ Taken s t h ∧ Answered s t h type 5 0 ∧
      Risen s t (linkCnt h.link 0x18) 1 ∧ RegsBut [linkCnt h.link 0x18] s t ∧ Stores s t)

/-! ## Neleklink links -/

/-- NLK_ACK of a SEQ newer than all acknowledged and not newer than the last sent releases the packets up to it,
also where the buffer no longer holds that packet, and ends the run of replay timeouts of every link that shares
the buffer; NLK_NAK of a SEQ in the buffer has its link send again from it. Either, with any other SEQ, is
counted and changes nothing else. -/
def Sys2Proof.Say.AcksReleaseAndNaksResend : Prop :=
  ∀ (s : State) (l q : Nat), Awake s → l < 2 →
    (((s.seqRec l).past q < (s.seqRec l).past (s.seqRec l).txNext → ∃ t, exec (.nlkAck l q) s = .next t ∧
        (t.seqRec l).replay = (s.seqRec l).replay.filter (fun p =>
          decide ((s.seqRec l).past q < (s.seqRec l).past p.1)) ∧
        (t.seqRec l).txNext = (s.seqRec l).txNext ∧ (t.seqRec l).ackNext = (q + 1) % 65536 ∧
        (∀ m, m < 2 → m = l ∨ s.nlk.mode = 0 → (t.link m).timeouts = 0 ∧
          ((s.link m).resend = none → (t.link m).resend = none) ∧
          (∀ r, (s.link m).resend = some r → (t.seqRec l).replay.any (fun p => decide (p.1 = r)) = true →
            (t.link m).resend = some r)) ∧
        t = { s with nlk := { s.nlk with links := t.nlk.links } }) ∧
      ((s.seqRec l).past (s.seqRec l).txNext ≤ (s.seqRec l).past q → ∃ t, exec (.nlkAck l q) s = .next t ∧
        CountsOnly s t (linkCnt l 0x28) 1)) ∧
    ((s.seqRec l).replay.any (fun p => decide (p.1 = q)) = true →
      (∃ t, exec (.nlkNak l q) s = .next t ∧ t.link l = { s.link l with resend := some q } ∧
        (∀ m, m ≠ l → t.link m = s.link m) ∧
        t = { s with nlk := { s.nlk with links := t.nlk.links } })) ∧
    ((s.seqRec l).replay.any (fun p => decide (p.1 = q)) = false →
      ∃ t, exec (.nlkNak l q) s = .next t ∧ CountsOnly s t (linkCnt l 0x28) 1)

/-- NLK_CREDIT gives a class its credit count and ends its stall. NLK_ALIGN of a link that trains or is UP
deskews its lanes where none lags by more than 64 units: each waits for the last; lanes with more skew are not
aligned, and the delays are kept (the model's reading, log 164). A class whose next packet on the link lacks
credit, for CREDIT_TMO (from when: log 232), is counted and logged once a stall. (A command with nothing to act
on: log 3.) -/
def Sys2Proof.Say.CreditsStallAndReturn : Prop :=
  ∀ (s : State) (l cls : Nat), Awake s → l < 2 → cls < 3 →
    (∀ n, (s.link l).state = .up → ∃ t, exec (.nlkCredit l cls n) s = .next t ∧
      t.link l = { s.link l with credit := (s.link l).credit.set cls (n % 65536),
                                 stalled := (s.link l).stalled.filter (· ≠ cls), creditAt :=
        if (s.link l).credit.getD cls 0 = n % 65536 then (s.link l).creditAt
        else (s.link l).creditAt.set cls s.time.tb } ∧
      (∀ m, m ≠ l → t.link m = s.link m) ∧ t = { s with nlk := { s.nlk with links := t.nlk.links } }) ∧
    (∀ n, (s.link l).state ≠ .up → exec (.nlkCredit l cls n) s = .next s) ∧
    (∀ row skew, (s.link l).state = .training ∨ (s.link l).state = .up → ∃ t,
      exec (.nlkAlign ⟨l, row, skew⟩) s = .next t ∧ (t.link l).alignRow = row ∧
      ((∀ k ∈ skew, k ≤ 64) → (t.link l).deskew.length = skew.length ∧
        ∀ i m, (i : Nat) < skew.length → (m : Nat) < skew.length →
          skew.getD i 0 + (t.link l).deskew.getD i 0 = skew.getD m 0 + (t.link l).deskew.getD m 0) ∧
      ((∃ k ∈ skew, 64 < k) → (t.link l).deskew = []) ∧
      t.link l = { s.link l with deskew := (t.link l).deskew, alignRow := row } ∧
      (∀ m, m ≠ l → t.link m = s.link m) ∧ t = { s with nlk := { s.nlk with links := t.nlk.links } }) ∧
    (∀ row skew, (s.link l).state ≠ .training → (s.link l).state ≠ .up →
      exec (.nlkAlign ⟨l, row, skew⟩) s = .next s) ∧
    (∀ p rest, headOf s l cls = some (p, rest) → (s.link l).state = .up → hasCredit (s.link l) p = false →
      (cls ∈ (s.link l).stalled → exec (.creditStall l cls) s = .next s) ∧
      (cls ∉ (s.link l).stalled → ∃ t, exec (.creditStall l cls) s = .next t ∧
        Risen s t (linkCnt l 0x2C) 1 ∧ RegsBut (linkCnt l 0x2C :: logRegisters) s t ∧
        (s.link l).creditAt.getD cls 0 + 750 * orIf (s.fc 0x110004 16 16) 1 ≤ t.time.tb ∧
        LogsOne s t 0x2201 1 (linkCnt l 0x2C) (t.cur (linkCnt l 0x2C)).toNat 0 ∧
        t.link l = { s.link l with stalled := cls :: (s.link l).stalled } ∧
        (∀ m, m ≠ l → t.link m = s.link m)))

/-- A lane failure, one that the adapter names, and a written RETRAIN take a link that is UP to TRAINING, with
no lane in use; the failed lane is counted, good no longer, and named in LANE_FAIL by its logical number. A lane
that fails in TRAINING is counted and good no longer too (log 189). The other link's state stays. A link that is
OFF or DOWN stays as it is. (A command with nothing to act on: log 3.) -/
def Sys2Proof.Say.LinksLeaveUpToTrain : Prop :=
  ∀ (s : State) (l : Nat), Awake s → l < 2 →
    ((s.link l).state = .up →
      (∀ lane, lane < 16 → ∃ t, exec (.laneFailure l lane) s = .next t ∧ (t.link l).state = .training ∧
        (t.link l).rxWidth = 0 ∧ (t.link l).txWidth = 0 ∧ (t.link l).rxOk / 2 ^ lane % 2 = 0 ∧
        (t.link l).txNext = (s.link l).txNext ∧ (t.link l).rxNext = (s.link l).rxNext ∧
        Risen s t (linkCnt l 0x24) 1 ∧ (t.link (1 - l)).state = (s.link (1 - l)).state ∧
        ((s.link l).rxOk / 2 ^ lane % 2 = 1 → (s.link l).failedLanes = 0 → look (t.link l).ctl 0x78
          = some (laneFailUnit (2 ^ laneCount ((s.link l).rxOk % 2 ^ lane))))) ∧
      (∀ mask, ∃ t, exec (.nlkLaneFailRx l mask) s = .next t ∧ (t.link l).state = .training ∧
        (t.link l).rxWidth = 0 ∧ (t.link l).txWidth = 0 ∧ (t.link l).rxOk = (s.link l).rxOk ∧
        (t.link (1 - l)).state = (s.link (1 - l)).state) ∧
      (∀ src, ∃ t, exec (.linkRetrain src l) s = .next t ∧ (t.link l).state = .training ∧
        (t.link l).rxWidth = 0 ∧ (t.link l).txWidth = 0 ∧ (t.link l).rxOk = (s.link l).rxOk ∧
        (t.link l).txOk = (s.link l).txOk ∧ (t.link (1 - l)).state = (s.link (1 - l)).state)) ∧
    (∀ lane, lane < 16 → (s.link l).state = .training → ∃ t, exec (.laneFailure l lane) s = .next t ∧
      (t.link l).state = .training ∧ (t.link l).rxOk / 2 ^ lane % 2 = 0 ∧ Risen s t (linkCnt l 0x24) 1) ∧
    ((s.link l).state ≠ .up → ∀ mask src,
      exec (.nlkLaneFailRx l mask) s = .next s ∧ exec (.linkRetrain src l) s = .next s) ∧
    ((s.link l).state ≠ .up → (s.link l).state ≠ .training → ∀ lane, exec (.laneFailure l lane) s = .next s)

/-- NLK_TS of a link in TRAINING with PLL-S in lock: with eight good lanes or more in each direction and credits
of 1,024 units or more in every class it is UP with the widths of R367 and the credits given; with less credit
at a fresh training it goes DOWN and shows it; with fewer lanes it stays in TRAINING. A training that is fresh
on neither side keeps the units sent (log 188). Without PLL-S nothing is trained. (A command with nothing to act
on: log 3.) -/
def Obligations.TrainingEndsUpOrDown : Prop :=
  ∀ (s : State) (l : Nat) (rx tx : BitVec 16) (fresh : Bool) (lanes : List (Nat × Bool)), Awake s → l < 2 →
    (s.link l).state = .training →
    (s.clk.sLock = false → ∀ cs, exec (.nlkTs l ⟨rx, lanes⟩ tx fresh cs) s = .next s) ∧
    (s.clk.sLock = true →
    (∀ a b c, 8 ≤ laneCount rx.toNat → 8 ≤ laneCount tx.toNat → 1024 ≤ a → 1024 ≤ b → 1024 ≤ c → ∃ t,
      exec (.nlkTs l ⟨rx, lanes⟩ tx fresh (some [a, b, c])) s = .next t ∧ (t.link l).state = .up ∧
      (t.link l).rxWidth = widthOf (laneCount rx.toNat) ∧ (t.link l).txWidth = widthOf (laneCount tx.toNat) ∧
      (t.link l).credit = [a, b, c] ∧ (t.link l).fresh = false ∧ (t.link l).peerFresh = false ∧
      (t.link l).lanes = lanes ∧
      (fresh = true ∨ (s.link l).fresh = true ∨ (s.link l).peerFresh = true → (t.link l).sent = [0, 0, 0]) ∧
      (fresh = false → (s.link l).fresh = false → (s.link l).peerFresh = false →
        (t.link l).sent = (s.link l).sent) ∧
      ((s.link l).everUp = true → Risen s t (linkCnt l 0x20) 1) ∧
      ((s.link l).everUp = false → t.cur (linkCnt l 0x20) = s.cur (linkCnt l 0x20)) ∧
      (fresh = true → (s.link l).peerFresh = false → (t.seqRec l).txNext = 0 ∧ (t.seqRec l).rxNext = 0 ∧
      (t.seqRec l).replay = [] ∧
        (t.seqRec l).waiting = []) ∧
      (fresh = false → (t.seqRec l).txNext = (s.seqRec l).txNext ∧
        (t.seqRec l).replay = (s.seqRec l).replay)) ∧
    (∀ a b c, 8 ≤ laneCount rx.toNat → 8 ≤ laneCount tx.toNat → a < 1024 ∨ b < 1024 ∨ c < 1024 →
      fresh = true ∨ (s.link l).fresh = true ∨ (s.link l).peerFresh = true → ∃ t,
      exec (.nlkTs l ⟨rx, lanes⟩ tx fresh (some [a, b, c])) s = .next t ∧ (t.link l).state = .down ∧
      (t.link l).creditSmall = true) ∧
    (∀ cs, laneCount rx.toNat < 8 ∨ laneCount tx.toNat < 8 → ∃ t,
      exec (.nlkTs l ⟨rx, lanes⟩ tx fresh cs) s = .next t ∧ (t.link l).state = .training ∧
      (t.link l).rxOk = rx.toNat ∧ (t.link l).txOk = tx.toNat))

/-- TRAINING_TIMEOUT takes a link from TRAINING DOWN, and TRAINING_RETRY takes one that is DOWN back, once PLL-S
is in lock. REPLAY_TIMEOUT, REPLAY_TMO after the last release (or the link's coming UP, or the timeout before:
the model's choice, log 232), sends again from the oldest packet, and REPLAY_MAX of them in a row retrain the
link. (A command with nothing to act on: log 3.) -/
def Sys2Proof.Say.LinksTimeOut : Prop :=
  ∀ (s : State) (l : Nat), Awake s → l < 2 →
    ((s.link l).state = .training → ∃ t, exec (.trainingTimeout l) s = .next t ∧ (t.link l).state = .down ∧
      (∀ m, m ≠ l → t.link m = s.link m) ∧ RegsBut logRegisters s t ∧
      ((s.link l).retry = false → LogsOne s t 0x2201 1 (0x110010 + 4 * l) (linkStatus (t.link l)) l) ∧
      ((s.link l).retry = true → t.log = s.log)) ∧
    ((s.link l).state ≠ .training → exec (.trainingTimeout l) s = .next s) ∧
    (∀ b, (s.link l).state = .down → s.clk.sLock = true ∨ b = true → ∃ t,
      exec (.trainingRetry l b) s = .next t ∧
      t.link l = { s.link l with state := .training, retry := true, peerFresh := false, deskew := [],
                                 lanes := [] } ∧
      t.clk.sLock = true ∧ (∀ m, m ≠ l → t.link m = s.link m) ∧ t.regs = s.regs) ∧
    ((s.link l).state = .down → s.clk.sLock = false → ∃ t, exec (.trainingRetry l false) s = .next t ∧
      t.nlk = s.nlk ∧ t.clk.sLock = false ∧ t.regs = s.regs) ∧
    (∀ b, (s.link l).state ≠ .down → exec (.trainingRetry l b) s = .next s) ∧
    (∀ q p rest, (s.seqRec l).replay = (q, p) :: rest → (s.link l).state = .up →
      ((s.link l).timeouts + 1 < orIf (s.fc 0x110004 8 4) 1 → ∃ t, exec (.replayTimeout l) s = .next t ∧
        t.link l = { s.link l with resend := some q, timeouts := (s.link l).timeouts + 1, relAt := t.time.tb } ∧
        max (s.link l).relAt (s.link l).upAt + 750 * max 10 (s.fc 0x110004 0 8) ≤ t.time.tb ∧
        (∀ m, m ≠ l → t.link m = s.link m) ∧ t.regs = s.regs) ∧
      (orIf (s.fc 0x110004 8 4) 1 ≤ (s.link l).timeouts + 1 → ∃ t, exec (.replayTimeout l) s = .next t ∧
        (t.link l).state = .training ∧ (t.link l).timeouts = 0)) ∧
    ((s.seqRec l).replay = [] → exec (.replayTimeout l) s = .next s)

/-- PACKET_TRANSMIT, with no request that waits: the packet that the strict order picks leaves its queue with
the next SEQ and is kept in the replay buffer, once no link that it goes on still resends, and no unit of it
falls into an ALIGN row (rows are counted from the one at which the link came UP: the model's choice, log 217);
one to be sent again goes first and is counted; without a packet that may go nothing changes. (A command with
nothing to act on: log 3.) -/
def Sys2Proof.Say.TransmitterSendsTheNextPacket : Prop :=
  ∀ (s : State) (l : Nat), Awake s → s.isUp l = true → linkUsed s l = true →
    (∀ m, m < 2 → (s.link m).waiting = [] ∧ (s.link m).bulk = none) →
    (nextNew s l ≠ none → ∀ m ∈ sendLinks s l, (s.link m).resend = none) ∧
    (∀ cls p q, (s.link l).resend = none → nextNew s l = some (cls, p, q) → ∃ t,
      exec (.packetTransmit l) s = .next t ∧ (t.nlk.queue cls).Sublist q ∧
      (s.nlk.mode ≠ 1 ∨ p.type ≠ 0x02 → t.nlk.queue cls = q) ∧ (cls = 0 → t.nlk.turn = p.stream) ∧
      (t.seqRec l).txNext = ((s.seqRec l).txNext + 1) % 65536 ∧
      (t.seqRec l).replay = (s.seqRec l).replay ++ [((s.seqRec l).txNext, onWire s l p)] ∧
      (t.link l).lastTx = some ((s.seqRec l).txNext, onWire s l p) ∧
      (s.nlk.mode ≠ 1 ∨ p.type ≠ 0x02 → onWire s l p = p) ∧
      (0 < (t.link l).txWidth → (t.link l).txUnit / (t.link l).txWidth % 16384 ≠ 0) ∧ t.regs = s.regs ∧
      Stores { s with log := { s.log with cycle := t.log.cycle } } t) ∧
    ((s.link l).resend = none → nextNew s l = none → exec (.packetTransmit l) s = .next s) ∧
    (∀ q p rest, (s.link l).resend = some q →
      (s.seqRec l).replay.dropWhile (fun p => decide (p.1 ≠ q)) = (q, p) :: rest →
      hasCredit (s.link l) p = true → ∃ t, exec (.packetTransmit l) s = .next t ∧
      (t.link l).lastTx = some (q, p) ∧ (t.link l).resend = rest.head?.map (·.1) ∧
      (t.seqRec l).replay = (s.seqRec l).replay ∧ (∀ c, t.nlk.queue c = s.nlk.queue c) ∧
      Risen s t (linkCnt l 0x1C) 1 ∧ RegsBut [linkCnt l 0x1C] s t)

/-- The strict order of new packets: responses, then META in the stream order 7, 5, 4, 3, 6, 10, then IMG in
turn after the stream last served. A class goes before a later one unless it has no packet for the link or lacks
credit for its next one; within a class the first packet of the first stream that has one goes, where an
END_OF_FRAME in STRIPE waits for the data of its frame (the model's reading, log 126). -/
def Sys2Proof.Say.NewPacketsGoInStrictOrder : Prop :=
  ∀ (s : State) (l cls : Nat) (p : Pkt) (q : List Pkt), nextNew s l = some (cls, p, q) →
    let order := match cls with
      | 0 => (List.range 10).map fun i => (s.nlk.turn + 1 + i) % 10
      | 1 => [7, 5, 4, 3, 6, 10]
      | _ => [0]
    let on := fun st x => decide ((x : Pkt).stream = st) && mayUse s l x
    cls < 3 ∧ (∀ m ∈ sendLinks s l, (s.link m).resend = none ∧ hasCredit (s.link m) p = true) ∧
    (s.nlk.queue cls).find? (on p.stream) = some p ∧ dataGone s p = true ∧
    q = (s.nlk.queue cls).eraseP (on p.stream) ∧
    (∃ pre post, order = pre ++ p.stream :: post ∧
      ∀ st ∈ pre, ∀ x, (s.nlk.queue cls).find? (on st) = some x → dataGone s x = false) ∧
    (∀ c, cls < c → c < 3 → ∀ x r, headOf s l c = some (x, r) →
      ∃ m ∈ sendLinks s l, hasCredit (s.link m) x = false)

/-! ## Faults, scrubbing, heat, log and flash -/

/-- During a run the tier can only fall: no command but those of a start raises it, and the tier stays one of 1
to 3. -/
def Sys2Proof.Say.TierOnlyFallsInARun : Prop :=
  ∀ (c : Instr) (s t : State), isStartCommand c = false → exec c s = .next t → t.sys.tier ≤ max 1 s.sys.tier ∧
    (1 ≤ s.sys.tier → s.sys.tier ≤ 3 → 1 ≤ t.sys.tier ∧ t.sys.tier ≤ 3)

/-- A unit fault above the tier that the unit leaves takes the device to that tier with the TIER Bark, and calls
a warm restart of CAUSE 4 where restarts are enabled and RST_MAX is not reached, and otherwise counts the
refusal; at that tier or below nothing falls. The watchdog, after four tick edges in a row without service,
restarts with CAUSE 4, and not in debug halt; a lockstep mismatch restarts with CAUSE 3, and the third close one
leaves the device dark. (A command with nothing to act on: log 3.) -/
def Sys2Proof.Say.FaultsLowerTheTierAndRestart : Prop :=
  ∀ s : State,
    (∀ u, Awake s → s.upd.state ≠ 5 → unitTier u < s.sys.tier → ∃ t, exec (.unitFault u) s = .next t ∧
      t.sys.tier = unitTier u ∧ u ∈ t.sys.failed ∧ t.sys.fell = true ∧ t.sys.uncorr = true ∧
      t.fc 0x120010 0 1 = 1 ∧ t.regs.act = s.regs.act ∧
      (s.fc 0x130000 0 1 = 1 ∧ rstHour s < s.fc 0x130000 8 4 →
        t.sys.phase = .restarting ∧ t.sys.cause = 4 ∧ Risen s t 0x130090 1) ∧
      (s.fc 0x130000 0 1 = 0 ∨ s.fc 0x130000 8 4 ≤ rstHour s →
        t.sys.phase = s.sys.phase ∧ Risen s t 0x130094 1)) ∧
    (∀ u, Awake s → s.upd.state ≠ 5 → s.sys.tier ≤ unitTier u → ∃ t, exec (.unitFault u) s = .next t ∧
      t.sys.tier = s.sys.tier ∧ t.sys.phase = s.sys.phase ∧ u ∈ t.sys.failed ∧
      RegsBut logRegisters s t) ∧
    (Awake s → s.time.slow = false → 4 ≤ s.sys.wdMissed → ∃ t, exec .watchdogExpiry s = .next t ∧
      t.sys.phase = .restarting ∧
      t.sys.cause = 4 ∧ t.time.tickOpen = false ∧ RegsBut logRegisters s t) ∧
    (s.time.slow = true ∨ s.sys.wdMissed < 4 → exec .watchdogExpiry s = .next s) ∧
    (Answers s → s.sys.lsN = 0 → ∃ t, exec .lockstepMismatch s = .next t ∧ t.sys.lsN = 1 ∧
      t.sys.phase = .restarting ∧ t.sys.cause = 3 ∧ RegsBut logRegisters s t) ∧
    (Answers s → s.sys.lsN = 2 → s.time.tb ≤ s.sys.lsLast + 45000000000 → ∃ t,
      exec .lockstepMismatch s = .next t ∧ t.sys.phase = .dark ∧ t.time.tickOpen = false ∧
      (t.link 0).state = .off ∧ (t.link 1).state = .off ∧ ∀ i, t.out i = ClkOut.off)

/-- The uncorrectable words that are contained: all but those of supervisor state, streams, replay and journals.
-/
def Sys2Proof.Say.isContained : UeLoc → Bool
  | .supervisor _ | .streamPkt _ | .replay _ | .cueJournal _ _ _ | .tickJournal _ _ => false
  | _ => true

/-- UNCORRECTABLE_WORD: a contained one is counted and takes neither tier nor phase; a snapshot is VALID no
longer and a track is left to bookkeeping; one in supervisor state restarts with CAUSE 4; a journal word with
one good copy is a correction. SCRUB_LINE counts what it corrects, no sooner than 256 bus counts after the eDRAM
line before, or 100 ms after the last scrub of the SRAMs, and counts a pass of eDRAM at its last line; a clean or
busy line counts nothing. -/
def Obligations.MemoryErrorsAreContained : Prop :=
  ∀ s : State, Awake s →
    (∀ loc, isContained loc = true → s.upd.state ≠ 5 → ∃ t, exec (.uncorrectableWord loc) s = .next t ∧
      Risen s t 0x130088 1 ∧ t.sys.tier = s.sys.tier ∧ t.sys.phase = s.sys.phase ∧
      t.sys.uncorr = true ∧ t.regs.act = s.regs.act) ∧
    (∀ i n, n < 64 → ∃ t, exec (.uncorrectableWord (.album i n)) s = .next t ∧ (t.snap i n).valid = false ∧
      ∀ j m, m < 64 → j ≠ i ∨ m ≠ n → t.snap j m = s.snap j m) ∧
    (∀ i, ∃ t, exec (.uncorrectableWord (.kennelSlot i)) s = .next t ∧ t.ken.broken = i :: s.ken.broken ∧
      t.ken.slots = s.ken.slots) ∧
    (∀ a, ∃ t, exec (.uncorrectableWord (.supervisor a)) s = .next t ∧ t.sys.phase = .restarting ∧
      t.sys.cause = 4) ∧
    (∀ n c, ∃ t, exec (.uncorrectableWord (.cueJournal n c false)) s = .next t ∧ Risen s t 0x130080 1 ∧
      RegsBut [0x130080] s t ∧ t.lsh = s.lsh) ∧
    (∀ n, ∃ t, exec (.scrubLine true (.corrected n)) s = .next t ∧ Risen s t 0x130084 n ∧
      RegsBut [0x130084, 0x13008C] s t ∧ s.sys.scrubAt + 256 ≤ t.time.tb ∧ t.sys.scrubAt = t.time.tb ∧
      (s.sys.scrubPos + 1 = scrubLines → t.sys.scrubPos = 0 ∧ Risen s t 0x13008C 1) ∧
      (s.sys.scrubPos + 1 ≠ scrubLines →
        t.sys.scrubPos = s.sys.scrubPos + 1 ∧ t.cur 0x13008C = s.cur 0x13008C)) ∧
    (∀ n, ∃ t, exec (.scrubLine false (.corrected n)) s = .next t ∧ Risen s t 0x130080 n ∧
      RegsBut [0x130080] s t ∧ s.sys.sramAt + 75000000 ≤ t.time.tb ∧
      t.sys = { s.sys with sramAt := t.time.tb }) ∧
    (∀ edram r, r = .clean ∨ r = .skipped → ∃ t, exec (.scrubLine edram r) s = .next t ∧
      RegsBut [0x13008C] s t ∧ t.log = s.log ∧ (edram = false → t.regs = s.regs))

/-- THERMAL_TRIP after eight hot edges takes the device to tier 1 with both links OFF, is counted once, and
holds its restart back; THERMAL_RECOVERY below TRIP − 15 °C ends it and lets a held restart go. (A command with
nothing to act on: log 3.) -/
def Sys2Proof.Say.HeatTripsAndRecovers : Prop :=
  ∀ s : State, Awake s →
    (8 ≤ s.sys.tripEdges → s.sys.tripped = false → s.upd.state ≠ 5 → ∃ t,
      exec .thermalTrip s = .next t ∧ t.sys.tripped = true ∧ t.sys.tier = 1 ∧ Risen s t 0x13009C 1 ∧
      t.sys.tripRestart = decide (1 < s.sys.tier) ∧ t.sys.phase = s.sys.phase ∧
      (t.link 0).state = .off ∧ (t.link 1).state = .off) ∧
    (s.sys.tripEdges < 8 ∨ s.sys.tripped = true → exec .thermalTrip s = .next s) ∧
    (s.sys.tripped = true → sgn 16 (s.fc 0x130004 0 16) < ((tripTemp s - 15) * 256 : Nat) → ∃ t,
      exec .thermalRecovery s = .next t ∧ t.sys.tripped = false ∧ t.sys.tripEdges = 0 ∧
      (s.sys.tripRestart = false → t.sys.phase = s.sys.phase ∧ t.regs = s.regs) ∧
      (s.sys.tripRestart = true → s.fc 0x130000 0 1 = 1 → rstHour s < s.fc 0x130000 8 4 →
        t.sys.phase = .restarting ∧ t.sys.cause = 4)) ∧
    (s.sys.tripped = false → exec .thermalRecovery s = .next s)

/-- LOG_SECOND ends the log second under way, a whole second of TB (the first not summed up yet: the model's
reading, log 194), and gives fresh sums; LOG_FLUSH, at once after an ERROR entry and else FLUSH_S after the
last, archives every unarchived entry, and changes no byte outside the archive; while PFW_B is low it is
deferred and counted, and one that waits already is left to its next check. FLASH_DEFER_RETRY, 1 ms after the
check that failed, tries the deferred jobs again (a job is counted once, however often it is checked: the
model's reading, log 150), and changes no byte of flash while PFW_B is low; ARCHIVE_READ shows one entry, at
once (log 149). -/
def Sys2Proof.Say.LogIsArchived : Prop :=
  ∀ s : State, Awake s →
    (∃ t, exec .logSecond s = .next t ∧ t.log.ceSram = 0 ∧ t.log.ceEdram = 0 ∧
      t.time.tb % countsPerSec = 0 ∧ s.time.tb ≤ t.time.tb ∧ t.log.sumAt = t.time.tb ∧
      (s.log.sumAt ≤ s.time.tb → s.time.src = .bus →
        s.log.sumAt < t.time.tb ∧ t.time.tb ≤ s.time.tb + countsPerSec) ∧
      RegsBut logRegisters s t ∧ (s.log.ceSram = 0 → s.log.ceEdram = 0 → t.log.ram = s.log.ram)) ∧
    (∀ sense, .logFlush ∈ s.boot.deferred → exec (.logFlush sense) s = .next s) ∧
    (∀ sense, s.boot.usable = true → s.fc 0x130040 16 1 = 1 → FlashFree s → s.log.archWr < 131072 →
      .logFlush ∉ s.boot.deferred → ∃ t, exec (.logFlush sense) s = .next t ∧ t.log.unarch = 0 ∧
      t.log.flushDue = false ∧
      t.log.lastFlush = t.time.tb ∧ (s.log.flushDue = true → t.time.tb = s.time.tb) ∧
      (s.log.flushDue = false → s.log.lastFlush + orIf (s.fc 0x130040 0 8) 1 * countsPerSec ≤ t.time.tb) ∧
      t.log.ram = s.log.ram ∧ .logFlush ∉ t.boot.deferred ∧
      (∀ a, a < 0x300000 ∨ 0x700000 ≤ a → flashByte t a = flashByte s a) ∧
      RegsBut [0x030034, 0x030038] s t) ∧
    (∀ sense, s.boot.usable = true → s.fc 0x130040 16 1 = 1 → s.boot.pfwLow = true → 1 ≤ s.log.unarch →
      s.boot.recheck = false → .logFlush ∉ s.boot.deferred → ∃ t, exec (.logFlush sense) s = .next t ∧
      t.log = s.log ∧ .logFlush ∈ t.boot.deferred ∧
      Risen s t 0x1300AC 1 ∧ ∀ a, flashByte t a = flashByte s a) ∧
    (∀ sense, s.boot.deferred = [.logFlush] → s.boot.usable = true → s.fc 0x130040 16 1 = 1 → FlashFree s →
      ∃ t, exec (.flashDeferRetry sense) s = .next t ∧ t.boot.deferred = [] ∧ t.log.unarch = 0) ∧
    (∀ sense, s.boot.pfwLow = true → ∃ t, exec (.flashDeferRetry sense) s = .next t ∧
      (s.boot.deferred ≠ [] → s.boot.checkAt + 750000 ≤ t.time.tb) ∧
      ∀ a, flashByte t a = flashByte s a) ∧
    (∀ src i, i < 131072 → s.boot.usable = true → ∃ t, exec (.archiveRead src i) s = .next t ∧
      (t.cur 0x130050).toNat = i ∧
      (∀ w, w < 8 → t.cur (0x130060 + 4 * w)
        = BitVec.ofNat 32 (leAt (flashBytes s (0x300000 + 32 * i) 32) (4 * w) 4)) ∧
      (∀ a, a ≠ 0x130050 → a < 0x130060 ∨ 0x130080 ≤ a → t.cur a = s.cur a) ∧ Stores s t)

/-- PFW_B low stops flash commands, is counted once and Barked; its return is logged, and commands stay stopped
for 10 ms. (A command with nothing to act on: log 3.) -/
def Sys2Proof.Say.PowerFailWarningStopsFlash : Prop :=
  ∀ s : State, Awake s →
    (s.boot.pfwLow = false → ∃ t, exec .pfwAssert s = .next t ∧ t.boot = { s.boot with pfwLow := true } ∧
      pfwActive t = true ∧ Risen s t 0x030090 1 ∧ t.fc 0x120010 6 1 = 1 ∧
      RegsBut [0x030090, 0x120010] s t) ∧
    (s.boot.pfwLow = true → exec .pfwAssert s = .next s) ∧
    (∀ u : State, u.sys.phase = .held → u.boot.pfwLow = false → exec .pfwAssert u
      = .next { u with boot := { u.boot with pfwLow := true } }) ∧
    (s.boot.pfwLow = true → ∃ t, exec .pfwRelease s = .next t ∧ t.boot.pfwLow = false ∧
      t.boot.pfwRelease = s.time.tb ∧ pfwActive t = true ∧ RegsBut logRegisters s t ∧
      LogsOne s t 0x0601 0 0x030090 (s.cur 0x030090).toNat 0) ∧
    (s.boot.pfwLow = false → exec .pfwRelease s = .next s)

/-- The hold-up check of one flash command with C not 0, at its next code of the monitor converter: with `v` =
0.99 · v_sns · K and VMIN in the same unit, the command is issued where C / 2 · (v² − VMIN²) is at least E_OP ·
(100 + MARGIN) / 100 and PFW_B allows it; otherwise it is deferred, counted once (the model's reading, log 150),
and leaves the flash as it is. HU_STATUS shows the reading, and that the command was checked. Code n of the
converter reads as n · 1,800 / 4,095 mV (the model's choice, log 195). -/
def Sys2Proof.Say.EnergyCheckGatesFlash : Prop :=
  ∀ (s : State) (erase : Bool) (a code : Nat) (bs : List Byte) (l : List Nat),
    s.cur 0x030020 ≠ 0 → s.boot.failAt = none → s.boot.senses = code :: l → code < 4096 →
    let r := if erase then flashErase s a else flashProgram s a bs
    let d := 100 * 256 * 4095
    let v := 99 * orIf (s.fc 0x030024 16 16) 0x100 * (code * 1800)
    let vmin := s.fc 0x030024 0 16 * d
    let have_ := (s.cur 0x030020).toNat * (v ^ 2 - vmin ^ 2) * 100
    let need := (s.cur (if erase then 0x030028 else 0x03002C)).toNat * (100 + s.fc 0x030030 0 8)
      * (2 * d ^ 2 * 1000000000)
    r.2.fc 0x030034 0 16 = code * 1800 / 4095 ∧ r.2.fc 0x030034 17 1 = 0 ∧
    (pfwActive s = false → need ≤ have_ → r.1 = true ∧
      r.2.boot.flash = if erase then eraseSector s.boot.flash a else programBytes s.boot.flash a bs) ∧
    (pfwActive s = true ∨ have_ < need → r.1 = false ∧ r.2.boot.flash = s.boot.flash ∧
      r.2.boot.checkAt = s.time.tb ∧ (s.boot.recheck = false → Risen s r.2 0x03008C 1) ∧
      (s.boot.recheck = true → r.2.cur 0x03008C = s.cur 0x03008C))

/-- An event enters the log: below RATE_MAX of its CODE in the log second one entry of 32 bytes, with a CRC that
holds over the other 30, takes, behind entries of its bus cycle with no higher BLOCK, the next place of the ring
and the next SEQ, and no other place changes; the entry that it overwrites is counted, and so is one lost
unarchived. An ERROR sets the Bark and asks for a flush. At RATE_MAX the event is counted and not written.
Events of one bus cycle, of one command or of two, stand in ascending order of BLOCK and of SEQ (which entries
may still move: the model's reading, log 203). -/
def Sys2Proof.Say.EventsEnterTheLog : Prop :=
  ∀ (s : State) (block kind sev a0 a1 a2 : Nat) (uncorr : Bool), s.log.batch = none → kind < 256 → sev < 4 →
    let t := logEvent s block kind sev uncorr a0 a1 a2
    let cnts := if s.time.tb / 750000000 = s.log.sec then s.log.codeCnt else []
    let max_ := orIf (s.fc 0x130040 8 8) 1
    (mget 0 cnts (block * 256 + kind) < max_ → ∃ x : LogEntry,
      x = { tb := s.time.tb, seq := (s.log.seq + 1) % 2 ^ 32, frame := s.time.k % 2 ^ 32,
            code := block * 256 + kind, sev := sev + (if uncorr then 4 else 0), start := s.sys.startCount % 256,
            arg0 := a0, arg1 := a1 % 2 ^ 32, arg2 := a2 % 65536 } ∧
      (LastInCycle s.log s.time.tb block →
        look t.log.ram s.log.wr = some x ∧ ∀ j, j ≠ s.log.wr → look t.log.ram j = look s.log.ram j) ∧
      t.log.wr = (s.log.wr + 1) % 4096 ∧ t.log.seq = x.seq ∧ t.log.unarch = min 4096 (s.log.unarch + 1) ∧
      x.bytes.length = 32 ∧ crc16 (x.bytes.take 30) = leAt x.bytes 30 2 ∧ leAt x.bytes 8 4 = x.seq ∧
      leAt x.bytes 24 4 = a1 % 2 ^ 32 ∧
      Risen s t 0x1300A0 (if (look s.log.ram s.log.wr).isSome then 1 else 0) ∧
      Risen s t 0x1300A4 (if s.log.unarch = 4096 then 1 else 0) ∧
      (sev = 2 → t.log.flushDue = true ∧ t.fc 0x120010 1 1 = 1) ∧ RegsBut logRegisters s t) ∧
    (max_ ≤ mget 0 cnts (block * 256 + kind) → t.log.ram = s.log.ram ∧ t.log.wr = s.log.wr ∧
      t.log.seq = s.log.seq ∧ Risen s t 0x1300A8 1) ∧
    (∀ first, block < first → mget 0 cnts (block * 256 + kind) < max_ → mget 0 cnts (first * 256 + kind) < max_ →
      s.log.wr < 4096 → s.log.cycle = 0 →
      let twice := fun s => logEvent (logEvent s first kind sev uncorr a0 a1 a2) block kind sev uncorr a0 a1 a2
      ∀ u, u = inCycle s twice ∨ (u = twice s ∧ s.log.inStart = false) →
        (look u.log.ram s.log.wr).map (fun y => (y.code, y.seq)) =
          some (block * 256 + kind, (s.log.seq + 1) % 2 ^ 32) ∧
        (look u.log.ram ((s.log.wr + 1) % 4096)).map (fun y => (y.code, y.seq)) =
          some (first * 256 + kind, (s.log.seq + 2) % 2 ^ 32))

/-- No step leaves the flash out of its canonical form: addresses strictly rise, and no entry reads as erased.
-/
def Obligations.FlashStaysCanonical : Prop :=
  ∀ s t : State, Memory.wf s.boot.flash = true → step s = .next t → Memory.wf t.boot.flash = true

/-! ## Firmware update -/

/-- A command of the update is refused: its result is shown and counted, and the session, the phase and the
flash are as they were. -/
def Sys2Proof.Say.UpdRefused (s t : State) (r : Nat) : Prop :=
  t.upd = { s.upd with cmdResult := r } ∧ Risen s t 0x030188 1 ∧ RegsBut [0x030188] s t ∧
    t.sys = s.sys ∧ ∀ a, flashByte t a = flashByte s a

/-- A boot record is written to the slot that does not hold the one in use, with the next SEQ. -/
def Sys2Proof.Say.WroteRecord (s t : State) (bank : Nat) (trial reverted : Bool) : Prop :=
  ∃ slot r, t.boot.brec = some (slot, r.seq) ∧ readBootRec t slot = some r ∧ r.bank = bank ∧
    r.trial = trial ∧ r.reverted = reverted ∧
    (∀ sl q, s.boot.brec = some (sl, q) → slot = 1 - sl ∧ r.seq = (q + 1) % 2 ^ 32) ∧
    (s.boot.brec = none → slot = 0 ∧ r.seq = 1)

/-- UPD_MB_GO of the management bus, in its session with flash commands free: the unit is marked programmed and
the block counted; while a block of it waits, the GO is ignored and counted; behind a block of the other path
that waits, its block waits, and no check comes sooner for it; another source's GO does nothing.
BLOCK_DEFER_TIMEOUT answers the oldest waiting block DEFERRED. (A command with nothing to act on: log 3.) -/
def Sys2Proof.Say.MailboxBlocksAreProgrammed : Prop :=
  ∀ (s : State) (senses : List Nat) (fail : Option Nat), Awake s →
    (∀ src, src ≠ .mgb → exec (.updMbGo src senses fail) s = .next s) ∧
    (s.upd.pend.any (fun p => decide (p.path = 2)) = true → ∃ t,
      exec (.updMbGo .mgb senses fail) s = .next t ∧ Risen s t 0x030194 1 ∧ RegsBut [0x030194] s t ∧
      t.upd = s.upd ∧ Stores s t) ∧
    (s.upd.pend ≠ [] → s.upd.pend.any (fun p => decide (p.path = 2)) = false →
      (∀ m, m < 2 → (s.link m).waiting = []) → ∃ t p, exec (.updMbGo .mgb senses fail) s = .next t ∧
      t.upd.pend = s.upd.pend ++ [p] ∧ p.path = 2 ∧ t.boot.checkAt = s.boot.checkAt ∧
      t.boot.deferred = s.boot.deferred ∧ ∀ a, flashByte t a = flashByte s a) ∧
    (fail = none → s.upd.pend = [] → s.upd.state = 1 → s.upd.owner = 2 → s.fc 0x030204 0 8 = 128 →
      (s.cur 0x030200).toNat % 128 = 0 → (s.cur 0x030200).toNat + 128 ≤ s.upd.imgLen →
      s.upd.imgLen ≤ 16711680 → s.boot.fwBank < 2 → FlashFree s →
      unitConflict s (s.cur 0x030200).toNat
        ((upto 32).map (fun i => le 4 (s.cur (0x030280 + 4 * i)).toNat)).flatten = false → ∃ t,
      exec (.updMbGo .mgb senses fail) s = .next t ∧ t.upd.mbCode = 0 ∧ t.upd.pend = [] ∧
      Risen s t 0x030180 1 ∧ RegsBut [0x030180, 0x030034, 0x030038] s t ∧
      unitMarked t ((s.cur 0x030200).toNat / 128) = true) ∧
    (s.upd.pend = [] → exec .blockDeferTimeout s = .next s) ∧
    (∀ p rest, s.upd.pend = p :: rest → ∃ t, exec .blockDeferTimeout s = .next t ∧ t.upd.pend = rest ∧
      p.since + 37500000 ≤ t.time.tb ∧ Risen s t 0x030184 1 ∧ RegsBut [0x030184] s t ∧
      (∀ a, flashByte t a = flashByte s a) ∧
      (rest = [] → .updBlock ∉ t.boot.deferred) ∧
      (p.path = 1 → ∃ q, t.nlk.resp = s.nlk.resp ++ [q] ∧ q.type = 0x24 ∧ q.tag = p.tag ∧
        q.body.take 8 = le 1 0x45 ++ le 1 0 ++ zeros 2 ++ le 4 8) ∧
      (p.path ≠ 1 → t.upd.mbCode = 8))

/-- ABORT of a session in RECEIVING, VERIFIED or FAILED, with flash commands free: the first sector of the map
is erased and the session is over; while that erase waits for its next check, a further ABORT leaves it to that.
VERIFY of a complete session in RECEIVING begins the pass; the pass makes it VERIFIED, or FAILED with the
segment that failed, and shows the bytes checked and what is wrong with a bad header. In any other state the
command is refused. (A command with nothing to act on: log 3.) -/
def Obligations.SessionsVerifyAndAbort : Prop :=
  ∀ (s : State) (senses : List Nat), Awake s →
    (s.upd.state = 1 ∨ s.upd.state = 3 ∨ s.upd.state = 6 → .mapErase ∈ s.boot.deferred → ∃ t,
      exec (.updAbort senses) s = .next t ∧ t.upd = { s.upd with cmdResult := 0 } ∧
      t.boot.deferred = s.boot.deferred ∧ t.boot.checkAt = s.boot.checkAt ∧ ∀ a, flashByte t a = flashByte s a) ∧
    (s.upd.state = 1 ∨ s.upd.state = 3 ∨ s.upd.state = 6 → FlashFree s → .mapErase ∉ s.boot.deferred → ∃ t,
      exec (.updAbort senses) s = .next t ∧ t.upd.state = 0 ∧ t.upd.last = 4 ∧ t.upd.owner = 0 ∧
      t.upd.imgLen = 0 ∧ t.upd.cmdResult = 0 ∧
      (∀ a, mapBase s ≤ a → a < mapBase s + 4096 → flashByte t a = 0xFF) ∧
      (∀ a, a < mapBase s ∨ mapBase s + 4096 ≤ a → flashByte t a = flashByte s a)) ∧
    (s.upd.state ≠ 1 → s.upd.state ≠ 3 → s.upd.state ≠ 6 → ∃ t,
      exec (.updAbort senses) s = .next t ∧ UpdRefused s t 1) ∧
    (s.upd.state = 1 → updComplete s = true → ∃ t, exec .updVerify s = .next t ∧ t.upd.state = 2 ∧
      t.upd.cmdResult = 0 ∧ t.upd.verifyPos = 0 ∧ t.upd.verifySince = some s.time.tb ∧ t.fc 0x120010 5 1 = 1 ∧
      RegsBut logRegisters s t ∧
      ∀ a, flashByte t a = flashByte s a) ∧
    (s.upd.state = 1 → updComplete s = false → ∃ t, exec .updVerify s = .next t ∧ UpdRefused s t 2) ∧
    (s.upd.state ≠ 1 → ∃ t, exec .updVerify s = .next t ∧ UpdRefused s t 1) ∧
    (s.upd.state = 2 → s.upd.verifySince.isSome = true → FlashFree s → ∃ t,
      exec (.verifyPassDone senses) s = .next t ∧ t.upd.verifyPos = (verifyPass s).bytes ∧
      ((verifyPass s).fail = none → t.upd.state = 3) ∧
      ((verifyPass s).hdrErr ≠ 0 → t.upd.hdrErr = (verifyPass s).hdrErr) ∧
      (∀ g, (verifyPass s).fail = some g → t.upd.state = 6 ∧ t.upd.failSeg = g ∧ t.upd.last = 3)) ∧
    (s.upd.state ≠ 2 ∨ s.upd.verifySince = none → exec (.verifyPassDone senses) s = .next s)

/-- ACTIVATE of a VERIFIED session, with no port active or by force and flash commands free: a TRIAL record of
the other bank is written, and a warm restart of CAUSE 2 is due. ACTIVATE_TIMEOUT takes the session back to
VERIFIED, unless the record is written. ROLLBACK by force in IDLE, onto a bank whose header passes, writes a
CONFIRMED record of it and restarts; onto another bank it is refused with CHECKS (the model's reading, log 153).
(A command with nothing to act on: log 3.) -/
def Obligations.BanksAreActivated : Prop :=
  ∀ (s : State) (force : Bool) (senses : List Nat), Awake s →
    (s.upd.state = 3 → portsActive s = false ∨ force = true → FlashFree s → ∃ t,
      exec (.updActivate force senses) s = .next t ∧ t.sys.phase = .restarting ∧ t.sys.cause = 2 ∧
      t.upd.cmdResult = 0 ∧ WroteRecord s t (1 - s.boot.fwBank) true false ∧ Risen s t 0x03018C 1) ∧
    (s.upd.state = 3 → portsActive s = true → force = false → ∃ t,
      exec (.updActivate force senses) s = .next t ∧ UpdRefused s t 4) ∧
    (s.upd.state ≠ 3 → ∃ t, exec (.updActivate force senses) s = .next t ∧ UpdRefused s t 1) ∧
    (s.upd.state = 4 → s.upd.trialWritten = false → ∃ t, exec .activateTimeout s = .next t ∧
      t.upd = { s.upd with state := 3, cmdResult := 3 } ∧ s.upd.actSince + countsPerSec ≤ t.time.tb ∧
      .trialRecord ∉ t.boot.deferred ∧ t.sys.phase = s.sys.phase) ∧
    (s.upd.state ≠ 4 ∨ s.upd.trialWritten = true → exec .activateTimeout s = .next s) ∧
    (s.upd.state = 0 → force = true → FlashFree s → .rollbackRecord ∉ s.boot.deferred → ∃ t,
      exec (.updRollback force senses) s = .next t ∧
      (hdrCheck s (flashHeader s (bankBase (targetBank s))) = 0 →
        t.sys.phase = .restarting ∧ t.sys.cause = 2 ∧ t.upd.cmdResult = 0 ∧
        WroteRecord s t (1 - s.boot.fwBank) false false) ∧
      (hdrCheck s (flashHeader s (bankBase (targetBank s))) ≠ 0 → UpdRefused s t 5)) ∧
    (s.upd.state ≠ 0 ∨ force = false → ∃ t,
      exec (.updRollback force senses) s = .next t ∧ UpdRefused s t 1)

/-- CONFIRM under HOST_CONFIRM within the window with the checks holding (outside it, and without HOST_CONFIRM,
it is refused: the model's choice, log 199), and the end of a window without HOST_CONFIRM with the checks
holding, write a CONFIRMED record of the running bank; REJECT, and the end of a window otherwise, write a
REVERTED one of the bank before and restart with CAUSE 2, REJECT also while the CONFIRMED write waits. (A
command with nothing to act on: log 3.) -/
def Obligations.TrialsAreConfirmedOrReverted : Prop :=
  ∀ (s : State) (senses : List Nat), Awake s →
    (s.upd.state = 5 → s.upd.hostConfirm = true → checksHold s = true → s.sys.phase = .run →
      0 < s.upd.confirmLeft → FlashFree s → .confirmedRecord ∉ s.boot.deferred → ∃ t,
      exec (.updConfirm senses) s = .next t ∧ t.upd.state = 0 ∧ t.upd.last = 1 ∧ t.upd.cmdResult = 0 ∧
      t.sys.phase = s.sys.phase ∧ WroteRecord s t (s.boot.fwBank % 2) false false) ∧
    (s.upd.state = 5 → checksHold s = false → ∃ t,
      exec (.updConfirm senses) s = .next t ∧ UpdRefused s t 5) ∧
    (s.upd.state ≠ 5 ∨ (checksHold s = true ∧
        (s.upd.hostConfirm = false ∨ s.sys.phase ≠ .run ∨ s.upd.confirmLeft = 0)) → ∃ t,
      exec (.updConfirm senses) s = .next t ∧ UpdRefused s t 1) ∧
    (s.upd.state = 5 → FlashFree s → ∃ t,
      exec (.updReject senses) s = .next t ∧ t.sys.phase = .restarting ∧ t.sys.cause = 2 ∧
      t.upd.cmdResult = 0 ∧ Risen s t 0x030190 1 ∧ WroteRecord s t (s.boot.prevBank % 2) false true) ∧
    (s.upd.state ≠ 5 → ∃ t,
      exec (.updReject senses) s = .next t ∧ UpdRefused s t 1) ∧
    (s.upd.state = 5 → s.upd.confirming = false → s.upd.confirmLeft = 0 → FlashFree s → ∃ t,
      exec (.confirmWindowEnd senses) s = .next t ∧
      (s.upd.hostConfirm = false → checksHold s = true →
        t.upd.state = 0 ∧ t.sys.phase = s.sys.phase ∧ WroteRecord s t (s.boot.fwBank % 2) false false) ∧
      (s.upd.hostConfirm = true ∨ checksHold s = false → t.sys.phase = .restarting ∧ t.sys.cause = 2 ∧
        Risen s t 0x030190 1 ∧ WroteRecord s t (s.boot.prevBank % 2) false true)) ∧
    (s.upd.state ≠ 5 ∨ s.upd.confirming = true ∨ s.upd.confirmLeft ≠ 0 → exec (.confirmWindowEnd senses) s = .next s)

/-! ## Fuses and debug -/

/-- The expected check of a region is the CRC-32C of its number and its 15 data words, where the lock bits of
regions 40 to 63 in region 0 and words 0 to 2 of region 1 count as 0. The check word is valid where it equals
that, or is 0xFFFFFFFF where the expected check is 0: a write-locked region is then LOCKED and otherwise
INVALID, and an open one with a check word is OPEN or INVALID. -/
def Obligations.CheckWordsCloseTheirRegions : Prop :=
  ∀ (s : State) (r : Nat), r < 64 →
    let lockOfUser := fun w j => ∃ q k c, 40 ≤ q ∧ q < 64 ∧ k < 2 ∧ c < 3 ∧ w = 4 * c + q / 16 ∧ j = 2 * (q % 16) + k
    let exempt := fun w j => (r = 0 ∧ lockOfUser w j) ∨ (r = 1 ∧ w < 3)
    let c := expectedCheck s r
    let chk := (otpWord s r 15).toNat
    let valid := chk = c ∨ (chk = 0xFFFFFFFF ∧ c = 0)
    (∃ bytes : List Byte, bytes.length = 61 ∧ bytes[0]? = some (BitVec.ofNat 8 r) ∧ c = crc32c bytes ∧
      ∀ w j, w < 15 → j < 32 →
        (exempt w j → (bytes[1 + 4 * w + j / 8]?.getD 0).getLsbD (j % 8) = false) ∧
        (¬ exempt w j → (bytes[1 + 4 * w + j / 8]?.getD 0).getLsbD (j % 8) = (otpWord s r w).getLsbD j)) ∧
    (lockWith s [] r 0 = true → (valid → regionState s r = 3) ∧ (¬ valid → regionState s r = 4)) ∧
    (lockWith s [] r 0 = false → chk ≠ 0 → (valid → regionState s r = 2) ∧ (¬ valid → regionState s r = 4))

/-- OTP_PROG_GO starts the pulse of the addressed fuse where nothing refuses it, and otherwise shows the first
reason and is counted; a wrong key is counted. No fuse changes before OTP_PULSE_DONE, which raises the one fuse
to the level reached and shows the result, or ABORTED with VCORE or the source of the pulse as its REASON, where
that supply has left its window; what the array reads as stays until the next start, for which the bits
programmed are noted. (A command with nothing to act on: log 3.) -/
def Obligations.FusesAreProgrammedOneByOne : Prop :=
  ∀ s : State, Answers s →
    (∀ src v env, ∃ t, exec (.otpProgGo src v env) s = .next t ∧ (∀ b, fuseLevel t b = fuseLevel s b) ∧
      let b := s.fc 0x020040 9 6 * 512 + s.fc 0x020040 0 9
      let pump := decide (field v 1 1 = 1)
      let why := progReason s b pump ⟨env.vcoreOk, if pump then env.pumpOk else env.vppOk⟩
      ((field v 0 1 = 0 → t = s) ∧
       (field v 0 1 = 1 → field v 16 16 ≠ 0x0F5E → CountsOnly s t 0x020094 1) ∧
       (field v 0 1 = 1 → field v 16 16 = 0x0F5E →
        (why = 0 → t = { s with otp := { s.otp with
          progBusy := true, progResult := 0, progReason := 0, progBit := b, progPump := pump } }) ∧
        (why ≠ 0 → Risen s t 0x020094 1 ∧ RegsBut [0x020094] s t ∧
          t.otp = { s.otp with progResult := 4, progReason := why })))) ∧
    (∀ lvl, s.otp.progBusy = true → ∃ t, exec (.otpPulseDone (.done lvl)) s = .next t ∧
      t.otp.progBusy = false ∧ fuseLevel t s.otp.progBit = max (fuseLevel s s.otp.progBit) (min 3 lvl) ∧
      (∀ b, b ≠ s.otp.progBit → fuseLevel t b = fuseLevel s b) ∧
      t.otp.data = s.otp.data ∧
      (fuseLevel t s.otp.progBit = 3 → t.otp.progResult = 1 ∧ t.regs = s.regs ∧
        t.otp.since = s.otp.progBit :: s.otp.since) ∧
      (fuseLevel t s.otp.progBit ≠ 3 → Risen s t 0x020098 1 ∧ RegsBut [0x020098] s t ∧
        t.otp.since = s.otp.since ∧
        t.otp.progResult = if fuseLevel t s.otp.progBit = 0 then 3 else 2)) ∧
    (∀ vcore lvl, s.otp.progBusy = true → ∃ t, exec (.otpPulseDone (.aborted vcore lvl)) s = .next t ∧
      t.otp.progBusy = false ∧ t.otp.progResult = 5 ∧
      t.otp.progReason = (if vcore then 5 else if s.otp.progPump then 7 else 6) ∧
      fuseLevel t s.otp.progBit = max (fuseLevel s s.otp.progBit) (min 3 lvl) ∧
      (∀ b, b ≠ s.otp.progBit → fuseLevel t b = fuseLevel s b) ∧ t.regs = s.regs) ∧
    (∀ r, s.otp.progBusy = false → exec (.otpPulseDone r) s = .next s) ∧
    (∀ b pump u, fuseLevel s b ≠ 3 → progReason s b pump u ≠ 8)

/-- DEBUG_REQUEST sets the latch of the next start, unless the supplies hold the device. In the debug wait,
SEC_DBG_GO with a response that holds clears the key store, blows the six fuses of the opening and opens the
part; where PFW_B or a pulse under way forbids the first program, the ROM stops with every fuse as it was, and
the debug port stays as it is; so it does where a supply is lost during a pulse, which is ABORTED. (That fuses
already blown count as programmed, and that a program refused or not ended OK stops the ROM: the model's
reading, log 34.) With a response that does not hold it is, like the timeout of the wait, refused and counted
with every fuse as it was; the start then goes on. DRBG_RESEED after 2^20 requests begins a new count; the third
failure of its health tests in a start sets RNG_FAIL and takes EPOCH from TB. (A command with nothing to act on:
log 3.) -/
def Obligations.DebugOpensOnlyOnAResponse : Prop :=
  ∀ s : State,
    (s.sys.pgoodLow = false → exec .debugRequest s = .next { s with otp := { s.otp with latch := true } }) ∧
    (s.sys.pgoodLow = true → exec .debugRequest s = .next s) ∧
    (∀ env, s.sys.phase = .waitDebug → s.sys.waiting = some env → env.t1Fail = false →
      (∀ b, fuseLevel s b ≤ 3) →
      (∃ t, exec (.secDbgGo (List.replicate 6 ⟨true, true, .done 3⟩)) s = .next t ∧ t.sys.phase ≠ .waitDebug ∧
        (respAccepted s = true → t.otp.keyStore = [] ∧ t.otp.dbgState = 2 ∧
          t.otp.keyOk = false ∧ t.otp.nonceUsed = true) ∧
        (respAccepted s = true → s.otp.progBusy = true ∨ pfwActive s = true →
          (∃ b ∈ openingBits, fuseLevel s b ≠ 3) → (∀ b, fuseLevel t b = fuseLevel s b) ∧
          t.otp.dbgEn = s.otp.dbgEn ∧ Risen s t 0x020094 1) ∧
        (respAccepted s = true → s.otp.progBusy = false → pfwActive s = false →
          (∀ b, b ∈ openingBits → fuseLevel t b = 3) ∧
          (∀ b, b ∉ openingBits → fuseLevel t b = fuseLevel s b) ∧
          t.otp.lifecycle = 2 ∧ t.otp.dbgEn = true) ∧
        (respAccepted s = false → (∀ b, fuseLevel t b = fuseLevel s b) ∧ t.otp.dbgState = 3 ∧
          t.otp.nonceUsed = true ∧ t.otp.lifecycle = s.otp.lifecycle ∧ Risen s t 0x02009C 1)) ∧
      (∀ vcore lvl rest b0 bs, respAccepted s = true → s.otp.progBusy = false → pfwActive s = false →
        openingBits = b0 :: bs → fuseLevel s b0 ≠ 3 → ∃ t,
        exec (.secDbgGo (⟨true, true, .aborted vcore lvl⟩ :: rest)) s = .next t ∧ t.otp.progResult = 5 ∧
        t.otp.progReason = (if vcore then 5 else 7) ∧ t.otp.dbgEn = s.otp.dbgEn ∧
        fuseLevel t b0 = max (fuseLevel s b0) (min 3 lvl) ∧ ∀ b, b ≠ b0 → fuseLevel t b = fuseLevel s b) ∧
      (∃ t, exec .debugWaitTimeout s = .next t ∧ t.sys.phase ≠ .waitDebug ∧
        s.sys.waitAt + 7500000000 ≤ t.time.tb ∧ t.otp.dbgState = 3 ∧
        t.otp.nonceUsed = true ∧ t.otp.lifecycle = s.otp.lifecycle ∧
        (∀ b, fuseLevel t b = fuseLevel s b) ∧ Risen s t 0x02009C 1)) ∧
    (∀ l, s.sys.phase ≠ .waitDebug →
      exec (.secDbgGo l) s = .next s ∧ exec .debugWaitTimeout s = .next s) ∧
    (Awake s → 1048576 ≤ s.otp.drbgRequests →
      exec (.drbgReseed true) s
        = .next { s with otp := { s.otp with drbgRequests := 0, drbgSeeded := true } } ∧
      (s.otp.rngFails ≠ 2 → exec (.drbgReseed false) s
        = .next { s with otp := { s.otp with rngFails := s.otp.rngFails + 1 } }) ∧
      (s.otp.rngFails = 2 → ∃ t, exec (.drbgReseed false) s = .next t ∧
        t.otp = { s.otp with rngFail := true, rngFails := 3 } ∧
        t.cur 0x108008 = BitVec.ofNat 32 (1 + s.time.tb % 65535) ∧
        RegsBut (0x108008 :: logRegisters) s t ∧ LogsOne s t 0x0401 2 0x020000 1 0)) ∧
    (Awake s → s.otp.drbgRequests < 1048576 → ∀ h, exec (.drbgReseed h) s = .next s)

/-! ## Reset -/

/-- The machine right after reset: every register holds the reset value of its row in the map, no value is
committed, the device is held with PGOOD low (log 7), no tick is open, no fuse is blown (log 11), the flash
lists nothing (log 10), and no command waits. -/
def Obligations.ResetHoldsTheMapsValues : Prop :=
  (∀ a, State.reset.cur a = resetWord a ∧ State.reset.act a = resetWord a) ∧
    State.reset.sys.phase = .held ∧ State.reset.sys.pgoodLow = true ∧ State.reset.time.tickOpen = false ∧
    State.reset.time.tb = 0 ∧ (∀ b, fuseLevel State.reset b = 0) ∧
    (∀ a, flashByte State.reset a = 0xFF) ∧ Memory.wf State.reset.boot.flash = true ∧
    FuseInv State.reset ∧ State.reset.pending = []

/-! ## Statements of several parts -/

/-- A register write acts by access code and effect class; those that act on a write do what their commands do. -/
def Obligations.RegisterWritesAct : Prop :=
  RegisterWriteActsByClass ∧ RegisterWritesAreTheirCommands

/-- Irregular bus events and a stretch that reaches its limit are counted and apply nothing. -/
def Obligations.BusFaultsAreCounted : Prop :=
  BusErrorsAreCounted ∧ StretchTimeoutAppliesNothing

/-- A due Bark is sent, retried up to eight times, and cleared by a written 1. -/
def Obligations.BarksAreSentRetriedAndCleared : Prop :=
  BarkSendsTheDueCode ∧ BarkRetriesEightTimes ∧ BarkPendWriteClearsItsCodes

/-- A bracket opens, closes, aborts, and is ended by its limit. -/
def Obligations.BracketsStageAndEnd : Prop :=
  BracketsOpenCloseAndAbort ∧ BracketMaxEndsTheBracket

/-- An exposure starts at its boundary, and a transfer fills an empty node only; a gated exposure follows TRIG1, and
without a level no pulse is made. -/
def Obligations.ExposuresFillTheirNodes : Prop :=
  ExposureStartsAtItsBoundary ∧ TransferFillsOnlyAnEmptyNode ∧ GatedExposureFollowsTheLevel ∧
    GatedTransferWithoutLevelMakesNoPulse

/-- Timecode words and genlock pulses are kept or counted, and without pulses the period is held. -/
def Obligations.ReferencesAreQualifiedOrHeld : Prop :=
  TimecodeWordIsKeptOrCounted ∧ GenlockPulseIsQualified ∧ GenlockHoldoverHoldsThePeriod

/-- A general timer fires at its compare, and a write arms it. -/
def Obligations.TimersFireAndAreArmed : Prop :=
  TimerFiresAndRearms ∧ TimerWritesArmTheTimer

/-- A loop declares lock, or does not lock in time. -/
def Obligations.LoopsLockOrTimeOut : Prop :=
  LoopsDeclareLock ∧ LoopsThatDoNotLock

/-- Loss of lock holds over or lowers the tier, and loss of REFCLK restarts. -/
def Obligations.LoopsAndReferenceAreLost : Prop :=
  LoopsLoseLock ∧ ReferenceLossCallsARestart

/-- The input of PLL-G is lost and returns, and writes of its registers restart its acquisition. -/
def Obligations.JitterCleanerIsControlled : Prop :=
  CleanInputIsLostAndReturns ∧ PllWritesRestartAcquisition

/-- External outputs start, wait, stop, and are aligned by SYNC. -/
def Obligations.OutputsStartAlignAndStop : Prop :=
  OutputsStartAndStop ∧ SyncEdgeAlignsSelectedOutputs

/-- A complete bank goes to a run of exposure control, which works in the Shepherd bracket, and AE_CTRL ends it. -/
def Obligations.AutoExposureRunsInItsBracket : Prop :=
  StatsCompleteHandsTheBankOver ∧ AeRunWorksInTheShepherdBracket ∧ AeControlEndsTheRun

/-- The readout takes its slots in order, gives codes and lines, and ends, and the offset table is refreshed. -/
def Obligations.ReadoutTakesItsSlotsAndEnds : Prop :=
  RowSlotTakesTheNextSlot ∧ ForcedLatchesGiveTheirCodes ∧ RowsLeaveWithTheirLastSlot ∧
    ReadoutEndsAndOffsetsRefresh

/-- A start goes through to the wait for the first edge, or waits for REFCLK, or leaves the device held in reset. -/
def Obligations.StartGoesThroughOrWaits : Prop :=
  StartReachesTheFirstEdge ∧ StartWaitsForRefclk

/-- Ready rows enter the current pyramid, and a probe of them pairs LOST subjects only. -/
def Obligations.PyramidsFeedTheScentProbe : Prop :=
  PyramidReadyBuildsItsRows ∧ ScentProbePairsOnlyLostSubjects

/-- The known-answer job starts the matching of a tick, and the cut-off ends it. -/
def Obligations.MatchingStartsAndEndsOnce : Prop :=
  KnownAnswerRetiresTheWrongLane ∧ CutoffEndsMatching

/-- Bookkeeping moves every track on, and the solve point closes the Collar. -/
def Obligations.TracksAreBookedAndSolved : Prop :=
  BookkeepingMovesEveryTrack ∧ SolvePointClosesTheCollar

/-- Ports park, overrides end, and at the deadline the port buffers are final. -/
def Obligations.HeelParksAndMeetsItsDeadline : Prop :=
  PortsParkAndOverridesEnd ∧ DeadlineMakesTheBuffersFinal

/-- A latch sends one frame, or in a refresh tick one DMX512-A packet. -/
def Obligations.LatchesSendTheirFrames : Prop :=
  LatchSendsOneFrame ∧ DmxLatchSendsOnePacket

/-- A link sends the next packet of the strict order. -/
def Obligations.TransmittersKeepTheOrder : Prop :=
  TransmitterSendsTheNextPacket ∧ NewPacketsGoInStrictOrder

/-- A partner that does not answer is lost, and its acknowledgement ends the loss. -/
def Obligations.PartnersAnswerOrAreLost : Prop :=
  PartnerIsLostAfterLossTicks ∧ AckReleasesAndFeedsBack

/-- Auxiliary ports start and stop, and their faults are counted. -/
def Obligations.AuxPortsWorkAndFail : Prop :=
  AuxPortsStartAndStop ∧ AuxFaultsAreCounted

/-- Auxiliary frames open and close, and their lines enter the FIFO. -/
def Obligations.AuxFramesTakeTheirLines : Prop :=
  AuxFramesOpenAndClose ∧ AuxLinesEnterTheFifo

/-- Register and bulk requests read, write and answer. -/
def Obligations.RegisterAndBulkRequestsAnswer : Prop :=
  RegisterRequestsReadAndWrite ∧ BulkRequestsReadAndWrite

/-- The blocks of a session are programmed, from Neleklink and from the management bus. -/
def Obligations.UpdateBlocksAreProgrammed : Prop :=
  UpdateBlockIsProgrammed ∧ MailboxBlocksAreProgrammed

/-- Acknowledgements release or resend, and credits stall or free a class. -/
def Obligations.AcksAndCreditsSteerTheLink : Prop :=
  AcksReleaseAndNaksResend ∧ CreditsStallAndReturn

/-- A link leaves UP to train, and its time-outs take it on. -/
def Obligations.LinksRetrainAndTimeOut : Prop :=
  LinksLeaveUpToTrain ∧ LinksTimeOut

/-- In a run the tier can only fall; faults and heat lower it and restart the device. -/
def Obligations.FaultsAndHeatLowerTheTier : Prop :=
  TierOnlyFallsInARun ∧ FaultsLowerTheTierAndRestart ∧ HeatTripsAndRecovers

/-- Events enter the log, which is archived in flash; the hold-up check and PFW_B stop flash commands. -/
def Obligations.LogAndPowerWarningRuleTheFlash : Prop :=
  EventsEnterTheLog ∧ LogIsArchived ∧ EnergyCheckGatesFlash ∧ PowerFailWarningStopsFlash
end

