-- ==== Sys2Proof/Laws/Map.lean ====
section
/-!
SUPPORT. Laws of the sparse maps and of the register sets: what a lookup answers after a change, and
that every operation keeps the canonical form.
-/

namespace Sys2Proof.Laws

open Sys2Proof.Machine

theorem look_put_same {α : Type} (m : SMap α) (i : Nat) (v : α) : look (put m i v) i = some v := by
  induction m with
  | nil => simp [put, look]
  | cons p t ih =>
    obtain ⟨k, w⟩ := p
    simp only [put]
    split
    · simp [look]
    · split
      · simp [look]
      · rename_i h1 h2
        have : k ≠ i := fun h => h2 h.symm
        simp [look, this, ih]

theorem look_put_other {α : Type} (m : SMap α) (i j : Nat) (v : α) (h : j ≠ i) :
    look (put m i v) j = look m j := by
  induction m with
  | nil => simp [put, look, h.symm]
  | cons p t ih =>
    obtain ⟨k, w⟩ := p
    simp only [put]
    split
    · simp [look, h.symm]
    · split
      · rename_i h1 h2
        simp [look, ← h2, h.symm]
      · simp only [look, ih]

theorem look_unput_same {α : Type} (m : SMap α) (i : Nat) : look (unput m i) i = none := by
  induction m with
  | nil => rfl
  | cons p t ih =>
    obtain ⟨k, w⟩ := p
    by_cases h : k = i
    · simpa [unput, List.filter_cons, h] using ih
    · simp only [unput, List.filter_cons, ne_eq, h, not_false_eq_true, decide_true, if_true, look,
        if_false]
      simpa [unput] using ih

theorem look_unput_other {α : Type} (m : SMap α) (i j : Nat) (h : j ≠ i) :
    look (unput m i) j = look m j := by
  induction m with
  | nil => rfl
  | cons p t ih =>
    obtain ⟨k, w⟩ := p
    have hc : unput ((k, w) :: t) i = if k = i then unput t i else (k, w) :: unput t i := by
      by_cases hk : k = i <;> simp [unput, hk]
    rw [hc]
    by_cases hk : k = i
    · have : ¬ i = j := fun e => h e.symm
      simp [hk, look, this, ih]
    · simp [hk, look, ih]

/-- Reading the index that was written gives the value. -/
@[simp] theorem mget_mput_same {α : Type} [DecidableEq α] (d : α) (m : SMap α) (i : Nat) (v : α) :
    mget d (mput d m i v) i = v := by
  unfold mget mput
  split
  · rename_i h
    simp [look_unput_same, h]
  · simp [look_put_same]

/-- Reading any other index gives what it gave before. -/
theorem mget_mput_other {α : Type} [DecidableEq α] (d : α) (m : SMap α) (i j : Nat) (v : α)
    (h : j ≠ i) : mget d (mput d m i v) j = mget d m j := by
  unfold mget mput
  split
  · rw [look_unput_other m i j h]
  · rw [look_put_other m i j v h]

/-- Reading the register that was written gives the word. -/
@[simp] theorem rget_rput_same (m : SMap Word) (a : Nat) (w : Word) : rget (rput m a w) a = w := by
  unfold rget rput
  split
  · rename_i h
    simp [look_unput_same, h]
  · simp [look_put_same]

/-- Reading any other register gives what it gave before. -/
theorem rget_rput_other (m : SMap Word) (a b : Nat) (w : Word) (h : b ≠ a) :
    rget (rput m a w) b = rget m b := by
  unfold rget rput
  split
  · rw [look_unput_other m a b h]
  · rw [look_put_other m a b w h]

theorem mem_put {α : Type} (m : SMap α) (i : Nat) (v : α) (p : Nat × α) (h : p ∈ put m i v) :
    p = (i, v) ∨ p ∈ m := by
  induction m with
  | nil => simpa [put] using h
  | cons q t ih =>
    obtain ⟨k, w⟩ := q
    simp only [put] at h
    split at h
    · simpa using h
    · split at h
      · rcases List.mem_cons.1 h with h | h
        · exact .inl h
        · exact .inr (List.mem_cons_of_mem _ h)
      · rcases List.mem_cons.1 h with h | h
        · exact .inr (by simp [h])
        · rcases ih h with h | h
          · exact .inl h
          · exact .inr (List.mem_cons_of_mem _ h)

/-- Listing a value keeps the indexes strictly rising. -/
theorem pairwise_put {α : Type} (m : SMap α) (i : Nat) (v : α)
    (h : m.Pairwise (fun p q => p.1 < q.1)) : (put m i v).Pairwise (fun p q => p.1 < q.1) := by
  induction m with
  | nil => simp [put]
  | cons q t ih =>
    obtain ⟨k, w⟩ := q
    have ht := (List.pairwise_cons.1 h).2
    have hk := (List.pairwise_cons.1 h).1
    simp only [put]
    split
    · rename_i hi
      refine List.pairwise_cons.2 ⟨fun p hp => ?_, h⟩
      rcases List.mem_cons.1 hp with hp | hp
      · simp [hp, hi]
      · exact Nat.lt_trans hi (hk p hp)
    · split
      · rename_i hi
        subst hi
        exact List.pairwise_cons.2 ⟨fun p hp => hk p hp, ht⟩
      · rename_i h1 h2
        refine List.pairwise_cons.2 ⟨fun p hp => ?_, ih ht⟩
        rcases mem_put t i v p hp with hp | hp
        · simp only [hp]
          omega
        · exact hk p hp

/-- Listing a value other than the default keeps the canonical form. -/
theorem wf_put {α : Type} [DecidableEq α] (d : Nat → α) (m : SMap α) (i : Nat) (v : α)
    (hv : v ≠ d i) (h : SMap.wf d m = true) : SMap.wf d (put m i v) = true := by
  simp only [SMap.wf, Bool.and_eq_true, decide_eq_true_eq, List.all_eq_true] at h ⊢
  refine ⟨pairwise_put m i v h.1, fun p hp => ?_⟩
  rcases mem_put m i v p hp with hp | hp
  · simpa [hp] using hv
  · exact h.2 p hp

/-- Removing an entry keeps the canonical form. -/
theorem wf_unput {α : Type} [DecidableEq α] (d : Nat → α) (m : SMap α) (i : Nat)
    (h : SMap.wf d m = true) : SMap.wf d (unput m i) = true := by
  simp only [SMap.wf, Bool.and_eq_true, decide_eq_true_eq, List.all_eq_true] at h ⊢
  refine ⟨h.1.sublist List.filter_sublist, fun p hp => h.2 p ?_⟩
  exact (List.mem_filter.1 hp).1

/-- Removing many entries keeps the canonical form. -/
theorem wf_filter {α : Type} [DecidableEq α] (d : Nat → α) (m : SMap α) (f : Nat × α → Bool)
    (h : SMap.wf d m = true) : SMap.wf d (m.filter f) = true := by
  simp only [SMap.wf, Bool.and_eq_true, decide_eq_true_eq, List.all_eq_true] at h ⊢
  exact ⟨h.1.sublist List.filter_sublist, fun p hp => h.2 p ((List.mem_filter.1 hp).1)⟩

/-- A map write keeps the canonical form. -/
theorem wf_mput {α : Type} [DecidableEq α] (d : α) (m : SMap α) (i : Nat) (v : α)
    (h : SMap.wf (fun _ => d) m = true) : SMap.wf (fun _ => d) (mput d m i v) = true := by
  unfold mput
  split
  · exact wf_unput _ m i h
  · exact wf_put _ m i v (by assumption) h

/-- A register write keeps the canonical form. -/
theorem wf_rput (m : SMap Word) (a : Nat) (w : Word) (h : SMap.wf resetWord m = true) :
    SMap.wf resetWord (rput m a w) = true := by
  unfold rput
  split
  · exact wf_unput _ m a h
  · exact wf_put _ m a w (by assumption) h

end Sys2Proof.Laws
end

