-- ==== Sys2Proof/Laws/State.lean ====
section
/-!
SUPPORT. What each named update of the state leaves as it was, field by field, and what it makes of the
field that it writes.
-/

namespace Sys2Proof.Laws

open Sys2Proof.Machine

variable (s : State)

@[simp] theorem setReg_ken (a : Nat) (w : Word) : (setReg s a w).ken = s.ken := rfl
@[simp] theorem setReg_ptr (a : Nat) (w : Word) : (setReg s a w).ptr = s.ptr := rfl
@[simp] theorem setReg_sct (a : Nat) (w : Word) : (setReg s a w).sct = s.sct := rfl
@[simp] theorem setReg_heel (a : Nat) (w : Word) : (setReg s a w).heel = s.heel := rfl
@[simp] theorem setReg_lsh (a : Nat) (w : Word) : (setReg s a w).lsh = s.lsh := rfl
@[simp] theorem setReg_time (a : Nat) (w : Word) : (setReg s a w).time = s.time := rfl
@[simp] theorem setReg_clk (a : Nat) (w : Word) : (setReg s a w).clk = s.clk := rfl
@[simp] theorem setReg_sys (a : Nat) (w : Word) : (setReg s a w).sys = s.sys := rfl
@[simp] theorem setReg_log (a : Nat) (w : Word) : (setReg s a w).log = s.log := rfl
@[simp] theorem setReg_boot (a : Nat) (w : Word) : (setReg s a w).boot = s.boot := rfl
@[simp] theorem setReg_upd (a : Nat) (w : Word) : (setReg s a w).upd = s.upd := rfl
@[simp] theorem setReg_otp (a : Nat) (w : Word) : (setReg s a w).otp = s.otp := rfl
@[simp] theorem setReg_mgb (a : Nat) (w : Word) : (setReg s a w).mgb = s.mgb := rfl
@[simp] theorem setReg_nlk (a : Nat) (w : Word) : (setReg s a w).nlk = s.nlk := rfl
@[simp] theorem setReg_img (a : Nat) (w : Word) : (setReg s a w).img = s.img := rfl
@[simp] theorem setReg_cnv (a : Nat) (w : Word) : (setReg s a w).cnv = s.cnv := rfl
@[simp] theorem setReg_stat (a : Nat) (w : Word) : (setReg s a w).stat = s.stat := rfl
@[simp] theorem setReg_aux (a : Nat) (w : Word) : (setReg s a w).aux = s.aux := rfl
@[simp] theorem setReg_ae (a : Nat) (w : Word) : (setReg s a w).ae = s.ae := rfl
@[simp] theorem setReg_freeCtr (a : Nat) (w : Word) : (setReg s a w).freeCtr = s.freeCtr := rfl
@[simp] theorem setReg_pending (a : Nat) (w : Word) : (setReg s a w).pending = s.pending := rfl

@[simp] theorem setRegN_ken (a v : Nat) : (setRegN s a v).ken = s.ken := rfl
@[simp] theorem setRegN_ptr (a v : Nat) : (setRegN s a v).ptr = s.ptr := rfl
@[simp] theorem setRegN_sct (a v : Nat) : (setRegN s a v).sct = s.sct := rfl
@[simp] theorem setRegN_heel (a v : Nat) : (setRegN s a v).heel = s.heel := rfl
@[simp] theorem setRegN_lsh (a v : Nat) : (setRegN s a v).lsh = s.lsh := rfl
@[simp] theorem setRegN_time (a v : Nat) : (setRegN s a v).time = s.time := rfl
@[simp] theorem setRegN_clk (a v : Nat) : (setRegN s a v).clk = s.clk := rfl
@[simp] theorem setRegN_sys (a v : Nat) : (setRegN s a v).sys = s.sys := rfl
@[simp] theorem setRegN_log (a v : Nat) : (setRegN s a v).log = s.log := rfl
@[simp] theorem setRegN_boot (a v : Nat) : (setRegN s a v).boot = s.boot := rfl
@[simp] theorem setRegN_upd (a v : Nat) : (setRegN s a v).upd = s.upd := rfl
@[simp] theorem setRegN_otp (a v : Nat) : (setRegN s a v).otp = s.otp := rfl
@[simp] theorem setRegN_mgb (a v : Nat) : (setRegN s a v).mgb = s.mgb := rfl
@[simp] theorem setRegN_nlk (a v : Nat) : (setRegN s a v).nlk = s.nlk := rfl
@[simp] theorem setRegN_img (a v : Nat) : (setRegN s a v).img = s.img := rfl
@[simp] theorem setRegN_cnv (a v : Nat) : (setRegN s a v).cnv = s.cnv := rfl
@[simp] theorem setRegN_stat (a v : Nat) : (setRegN s a v).stat = s.stat := rfl
@[simp] theorem setRegN_aux (a v : Nat) : (setRegN s a v).aux = s.aux := rfl
@[simp] theorem setRegN_ae (a v : Nat) : (setRegN s a v).ae = s.ae := rfl
@[simp] theorem setRegN_freeCtr (a v : Nat) : (setRegN s a v).freeCtr = s.freeCtr := rfl
@[simp] theorem setRegN_pending (a v : Nat) : (setRegN s a v).pending = s.pending := rfl

@[simp] theorem setFld_ken (a lo n v : Nat) : (setFld s a lo n v).ken = s.ken := rfl
@[simp] theorem setFld_ptr (a lo n v : Nat) : (setFld s a lo n v).ptr = s.ptr := rfl
@[simp] theorem setFld_sct (a lo n v : Nat) : (setFld s a lo n v).sct = s.sct := rfl
@[simp] theorem setFld_heel (a lo n v : Nat) : (setFld s a lo n v).heel = s.heel := rfl
@[simp] theorem setFld_lsh (a lo n v : Nat) : (setFld s a lo n v).lsh = s.lsh := rfl
@[simp] theorem setFld_time (a lo n v : Nat) : (setFld s a lo n v).time = s.time := rfl
@[simp] theorem setFld_clk (a lo n v : Nat) : (setFld s a lo n v).clk = s.clk := rfl
@[simp] theorem setFld_sys (a lo n v : Nat) : (setFld s a lo n v).sys = s.sys := rfl
@[simp] theorem setFld_log (a lo n v : Nat) : (setFld s a lo n v).log = s.log := rfl
@[simp] theorem setFld_boot (a lo n v : Nat) : (setFld s a lo n v).boot = s.boot := rfl
@[simp] theorem setFld_upd (a lo n v : Nat) : (setFld s a lo n v).upd = s.upd := rfl
@[simp] theorem setFld_otp (a lo n v : Nat) : (setFld s a lo n v).otp = s.otp := rfl
@[simp] theorem setFld_mgb (a lo n v : Nat) : (setFld s a lo n v).mgb = s.mgb := rfl
@[simp] theorem setFld_nlk (a lo n v : Nat) : (setFld s a lo n v).nlk = s.nlk := rfl
@[simp] theorem setFld_img (a lo n v : Nat) : (setFld s a lo n v).img = s.img := rfl
@[simp] theorem setFld_cnv (a lo n v : Nat) : (setFld s a lo n v).cnv = s.cnv := rfl
@[simp] theorem setFld_stat (a lo n v : Nat) : (setFld s a lo n v).stat = s.stat := rfl
@[simp] theorem setFld_aux (a lo n v : Nat) : (setFld s a lo n v).aux = s.aux := rfl
@[simp] theorem setFld_ae (a lo n v : Nat) : (setFld s a lo n v).ae = s.ae := rfl
@[simp] theorem setFld_freeCtr (a lo n v : Nat) : (setFld s a lo n v).freeCtr = s.freeCtr := rfl
@[simp] theorem setFld_pending (a lo n v : Nat) : (setFld s a lo n v).pending = s.pending := rfl

@[simp] theorem bumpBy_ken (a n : Nat) : (bumpBy s a n).ken = s.ken := rfl
@[simp] theorem bumpBy_ptr (a n : Nat) : (bumpBy s a n).ptr = s.ptr := rfl
@[simp] theorem bumpBy_sct (a n : Nat) : (bumpBy s a n).sct = s.sct := rfl
@[simp] theorem bumpBy_heel (a n : Nat) : (bumpBy s a n).heel = s.heel := rfl
@[simp] theorem bumpBy_lsh (a n : Nat) : (bumpBy s a n).lsh = s.lsh := rfl
@[simp] theorem bumpBy_time (a n : Nat) : (bumpBy s a n).time = s.time := rfl
@[simp] theorem bumpBy_clk (a n : Nat) : (bumpBy s a n).clk = s.clk := rfl
@[simp] theorem bumpBy_sys (a n : Nat) : (bumpBy s a n).sys = s.sys := rfl
@[simp] theorem bumpBy_log (a n : Nat) : (bumpBy s a n).log = s.log := rfl
@[simp] theorem bumpBy_boot (a n : Nat) : (bumpBy s a n).boot = s.boot := rfl
@[simp] theorem bumpBy_upd (a n : Nat) : (bumpBy s a n).upd = s.upd := rfl
@[simp] theorem bumpBy_otp (a n : Nat) : (bumpBy s a n).otp = s.otp := rfl
@[simp] theorem bumpBy_mgb (a n : Nat) : (bumpBy s a n).mgb = s.mgb := rfl
@[simp] theorem bumpBy_nlk (a n : Nat) : (bumpBy s a n).nlk = s.nlk := rfl
@[simp] theorem bumpBy_img (a n : Nat) : (bumpBy s a n).img = s.img := rfl
@[simp] theorem bumpBy_cnv (a n : Nat) : (bumpBy s a n).cnv = s.cnv := rfl
@[simp] theorem bumpBy_stat (a n : Nat) : (bumpBy s a n).stat = s.stat := rfl
@[simp] theorem bumpBy_aux (a n : Nat) : (bumpBy s a n).aux = s.aux := rfl
@[simp] theorem bumpBy_ae (a n : Nat) : (bumpBy s a n).ae = s.ae := rfl
@[simp] theorem bumpBy_freeCtr (a n : Nat) : (bumpBy s a n).freeCtr = s.freeCtr := rfl
@[simp] theorem bumpBy_pending (a n : Nat) : (bumpBy s a n).pending = s.pending := rfl

@[simp] theorem bump_ken (a : Nat) : (bump s a).ken = s.ken := rfl
@[simp] theorem bump_ptr (a : Nat) : (bump s a).ptr = s.ptr := rfl
@[simp] theorem bump_sct (a : Nat) : (bump s a).sct = s.sct := rfl
@[simp] theorem bump_heel (a : Nat) : (bump s a).heel = s.heel := rfl
@[simp] theorem bump_lsh (a : Nat) : (bump s a).lsh = s.lsh := rfl
@[simp] theorem bump_time (a : Nat) : (bump s a).time = s.time := rfl
@[simp] theorem bump_clk (a : Nat) : (bump s a).clk = s.clk := rfl
@[simp] theorem bump_sys (a : Nat) : (bump s a).sys = s.sys := rfl
@[simp] theorem bump_log (a : Nat) : (bump s a).log = s.log := rfl
@[simp] theorem bump_boot (a : Nat) : (bump s a).boot = s.boot := rfl
@[simp] theorem bump_upd (a : Nat) : (bump s a).upd = s.upd := rfl
@[simp] theorem bump_otp (a : Nat) : (bump s a).otp = s.otp := rfl
@[simp] theorem bump_mgb (a : Nat) : (bump s a).mgb = s.mgb := rfl
@[simp] theorem bump_nlk (a : Nat) : (bump s a).nlk = s.nlk := rfl
@[simp] theorem bump_img (a : Nat) : (bump s a).img = s.img := rfl
@[simp] theorem bump_cnv (a : Nat) : (bump s a).cnv = s.cnv := rfl
@[simp] theorem bump_stat (a : Nat) : (bump s a).stat = s.stat := rfl
@[simp] theorem bump_aux (a : Nat) : (bump s a).aux = s.aux := rfl
@[simp] theorem bump_ae (a : Nat) : (bump s a).ae = s.ae := rfl
@[simp] theorem bump_freeCtr (a : Nat) : (bump s a).freeCtr = s.freeCtr := rfl
@[simp] theorem bump_pending (a : Nat) : (bump s a).pending = s.pending := rfl

@[simp] theorem reach_ken (t : Nat) : (reach s t).ken = s.ken := rfl
@[simp] theorem reach_ptr (t : Nat) : (reach s t).ptr = s.ptr := rfl
@[simp] theorem reach_sct (t : Nat) : (reach s t).sct = s.sct := rfl
@[simp] theorem reach_heel (t : Nat) : (reach s t).heel = s.heel := rfl
@[simp] theorem reach_lsh (t : Nat) : (reach s t).lsh = s.lsh := rfl
@[simp] theorem reach_regs (t : Nat) : (reach s t).regs = s.regs := rfl
@[simp] theorem reach_clk (t : Nat) : (reach s t).clk = s.clk := rfl
@[simp] theorem reach_sys (t : Nat) : (reach s t).sys = s.sys := rfl
@[simp] theorem reach_log (t : Nat) : (reach s t).log = s.log := rfl
@[simp] theorem reach_boot (t : Nat) : (reach s t).boot = s.boot := rfl
@[simp] theorem reach_upd (t : Nat) : (reach s t).upd = s.upd := rfl
@[simp] theorem reach_otp (t : Nat) : (reach s t).otp = s.otp := rfl
@[simp] theorem reach_mgb (t : Nat) : (reach s t).mgb = s.mgb := rfl
@[simp] theorem reach_nlk (t : Nat) : (reach s t).nlk = s.nlk := rfl
@[simp] theorem reach_img (t : Nat) : (reach s t).img = s.img := rfl
@[simp] theorem reach_cnv (t : Nat) : (reach s t).cnv = s.cnv := rfl
@[simp] theorem reach_stat (t : Nat) : (reach s t).stat = s.stat := rfl
@[simp] theorem reach_aux (t : Nat) : (reach s t).aux = s.aux := rfl
@[simp] theorem reach_ae (t : Nat) : (reach s t).ae = s.ae := rfl
@[simp] theorem reach_freeCtr (t : Nat) : (reach s t).freeCtr = s.freeCtr := rfl
@[simp] theorem reach_pending (t : Nat) : (reach s t).pending = s.pending := rfl

@[simp] theorem withQueue_ken (q : List Instr) : (s.withQueue q).ken = s.ken := rfl
@[simp] theorem withQueue_ptr (q : List Instr) : (s.withQueue q).ptr = s.ptr := rfl
@[simp] theorem withQueue_sct (q : List Instr) : (s.withQueue q).sct = s.sct := rfl
@[simp] theorem withQueue_heel (q : List Instr) : (s.withQueue q).heel = s.heel := rfl
@[simp] theorem withQueue_lsh (q : List Instr) : (s.withQueue q).lsh = s.lsh := rfl
@[simp] theorem withQueue_regs (q : List Instr) : (s.withQueue q).regs = s.regs := rfl
@[simp] theorem withQueue_time (q : List Instr) : (s.withQueue q).time = s.time := rfl
@[simp] theorem withQueue_clk (q : List Instr) : (s.withQueue q).clk = s.clk := rfl
@[simp] theorem withQueue_sys (q : List Instr) : (s.withQueue q).sys = s.sys := rfl
@[simp] theorem withQueue_log (q : List Instr) : (s.withQueue q).log = s.log := rfl
@[simp] theorem withQueue_boot (q : List Instr) : (s.withQueue q).boot = s.boot := rfl
@[simp] theorem withQueue_upd (q : List Instr) : (s.withQueue q).upd = s.upd := rfl
@[simp] theorem withQueue_otp (q : List Instr) : (s.withQueue q).otp = s.otp := rfl
@[simp] theorem withQueue_mgb (q : List Instr) : (s.withQueue q).mgb = s.mgb := rfl
@[simp] theorem withQueue_nlk (q : List Instr) : (s.withQueue q).nlk = s.nlk := rfl
@[simp] theorem withQueue_img (q : List Instr) : (s.withQueue q).img = s.img := rfl
@[simp] theorem withQueue_cnv (q : List Instr) : (s.withQueue q).cnv = s.cnv := rfl
@[simp] theorem withQueue_stat (q : List Instr) : (s.withQueue q).stat = s.stat := rfl
@[simp] theorem withQueue_aux (q : List Instr) : (s.withQueue q).aux = s.aux := rfl
@[simp] theorem withQueue_ae (q : List Instr) : (s.withQueue q).ae = s.ae := rfl
@[simp] theorem withQueue_freeCtr (q : List Instr) : (s.withQueue q).freeCtr = s.freeCtr := rfl

@[simp] theorem setLink_ken (l : Nat) (x : Link) : (setLink s l x).ken = s.ken := rfl
@[simp] theorem setLink_ptr (l : Nat) (x : Link) : (setLink s l x).ptr = s.ptr := rfl
@[simp] theorem setLink_sct (l : Nat) (x : Link) : (setLink s l x).sct = s.sct := rfl
@[simp] theorem setLink_heel (l : Nat) (x : Link) : (setLink s l x).heel = s.heel := rfl
@[simp] theorem setLink_lsh (l : Nat) (x : Link) : (setLink s l x).lsh = s.lsh := rfl
@[simp] theorem setLink_regs (l : Nat) (x : Link) : (setLink s l x).regs = s.regs := rfl
@[simp] theorem setLink_time (l : Nat) (x : Link) : (setLink s l x).time = s.time := rfl
@[simp] theorem setLink_clk (l : Nat) (x : Link) : (setLink s l x).clk = s.clk := rfl
@[simp] theorem setLink_sys (l : Nat) (x : Link) : (setLink s l x).sys = s.sys := rfl
@[simp] theorem setLink_log (l : Nat) (x : Link) : (setLink s l x).log = s.log := rfl
@[simp] theorem setLink_boot (l : Nat) (x : Link) : (setLink s l x).boot = s.boot := rfl
@[simp] theorem setLink_upd (l : Nat) (x : Link) : (setLink s l x).upd = s.upd := rfl
@[simp] theorem setLink_otp (l : Nat) (x : Link) : (setLink s l x).otp = s.otp := rfl
@[simp] theorem setLink_mgb (l : Nat) (x : Link) : (setLink s l x).mgb = s.mgb := rfl
@[simp] theorem setLink_img (l : Nat) (x : Link) : (setLink s l x).img = s.img := rfl
@[simp] theorem setLink_cnv (l : Nat) (x : Link) : (setLink s l x).cnv = s.cnv := rfl
@[simp] theorem setLink_stat (l : Nat) (x : Link) : (setLink s l x).stat = s.stat := rfl
@[simp] theorem setLink_aux (l : Nat) (x : Link) : (setLink s l x).aux = s.aux := rfl
@[simp] theorem setLink_ae (l : Nat) (x : Link) : (setLink s l x).ae = s.ae := rfl
@[simp] theorem setLink_freeCtr (l : Nat) (x : Link) : (setLink s l x).freeCtr = s.freeCtr := rfl
@[simp] theorem setLink_pending (l : Nat) (x : Link) : (setLink s l x).pending = s.pending := rfl

@[simp] theorem setStreamFrame_ken (i : Nat) (f : StreamFrame) : (setStreamFrame s i f).ken = s.ken := rfl
@[simp] theorem setStreamFrame_ptr (i : Nat) (f : StreamFrame) : (setStreamFrame s i f).ptr = s.ptr := rfl
@[simp] theorem setStreamFrame_sct (i : Nat) (f : StreamFrame) : (setStreamFrame s i f).sct = s.sct := rfl
@[simp] theorem setStreamFrame_heel (i : Nat) (f : StreamFrame) : (setStreamFrame s i f).heel = s.heel := rfl
@[simp] theorem setStreamFrame_lsh (i : Nat) (f : StreamFrame) : (setStreamFrame s i f).lsh = s.lsh := rfl
@[simp] theorem setStreamFrame_regs (i : Nat) (f : StreamFrame) : (setStreamFrame s i f).regs = s.regs := rfl
@[simp] theorem setStreamFrame_time (i : Nat) (f : StreamFrame) : (setStreamFrame s i f).time = s.time := rfl
@[simp] theorem setStreamFrame_clk (i : Nat) (f : StreamFrame) : (setStreamFrame s i f).clk = s.clk := rfl
@[simp] theorem setStreamFrame_sys (i : Nat) (f : StreamFrame) : (setStreamFrame s i f).sys = s.sys := rfl
@[simp] theorem setStreamFrame_log (i : Nat) (f : StreamFrame) : (setStreamFrame s i f).log = s.log := rfl
@[simp] theorem setStreamFrame_boot (i : Nat) (f : StreamFrame) : (setStreamFrame s i f).boot = s.boot := rfl
@[simp] theorem setStreamFrame_upd (i : Nat) (f : StreamFrame) : (setStreamFrame s i f).upd = s.upd := rfl
@[simp] theorem setStreamFrame_otp (i : Nat) (f : StreamFrame) : (setStreamFrame s i f).otp = s.otp := rfl
@[simp] theorem setStreamFrame_mgb (i : Nat) (f : StreamFrame) : (setStreamFrame s i f).mgb = s.mgb := rfl
@[simp] theorem setStreamFrame_img (i : Nat) (f : StreamFrame) : (setStreamFrame s i f).img = s.img := rfl
@[simp] theorem setStreamFrame_cnv (i : Nat) (f : StreamFrame) : (setStreamFrame s i f).cnv = s.cnv := rfl
@[simp] theorem setStreamFrame_stat (i : Nat) (f : StreamFrame) : (setStreamFrame s i f).stat = s.stat := rfl
@[simp] theorem setStreamFrame_aux (i : Nat) (f : StreamFrame) : (setStreamFrame s i f).aux = s.aux := rfl
@[simp] theorem setStreamFrame_ae (i : Nat) (f : StreamFrame) : (setStreamFrame s i f).ae = s.ae := rfl
@[simp] theorem setStreamFrame_freeCtr (i : Nat) (f : StreamFrame) : (setStreamFrame s i f).freeCtr = s.freeCtr := rfl
@[simp] theorem setStreamFrame_pending (i : Nat) (f : StreamFrame) : (setStreamFrame s i f).pending = s.pending := rfl

@[simp] theorem enqueue_ken (p : Pkt) : (enqueue s p).ken = s.ken := rfl
@[simp] theorem enqueue_ptr (p : Pkt) : (enqueue s p).ptr = s.ptr := rfl
@[simp] theorem enqueue_sct (p : Pkt) : (enqueue s p).sct = s.sct := rfl
@[simp] theorem enqueue_heel (p : Pkt) : (enqueue s p).heel = s.heel := rfl
@[simp] theorem enqueue_lsh (p : Pkt) : (enqueue s p).lsh = s.lsh := rfl
@[simp] theorem enqueue_regs (p : Pkt) : (enqueue s p).regs = s.regs := rfl
@[simp] theorem enqueue_time (p : Pkt) : (enqueue s p).time = s.time := rfl
@[simp] theorem enqueue_clk (p : Pkt) : (enqueue s p).clk = s.clk := rfl
@[simp] theorem enqueue_sys (p : Pkt) : (enqueue s p).sys = s.sys := rfl
@[simp] theorem enqueue_log (p : Pkt) : (enqueue s p).log = s.log := rfl
@[simp] theorem enqueue_boot (p : Pkt) : (enqueue s p).boot = s.boot := rfl
@[simp] theorem enqueue_upd (p : Pkt) : (enqueue s p).upd = s.upd := rfl
@[simp] theorem enqueue_otp (p : Pkt) : (enqueue s p).otp = s.otp := rfl
@[simp] theorem enqueue_mgb (p : Pkt) : (enqueue s p).mgb = s.mgb := rfl
@[simp] theorem enqueue_img (p : Pkt) : (enqueue s p).img = s.img := rfl
@[simp] theorem enqueue_cnv (p : Pkt) : (enqueue s p).cnv = s.cnv := rfl
@[simp] theorem enqueue_stat (p : Pkt) : (enqueue s p).stat = s.stat := rfl
@[simp] theorem enqueue_aux (p : Pkt) : (enqueue s p).aux = s.aux := rfl
@[simp] theorem enqueue_ae (p : Pkt) : (enqueue s p).ae = s.ae := rfl
@[simp] theorem enqueue_freeCtr (p : Pkt) : (enqueue s p).freeCtr = s.freeCtr := rfl
@[simp] theorem enqueue_pending (p : Pkt) : (enqueue s p).pending = s.pending := rfl

@[simp] theorem setNode_ken (t n : Nat) (x : Node) : (setNode s t n x).ken = s.ken := rfl
@[simp] theorem setNode_ptr (t n : Nat) (x : Node) : (setNode s t n x).ptr = s.ptr := rfl
@[simp] theorem setNode_sct (t n : Nat) (x : Node) : (setNode s t n x).sct = s.sct := rfl
@[simp] theorem setNode_heel (t n : Nat) (x : Node) : (setNode s t n x).heel = s.heel := rfl
@[simp] theorem setNode_lsh (t n : Nat) (x : Node) : (setNode s t n x).lsh = s.lsh := rfl
@[simp] theorem setNode_regs (t n : Nat) (x : Node) : (setNode s t n x).regs = s.regs := rfl
@[simp] theorem setNode_time (t n : Nat) (x : Node) : (setNode s t n x).time = s.time := rfl
@[simp] theorem setNode_clk (t n : Nat) (x : Node) : (setNode s t n x).clk = s.clk := rfl
@[simp] theorem setNode_sys (t n : Nat) (x : Node) : (setNode s t n x).sys = s.sys := rfl
@[simp] theorem setNode_log (t n : Nat) (x : Node) : (setNode s t n x).log = s.log := rfl
@[simp] theorem setNode_boot (t n : Nat) (x : Node) : (setNode s t n x).boot = s.boot := rfl
@[simp] theorem setNode_upd (t n : Nat) (x : Node) : (setNode s t n x).upd = s.upd := rfl
@[simp] theorem setNode_otp (t n : Nat) (x : Node) : (setNode s t n x).otp = s.otp := rfl
@[simp] theorem setNode_mgb (t n : Nat) (x : Node) : (setNode s t n x).mgb = s.mgb := rfl
@[simp] theorem setNode_nlk (t n : Nat) (x : Node) : (setNode s t n x).nlk = s.nlk := rfl
@[simp] theorem setNode_cnv (t n : Nat) (x : Node) : (setNode s t n x).cnv = s.cnv := rfl
@[simp] theorem setNode_stat (t n : Nat) (x : Node) : (setNode s t n x).stat = s.stat := rfl
@[simp] theorem setNode_aux (t n : Nat) (x : Node) : (setNode s t n x).aux = s.aux := rfl
@[simp] theorem setNode_ae (t n : Nat) (x : Node) : (setNode s t n x).ae = s.ae := rfl
@[simp] theorem setNode_freeCtr (t n : Nat) (x : Node) : (setNode s t n x).freeCtr = s.freeCtr := rfl
@[simp] theorem setNode_pending (t n : Nat) (x : Node) : (setNode s t n x).pending = s.pending := rfl

@[simp] theorem setTile_ken (t : Nat) (x : TileExp) : (setTile s t x).ken = s.ken := rfl
@[simp] theorem setTile_ptr (t : Nat) (x : TileExp) : (setTile s t x).ptr = s.ptr := rfl
@[simp] theorem setTile_sct (t : Nat) (x : TileExp) : (setTile s t x).sct = s.sct := rfl
@[simp] theorem setTile_heel (t : Nat) (x : TileExp) : (setTile s t x).heel = s.heel := rfl
@[simp] theorem setTile_lsh (t : Nat) (x : TileExp) : (setTile s t x).lsh = s.lsh := rfl
@[simp] theorem setTile_regs (t : Nat) (x : TileExp) : (setTile s t x).regs = s.regs := rfl
@[simp] theorem setTile_time (t : Nat) (x : TileExp) : (setTile s t x).time = s.time := rfl
@[simp] theorem setTile_clk (t : Nat) (x : TileExp) : (setTile s t x).clk = s.clk := rfl
@[simp] theorem setTile_sys (t : Nat) (x : TileExp) : (setTile s t x).sys = s.sys := rfl
@[simp] theorem setTile_log (t : Nat) (x : TileExp) : (setTile s t x).log = s.log := rfl
@[simp] theorem setTile_boot (t : Nat) (x : TileExp) : (setTile s t x).boot = s.boot := rfl
@[simp] theorem setTile_upd (t : Nat) (x : TileExp) : (setTile s t x).upd = s.upd := rfl
@[simp] theorem setTile_otp (t : Nat) (x : TileExp) : (setTile s t x).otp = s.otp := rfl
@[simp] theorem setTile_mgb (t : Nat) (x : TileExp) : (setTile s t x).mgb = s.mgb := rfl
@[simp] theorem setTile_nlk (t : Nat) (x : TileExp) : (setTile s t x).nlk = s.nlk := rfl
@[simp] theorem setTile_cnv (t : Nat) (x : TileExp) : (setTile s t x).cnv = s.cnv := rfl
@[simp] theorem setTile_stat (t : Nat) (x : TileExp) : (setTile s t x).stat = s.stat := rfl
@[simp] theorem setTile_aux (t : Nat) (x : TileExp) : (setTile s t x).aux = s.aux := rfl
@[simp] theorem setTile_ae (t : Nat) (x : TileExp) : (setTile s t x).ae = s.ae := rfl
@[simp] theorem setTile_freeCtr (t : Nat) (x : TileExp) : (setTile s t x).freeCtr = s.freeCtr := rfl
@[simp] theorem setTile_pending (t : Nat) (x : TileExp) : (setTile s t x).pending = s.pending := rfl

@[simp] theorem setTimer_ken (n : Nat) (x : Timer) : (setTimer s n x).ken = s.ken := rfl
@[simp] theorem setTimer_ptr (n : Nat) (x : Timer) : (setTimer s n x).ptr = s.ptr := rfl
@[simp] theorem setTimer_sct (n : Nat) (x : Timer) : (setTimer s n x).sct = s.sct := rfl
@[simp] theorem setTimer_heel (n : Nat) (x : Timer) : (setTimer s n x).heel = s.heel := rfl
@[simp] theorem setTimer_lsh (n : Nat) (x : Timer) : (setTimer s n x).lsh = s.lsh := rfl
@[simp] theorem setTimer_regs (n : Nat) (x : Timer) : (setTimer s n x).regs = s.regs := rfl
@[simp] theorem setTimer_time (n : Nat) (x : Timer) : (setTimer s n x).time = s.time := rfl
@[simp] theorem setTimer_sys (n : Nat) (x : Timer) : (setTimer s n x).sys = s.sys := rfl
@[simp] theorem setTimer_log (n : Nat) (x : Timer) : (setTimer s n x).log = s.log := rfl
@[simp] theorem setTimer_boot (n : Nat) (x : Timer) : (setTimer s n x).boot = s.boot := rfl
@[simp] theorem setTimer_upd (n : Nat) (x : Timer) : (setTimer s n x).upd = s.upd := rfl
@[simp] theorem setTimer_otp (n : Nat) (x : Timer) : (setTimer s n x).otp = s.otp := rfl
@[simp] theorem setTimer_mgb (n : Nat) (x : Timer) : (setTimer s n x).mgb = s.mgb := rfl
@[simp] theorem setTimer_nlk (n : Nat) (x : Timer) : (setTimer s n x).nlk = s.nlk := rfl
@[simp] theorem setTimer_img (n : Nat) (x : Timer) : (setTimer s n x).img = s.img := rfl
@[simp] theorem setTimer_cnv (n : Nat) (x : Timer) : (setTimer s n x).cnv = s.cnv := rfl
@[simp] theorem setTimer_stat (n : Nat) (x : Timer) : (setTimer s n x).stat = s.stat := rfl
@[simp] theorem setTimer_aux (n : Nat) (x : Timer) : (setTimer s n x).aux = s.aux := rfl
@[simp] theorem setTimer_ae (n : Nat) (x : Timer) : (setTimer s n x).ae = s.ae := rfl
@[simp] theorem setTimer_freeCtr (n : Nat) (x : Timer) : (setTimer s n x).freeCtr = s.freeCtr := rfl
@[simp] theorem setTimer_pending (n : Nat) (x : Timer) : (setTimer s n x).pending = s.pending := rfl

@[simp] theorem setOut_ken (i : Nat) (x : ClkOut) : (setOut s i x).ken = s.ken := rfl
@[simp] theorem setOut_ptr (i : Nat) (x : ClkOut) : (setOut s i x).ptr = s.ptr := rfl
@[simp] theorem setOut_sct (i : Nat) (x : ClkOut) : (setOut s i x).sct = s.sct := rfl
@[simp] theorem setOut_heel (i : Nat) (x : ClkOut) : (setOut s i x).heel = s.heel := rfl
@[simp] theorem setOut_lsh (i : Nat) (x : ClkOut) : (setOut s i x).lsh = s.lsh := rfl
@[simp] theorem setOut_regs (i : Nat) (x : ClkOut) : (setOut s i x).regs = s.regs := rfl
@[simp] theorem setOut_time (i : Nat) (x : ClkOut) : (setOut s i x).time = s.time := rfl
@[simp] theorem setOut_sys (i : Nat) (x : ClkOut) : (setOut s i x).sys = s.sys := rfl
@[simp] theorem setOut_log (i : Nat) (x : ClkOut) : (setOut s i x).log = s.log := rfl
@[simp] theorem setOut_boot (i : Nat) (x : ClkOut) : (setOut s i x).boot = s.boot := rfl
@[simp] theorem setOut_upd (i : Nat) (x : ClkOut) : (setOut s i x).upd = s.upd := rfl
@[simp] theorem setOut_otp (i : Nat) (x : ClkOut) : (setOut s i x).otp = s.otp := rfl
@[simp] theorem setOut_mgb (i : Nat) (x : ClkOut) : (setOut s i x).mgb = s.mgb := rfl
@[simp] theorem setOut_nlk (i : Nat) (x : ClkOut) : (setOut s i x).nlk = s.nlk := rfl
@[simp] theorem setOut_img (i : Nat) (x : ClkOut) : (setOut s i x).img = s.img := rfl
@[simp] theorem setOut_cnv (i : Nat) (x : ClkOut) : (setOut s i x).cnv = s.cnv := rfl
@[simp] theorem setOut_stat (i : Nat) (x : ClkOut) : (setOut s i x).stat = s.stat := rfl
@[simp] theorem setOut_aux (i : Nat) (x : ClkOut) : (setOut s i x).aux = s.aux := rfl
@[simp] theorem setOut_ae (i : Nat) (x : ClkOut) : (setOut s i x).ae = s.ae := rfl
@[simp] theorem setOut_freeCtr (i : Nat) (x : ClkOut) : (setOut s i x).freeCtr = s.freeCtr := rfl
@[simp] theorem setOut_pending (i : Nat) (x : ClkOut) : (setOut s i x).pending = s.pending := rfl

@[simp] theorem setSlot_ptr (i : Nat) (x : Track) : (setSlot s i x).ptr = s.ptr := rfl
@[simp] theorem setSlot_sct (i : Nat) (x : Track) : (setSlot s i x).sct = s.sct := rfl
@[simp] theorem setSlot_heel (i : Nat) (x : Track) : (setSlot s i x).heel = s.heel := rfl
@[simp] theorem setSlot_lsh (i : Nat) (x : Track) : (setSlot s i x).lsh = s.lsh := rfl
@[simp] theorem setSlot_regs (i : Nat) (x : Track) : (setSlot s i x).regs = s.regs := rfl
@[simp] theorem setSlot_time (i : Nat) (x : Track) : (setSlot s i x).time = s.time := rfl
@[simp] theorem setSlot_clk (i : Nat) (x : Track) : (setSlot s i x).clk = s.clk := rfl
@[simp] theorem setSlot_sys (i : Nat) (x : Track) : (setSlot s i x).sys = s.sys := rfl
@[simp] theorem setSlot_log (i : Nat) (x : Track) : (setSlot s i x).log = s.log := rfl
@[simp] theorem setSlot_boot (i : Nat) (x : Track) : (setSlot s i x).boot = s.boot := rfl
@[simp] theorem setSlot_upd (i : Nat) (x : Track) : (setSlot s i x).upd = s.upd := rfl
@[simp] theorem setSlot_otp (i : Nat) (x : Track) : (setSlot s i x).otp = s.otp := rfl
@[simp] theorem setSlot_mgb (i : Nat) (x : Track) : (setSlot s i x).mgb = s.mgb := rfl
@[simp] theorem setSlot_nlk (i : Nat) (x : Track) : (setSlot s i x).nlk = s.nlk := rfl
@[simp] theorem setSlot_img (i : Nat) (x : Track) : (setSlot s i x).img = s.img := rfl
@[simp] theorem setSlot_cnv (i : Nat) (x : Track) : (setSlot s i x).cnv = s.cnv := rfl
@[simp] theorem setSlot_stat (i : Nat) (x : Track) : (setSlot s i x).stat = s.stat := rfl
@[simp] theorem setSlot_aux (i : Nat) (x : Track) : (setSlot s i x).aux = s.aux := rfl
@[simp] theorem setSlot_ae (i : Nat) (x : Track) : (setSlot s i x).ae = s.ae := rfl
@[simp] theorem setSlot_freeCtr (i : Nat) (x : Track) : (setSlot s i x).freeCtr = s.freeCtr := rfl
@[simp] theorem setSlot_pending (i : Nat) (x : Track) : (setSlot s i x).pending = s.pending := rfl

@[simp] theorem setSnap_ptr (i j : Nat) (x : Snap) : (setSnap s i j x).ptr = s.ptr := rfl
@[simp] theorem setSnap_sct (i j : Nat) (x : Snap) : (setSnap s i j x).sct = s.sct := rfl
@[simp] theorem setSnap_heel (i j : Nat) (x : Snap) : (setSnap s i j x).heel = s.heel := rfl
@[simp] theorem setSnap_lsh (i j : Nat) (x : Snap) : (setSnap s i j x).lsh = s.lsh := rfl
@[simp] theorem setSnap_regs (i j : Nat) (x : Snap) : (setSnap s i j x).regs = s.regs := rfl
@[simp] theorem setSnap_time (i j : Nat) (x : Snap) : (setSnap s i j x).time = s.time := rfl
@[simp] theorem setSnap_clk (i j : Nat) (x : Snap) : (setSnap s i j x).clk = s.clk := rfl
@[simp] theorem setSnap_sys (i j : Nat) (x : Snap) : (setSnap s i j x).sys = s.sys := rfl
@[simp] theorem setSnap_log (i j : Nat) (x : Snap) : (setSnap s i j x).log = s.log := rfl
@[simp] theorem setSnap_boot (i j : Nat) (x : Snap) : (setSnap s i j x).boot = s.boot := rfl
@[simp] theorem setSnap_upd (i j : Nat) (x : Snap) : (setSnap s i j x).upd = s.upd := rfl
@[simp] theorem setSnap_otp (i j : Nat) (x : Snap) : (setSnap s i j x).otp = s.otp := rfl
@[simp] theorem setSnap_mgb (i j : Nat) (x : Snap) : (setSnap s i j x).mgb = s.mgb := rfl
@[simp] theorem setSnap_nlk (i j : Nat) (x : Snap) : (setSnap s i j x).nlk = s.nlk := rfl
@[simp] theorem setSnap_img (i j : Nat) (x : Snap) : (setSnap s i j x).img = s.img := rfl
@[simp] theorem setSnap_cnv (i j : Nat) (x : Snap) : (setSnap s i j x).cnv = s.cnv := rfl
@[simp] theorem setSnap_stat (i j : Nat) (x : Snap) : (setSnap s i j x).stat = s.stat := rfl
@[simp] theorem setSnap_aux (i j : Nat) (x : Snap) : (setSnap s i j x).aux = s.aux := rfl
@[simp] theorem setSnap_ae (i j : Nat) (x : Snap) : (setSnap s i j x).ae = s.ae := rfl
@[simp] theorem setSnap_freeCtr (i j : Nat) (x : Snap) : (setSnap s i j x).freeCtr = s.freeCtr := rfl
@[simp] theorem setSnap_pending (i j : Nat) (x : Snap) : (setSnap s i j x).pending = s.pending := rfl

@[simp] theorem setHp_ken (n : Nat) (p : HeelPort) : (setHp s n p).ken = s.ken := rfl
@[simp] theorem setHp_ptr (n : Nat) (p : HeelPort) : (setHp s n p).ptr = s.ptr := rfl
@[simp] theorem setHp_sct (n : Nat) (p : HeelPort) : (setHp s n p).sct = s.sct := rfl
@[simp] theorem setHp_lsh (n : Nat) (p : HeelPort) : (setHp s n p).lsh = s.lsh := rfl
@[simp] theorem setHp_regs (n : Nat) (p : HeelPort) : (setHp s n p).regs = s.regs := rfl
@[simp] theorem setHp_time (n : Nat) (p : HeelPort) : (setHp s n p).time = s.time := rfl
@[simp] theorem setHp_clk (n : Nat) (p : HeelPort) : (setHp s n p).clk = s.clk := rfl
@[simp] theorem setHp_sys (n : Nat) (p : HeelPort) : (setHp s n p).sys = s.sys := rfl
@[simp] theorem setHp_log (n : Nat) (p : HeelPort) : (setHp s n p).log = s.log := rfl
@[simp] theorem setHp_boot (n : Nat) (p : HeelPort) : (setHp s n p).boot = s.boot := rfl
@[simp] theorem setHp_upd (n : Nat) (p : HeelPort) : (setHp s n p).upd = s.upd := rfl
@[simp] theorem setHp_otp (n : Nat) (p : HeelPort) : (setHp s n p).otp = s.otp := rfl
@[simp] theorem setHp_mgb (n : Nat) (p : HeelPort) : (setHp s n p).mgb = s.mgb := rfl
@[simp] theorem setHp_nlk (n : Nat) (p : HeelPort) : (setHp s n p).nlk = s.nlk := rfl
@[simp] theorem setHp_img (n : Nat) (p : HeelPort) : (setHp s n p).img = s.img := rfl
@[simp] theorem setHp_cnv (n : Nat) (p : HeelPort) : (setHp s n p).cnv = s.cnv := rfl
@[simp] theorem setHp_stat (n : Nat) (p : HeelPort) : (setHp s n p).stat = s.stat := rfl
@[simp] theorem setHp_aux (n : Nat) (p : HeelPort) : (setHp s n p).aux = s.aux := rfl
@[simp] theorem setHp_ae (n : Nat) (p : HeelPort) : (setHp s n p).ae = s.ae := rfl
@[simp] theorem setHp_freeCtr (n : Nat) (p : HeelPort) : (setHp s n p).freeCtr = s.freeCtr := rfl
@[simp] theorem setHp_pending (n : Nat) (p : HeelPort) : (setHp s n p).pending = s.pending := rfl

@[simp] theorem setLp_ken (n : Nat) (p : LshPort) : (setLp s n p).ken = s.ken := rfl
@[simp] theorem setLp_ptr (n : Nat) (p : LshPort) : (setLp s n p).ptr = s.ptr := rfl
@[simp] theorem setLp_sct (n : Nat) (p : LshPort) : (setLp s n p).sct = s.sct := rfl
@[simp] theorem setLp_heel (n : Nat) (p : LshPort) : (setLp s n p).heel = s.heel := rfl
@[simp] theorem setLp_regs (n : Nat) (p : LshPort) : (setLp s n p).regs = s.regs := rfl
@[simp] theorem setLp_time (n : Nat) (p : LshPort) : (setLp s n p).time = s.time := rfl
@[simp] theorem setLp_clk (n : Nat) (p : LshPort) : (setLp s n p).clk = s.clk := rfl
@[simp] theorem setLp_sys (n : Nat) (p : LshPort) : (setLp s n p).sys = s.sys := rfl
@[simp] theorem setLp_log (n : Nat) (p : LshPort) : (setLp s n p).log = s.log := rfl
@[simp] theorem setLp_boot (n : Nat) (p : LshPort) : (setLp s n p).boot = s.boot := rfl
@[simp] theorem setLp_upd (n : Nat) (p : LshPort) : (setLp s n p).upd = s.upd := rfl
@[simp] theorem setLp_otp (n : Nat) (p : LshPort) : (setLp s n p).otp = s.otp := rfl
@[simp] theorem setLp_mgb (n : Nat) (p : LshPort) : (setLp s n p).mgb = s.mgb := rfl
@[simp] theorem setLp_nlk (n : Nat) (p : LshPort) : (setLp s n p).nlk = s.nlk := rfl
@[simp] theorem setLp_img (n : Nat) (p : LshPort) : (setLp s n p).img = s.img := rfl
@[simp] theorem setLp_cnv (n : Nat) (p : LshPort) : (setLp s n p).cnv = s.cnv := rfl
@[simp] theorem setLp_stat (n : Nat) (p : LshPort) : (setLp s n p).stat = s.stat := rfl
@[simp] theorem setLp_aux (n : Nat) (p : LshPort) : (setLp s n p).aux = s.aux := rfl
@[simp] theorem setLp_ae (n : Nat) (p : LshPort) : (setLp s n p).ae = s.ae := rfl
@[simp] theorem setLp_freeCtr (n : Nat) (p : LshPort) : (setLp s n p).freeCtr = s.freeCtr := rfl
@[simp] theorem setLp_pending (n : Nat) (p : LshPort) : (setLp s n p).pending = s.pending := rfl

@[simp] theorem setBank_ken (i : Nat) (b : Bank) : (setBank s i b).ken = s.ken := rfl
@[simp] theorem setBank_ptr (i : Nat) (b : Bank) : (setBank s i b).ptr = s.ptr := rfl
@[simp] theorem setBank_sct (i : Nat) (b : Bank) : (setBank s i b).sct = s.sct := rfl
@[simp] theorem setBank_heel (i : Nat) (b : Bank) : (setBank s i b).heel = s.heel := rfl
@[simp] theorem setBank_lsh (i : Nat) (b : Bank) : (setBank s i b).lsh = s.lsh := rfl
@[simp] theorem setBank_regs (i : Nat) (b : Bank) : (setBank s i b).regs = s.regs := rfl
@[simp] theorem setBank_time (i : Nat) (b : Bank) : (setBank s i b).time = s.time := rfl
@[simp] theorem setBank_clk (i : Nat) (b : Bank) : (setBank s i b).clk = s.clk := rfl
@[simp] theorem setBank_sys (i : Nat) (b : Bank) : (setBank s i b).sys = s.sys := rfl
@[simp] theorem setBank_log (i : Nat) (b : Bank) : (setBank s i b).log = s.log := rfl
@[simp] theorem setBank_boot (i : Nat) (b : Bank) : (setBank s i b).boot = s.boot := rfl
@[simp] theorem setBank_upd (i : Nat) (b : Bank) : (setBank s i b).upd = s.upd := rfl
@[simp] theorem setBank_otp (i : Nat) (b : Bank) : (setBank s i b).otp = s.otp := rfl
@[simp] theorem setBank_mgb (i : Nat) (b : Bank) : (setBank s i b).mgb = s.mgb := rfl
@[simp] theorem setBank_nlk (i : Nat) (b : Bank) : (setBank s i b).nlk = s.nlk := rfl
@[simp] theorem setBank_img (i : Nat) (b : Bank) : (setBank s i b).img = s.img := rfl
@[simp] theorem setBank_cnv (i : Nat) (b : Bank) : (setBank s i b).cnv = s.cnv := rfl
@[simp] theorem setBank_aux (i : Nat) (b : Bank) : (setBank s i b).aux = s.aux := rfl
@[simp] theorem setBank_ae (i : Nat) (b : Bank) : (setBank s i b).ae = s.ae := rfl
@[simp] theorem setBank_freeCtr (i : Nat) (b : Bank) : (setBank s i b).freeCtr = s.freeCtr := rfl
@[simp] theorem setBank_pending (i : Nat) (b : Bank) : (setBank s i b).pending = s.pending := rfl

@[simp] theorem reach_tb (t : Nat) : (reach s t).time.tb = max s.time.tb t := rfl
@[simp] theorem reach_k (t : Nat) : (reach s t).time.k = s.time.k := rfl
@[simp] theorem reach_e (t : Nat) : (reach s t).time.e = s.time.e := rfl
@[simp] theorem reach_tickOpen (t : Nat) : (reach s t).time.tickOpen = s.time.tickOpen := rfl
@[simp] theorem withQueue_pending' (q : List Instr) : (s.withQueue q).pending = q := rfl
@[simp] theorem drawFree_ctr : (drawFree s).2.freeCtr = s.freeCtr + 1 := rfl
@[simp] theorem drawFree_regs : (drawFree s).2.regs = s.regs := rfl
@[simp] theorem drawFree_pending : (drawFree s).2.pending = s.pending := rfl
@[simp] theorem drawFree_otp : (drawFree s).2.otp = s.otp := rfl
@[simp] theorem drawFree_boot : (drawFree s).2.boot = s.boot := rfl
@[simp] theorem drawFree_sys : (drawFree s).2.sys = s.sys := rfl
@[simp] theorem drawFree_time : (drawFree s).2.time = s.time := rfl
@[simp] theorem setReg_act (a : Nat) (w : Word) : (setReg s a w).regs.act = s.regs.act := rfl
@[simp] theorem setReg_prev (a : Nat) (w : Word) : (setReg s a w).regs.prev = s.regs.prev := rfl
@[simp] theorem bump_act (a : Nat) : (bump s a).regs.act = s.regs.act := rfl
@[simp] theorem bump_prev (a : Nat) : (bump s a).regs.prev = s.regs.prev := rfl

/-- A register that the device sets reads the word. -/
@[simp] theorem cur_setReg_same (a : Nat) (w : Word) : (setReg s a w).cur a = w :=
  rget_rput_same s.regs.cur a w

/-- Every other register reads what it read before. -/
theorem cur_setReg_other (a b : Nat) (w : Word) (h : b ≠ a) : (setReg s a w).cur b = s.cur b :=
  rget_rput_other s.regs.cur a b w h

@[simp] theorem cur_setRegN_same (a v : Nat) : (setRegN s a v).cur a = BitVec.ofNat 32 v :=
  rget_rput_same s.regs.cur a _

theorem cur_setRegN_other (a b v : Nat) (h : b ≠ a) : (setRegN s a v).cur b = s.cur b :=
  rget_rput_other s.regs.cur a b _ h

/-- A counter rises by n and saturates (R7). -/
@[simp] theorem cur_bumpBy_same (a n : Nat) :
    ((bumpBy s a n).cur a).toNat = min 0xFFFFFFFF ((s.cur a).toNat + n) := by
  simp only [bumpBy, cur_setRegN_same, BitVec.toNat_ofNat]
  omega

theorem cur_bumpBy_other (a b n : Nat) (h : b ≠ a) : (bumpBy s a n).cur b = s.cur b :=
  rget_rput_other s.regs.cur a b _ h

/-- A counter rises by one and saturates (R7). -/
@[simp] theorem cur_bump_same (a : Nat) :
    ((bump s a).cur a).toNat = min 0xFFFFFFFF ((s.cur a).toNat + 1) := cur_bumpBy_same s a 1

theorem cur_bump_other (a b : Nat) (h : b ≠ a) : (bump s a).cur b = s.cur b :=
  rget_rput_other s.regs.cur a b _ h

/-- Registers read the same where only other fields of the state have changed. -/
theorem cur_congr {s t : State} (h : t.regs.cur = s.regs.cur) (a : Nat) : t.cur a = s.cur a := by
  unfold State.cur
  rw [h]

@[simp] theorem link_setLink_same (l : Nat) (x : Link) : (setLink s l x).link l = x := by
  simp [State.link, setLink]

theorem link_setLink_other (l m : Nat) (x : Link) (h : m ≠ l) : (setLink s l x).link m = s.link m := by
  simp only [State.link, setLink]
  exact mget_mput_other _ _ _ _ _ h

@[simp] theorem hp_setHp_same (n : Nat) (p : HeelPort) : (setHp s n p).hp n = p := by
  simp [State.hp, setHp]

theorem hp_setHp_other (n m : Nat) (p : HeelPort) (h : m ≠ n) : (setHp s n p).hp m = s.hp m := by
  simp only [State.hp, setHp]
  exact mget_mput_other _ _ _ _ _ h

@[simp] theorem lp_setLp_same (n : Nat) (p : LshPort) : (setLp s n p).lp n = p := by
  simp [State.lp, setLp]

theorem lp_setLp_other (n m : Nat) (p : LshPort) (h : m ≠ n) : (setLp s n p).lp m = s.lp m := by
  simp only [State.lp, setLp]
  exact mget_mput_other _ _ _ _ _ h

@[simp] theorem tile_setTile_same (t : Nat) (x : TileExp) : (setTile s t x).tile t = x := by
  simp [State.tile, setTile]

@[simp] theorem timer_setTimer_same (n : Nat) (x : Timer) : (setTimer s n x).timer n = x := by
  simp [State.timer, setTimer]

@[simp] theorem out_setOut_same (i : Nat) (x : ClkOut) : (setOut s i x).out i = x := by
  simp [State.out, setOut]

@[simp] theorem bank_setBank_same (i : Nat) (b : Bank) : (setBank s i b).bank i = b := by
  simp [State.bank, setBank]

end Sys2Proof.Laws
end

