-- ==== Sys2Proof/Laws/Log.lean ====
section
/-!
SUPPORT. What the queues, the event log, Bark and the tier change operations leave as it was: each of
them writes its own part of the state and a few counters.
-/

namespace Sys2Proof.Laws

open Sys2Proof.Machine

variable (s : State)

/-- The counters that the event log and its stream may raise, and MGB_BARK_PEND. -/
def logRegs : List Nat := [0x1300A0, 0x1300A4, 0x1300A8, 0x110228, 0x120010]

@[simp] theorem foldEnqueue_ken (ps : List Pkt) : (ps.foldl enqueue s).ken = s.ken := by
  induction ps generalizing s with
  | nil => rfl
  | cons p t ih => exact ih (enqueue s p)
@[simp] theorem foldEnqueue_ptr (ps : List Pkt) : (ps.foldl enqueue s).ptr = s.ptr := by
  induction ps generalizing s with
  | nil => rfl
  | cons p t ih => exact ih (enqueue s p)
@[simp] theorem foldEnqueue_sct (ps : List Pkt) : (ps.foldl enqueue s).sct = s.sct := by
  induction ps generalizing s with
  | nil => rfl
  | cons p t ih => exact ih (enqueue s p)
@[simp] theorem foldEnqueue_heel (ps : List Pkt) : (ps.foldl enqueue s).heel = s.heel := by
  induction ps generalizing s with
  | nil => rfl
  | cons p t ih => exact ih (enqueue s p)
@[simp] theorem foldEnqueue_lsh (ps : List Pkt) : (ps.foldl enqueue s).lsh = s.lsh := by
  induction ps generalizing s with
  | nil => rfl
  | cons p t ih => exact ih (enqueue s p)
@[simp] theorem foldEnqueue_regs (ps : List Pkt) : (ps.foldl enqueue s).regs = s.regs := by
  induction ps generalizing s with
  | nil => rfl
  | cons p t ih => exact ih (enqueue s p)
@[simp] theorem foldEnqueue_time (ps : List Pkt) : (ps.foldl enqueue s).time = s.time := by
  induction ps generalizing s with
  | nil => rfl
  | cons p t ih => exact ih (enqueue s p)
@[simp] theorem foldEnqueue_clk (ps : List Pkt) : (ps.foldl enqueue s).clk = s.clk := by
  induction ps generalizing s with
  | nil => rfl
  | cons p t ih => exact ih (enqueue s p)
@[simp] theorem foldEnqueue_sys (ps : List Pkt) : (ps.foldl enqueue s).sys = s.sys := by
  induction ps generalizing s with
  | nil => rfl
  | cons p t ih => exact ih (enqueue s p)
@[simp] theorem foldEnqueue_log (ps : List Pkt) : (ps.foldl enqueue s).log = s.log := by
  induction ps generalizing s with
  | nil => rfl
  | cons p t ih => exact ih (enqueue s p)
@[simp] theorem foldEnqueue_boot (ps : List Pkt) : (ps.foldl enqueue s).boot = s.boot := by
  induction ps generalizing s with
  | nil => rfl
  | cons p t ih => exact ih (enqueue s p)
@[simp] theorem foldEnqueue_upd (ps : List Pkt) : (ps.foldl enqueue s).upd = s.upd := by
  induction ps generalizing s with
  | nil => rfl
  | cons p t ih => exact ih (enqueue s p)
@[simp] theorem foldEnqueue_otp (ps : List Pkt) : (ps.foldl enqueue s).otp = s.otp := by
  induction ps generalizing s with
  | nil => rfl
  | cons p t ih => exact ih (enqueue s p)
@[simp] theorem foldEnqueue_mgb (ps : List Pkt) : (ps.foldl enqueue s).mgb = s.mgb := by
  induction ps generalizing s with
  | nil => rfl
  | cons p t ih => exact ih (enqueue s p)
@[simp] theorem foldEnqueue_img (ps : List Pkt) : (ps.foldl enqueue s).img = s.img := by
  induction ps generalizing s with
  | nil => rfl
  | cons p t ih => exact ih (enqueue s p)
@[simp] theorem foldEnqueue_cnv (ps : List Pkt) : (ps.foldl enqueue s).cnv = s.cnv := by
  induction ps generalizing s with
  | nil => rfl
  | cons p t ih => exact ih (enqueue s p)
@[simp] theorem foldEnqueue_stat (ps : List Pkt) : (ps.foldl enqueue s).stat = s.stat := by
  induction ps generalizing s with
  | nil => rfl
  | cons p t ih => exact ih (enqueue s p)
@[simp] theorem foldEnqueue_aux (ps : List Pkt) : (ps.foldl enqueue s).aux = s.aux := by
  induction ps generalizing s with
  | nil => rfl
  | cons p t ih => exact ih (enqueue s p)
@[simp] theorem foldEnqueue_ae (ps : List Pkt) : (ps.foldl enqueue s).ae = s.ae := by
  induction ps generalizing s with
  | nil => rfl
  | cons p t ih => exact ih (enqueue s p)
@[simp] theorem foldEnqueue_freeCtr (ps : List Pkt) : (ps.foldl enqueue s).freeCtr = s.freeCtr := by
  induction ps generalizing s with
  | nil => rfl
  | cons p t ih => exact ih (enqueue s p)
@[simp] theorem foldEnqueue_pending (ps : List Pkt) : (ps.foldl enqueue s).pending = s.pending := by
  induction ps generalizing s with
  | nil => rfl
  | cons p t ih => exact ih (enqueue s p)

@[simp] theorem pushTail_ken (key : Nat) (last : Bool) : (pushTail s key last).ken = s.ken := by
  unfold pushTail; simp only; split <;> rfl
@[simp] theorem pushTail_ptr (key : Nat) (last : Bool) : (pushTail s key last).ptr = s.ptr := by
  unfold pushTail; simp only; split <;> rfl
@[simp] theorem pushTail_sct (key : Nat) (last : Bool) : (pushTail s key last).sct = s.sct := by
  unfold pushTail; simp only; split <;> rfl
@[simp] theorem pushTail_heel (key : Nat) (last : Bool) : (pushTail s key last).heel = s.heel := by
  unfold pushTail; simp only; split <;> rfl
@[simp] theorem pushTail_lsh (key : Nat) (last : Bool) : (pushTail s key last).lsh = s.lsh := by
  unfold pushTail; simp only; split <;> rfl
@[simp] theorem pushTail_regs (key : Nat) (last : Bool) : (pushTail s key last).regs = s.regs := by
  unfold pushTail; simp only; split <;> rfl
@[simp] theorem pushTail_time (key : Nat) (last : Bool) : (pushTail s key last).time = s.time := by
  unfold pushTail; simp only; split <;> rfl
@[simp] theorem pushTail_clk (key : Nat) (last : Bool) : (pushTail s key last).clk = s.clk := by
  unfold pushTail; simp only; split <;> rfl
@[simp] theorem pushTail_sys (key : Nat) (last : Bool) : (pushTail s key last).sys = s.sys := by
  unfold pushTail; simp only; split <;> rfl
@[simp] theorem pushTail_log (key : Nat) (last : Bool) : (pushTail s key last).log = s.log := by
  unfold pushTail; simp only; split <;> rfl
@[simp] theorem pushTail_boot (key : Nat) (last : Bool) : (pushTail s key last).boot = s.boot := by
  unfold pushTail; simp only; split <;> rfl
@[simp] theorem pushTail_upd (key : Nat) (last : Bool) : (pushTail s key last).upd = s.upd := by
  unfold pushTail; simp only; split <;> rfl
@[simp] theorem pushTail_otp (key : Nat) (last : Bool) : (pushTail s key last).otp = s.otp := by
  unfold pushTail; simp only; split <;> rfl
@[simp] theorem pushTail_mgb (key : Nat) (last : Bool) : (pushTail s key last).mgb = s.mgb := by
  unfold pushTail; simp only; split <;> rfl
@[simp] theorem pushTail_img (key : Nat) (last : Bool) : (pushTail s key last).img = s.img := by
  unfold pushTail; simp only; split <;> rfl
@[simp] theorem pushTail_cnv (key : Nat) (last : Bool) : (pushTail s key last).cnv = s.cnv := by
  unfold pushTail; simp only; split <;> rfl
@[simp] theorem pushTail_stat (key : Nat) (last : Bool) : (pushTail s key last).stat = s.stat := by
  unfold pushTail; simp only; split <;> rfl
@[simp] theorem pushTail_aux (key : Nat) (last : Bool) : (pushTail s key last).aux = s.aux := by
  unfold pushTail; simp only; split <;> rfl
@[simp] theorem pushTail_ae (key : Nat) (last : Bool) : (pushTail s key last).ae = s.ae := by
  unfold pushTail; simp only; split <;> rfl
@[simp] theorem pushTail_freeCtr (key : Nat) (last : Bool) : (pushTail s key last).freeCtr = s.freeCtr := by
  unfold pushTail; simp only; split <;> rfl
@[simp] theorem pushTail_pending (key : Nat) (last : Bool) : (pushTail s key last).pending = s.pending := by
  unfold pushTail; simp only; split <;> rfl

@[simp] theorem endFrameOf_ken (key stream frame num state : Nat) : (endFrameOf s key stream frame num state).ken = s.ken := by
  simp [endFrameOf]
@[simp] theorem endFrameOf_ptr (key stream frame num state : Nat) : (endFrameOf s key stream frame num state).ptr = s.ptr := by
  simp [endFrameOf]
@[simp] theorem endFrameOf_sct (key stream frame num state : Nat) : (endFrameOf s key stream frame num state).sct = s.sct := by
  simp [endFrameOf]
@[simp] theorem endFrameOf_heel (key stream frame num state : Nat) : (endFrameOf s key stream frame num state).heel = s.heel := by
  simp [endFrameOf]
@[simp] theorem endFrameOf_lsh (key stream frame num state : Nat) : (endFrameOf s key stream frame num state).lsh = s.lsh := by
  simp [endFrameOf]
@[simp] theorem endFrameOf_time (key stream frame num state : Nat) : (endFrameOf s key stream frame num state).time = s.time := by
  simp [endFrameOf]
@[simp] theorem endFrameOf_clk (key stream frame num state : Nat) : (endFrameOf s key stream frame num state).clk = s.clk := by
  simp [endFrameOf]
@[simp] theorem endFrameOf_sys (key stream frame num state : Nat) : (endFrameOf s key stream frame num state).sys = s.sys := by
  simp [endFrameOf]
@[simp] theorem endFrameOf_log (key stream frame num state : Nat) : (endFrameOf s key stream frame num state).log = s.log := by
  simp [endFrameOf]
@[simp] theorem endFrameOf_boot (key stream frame num state : Nat) : (endFrameOf s key stream frame num state).boot = s.boot := by
  simp [endFrameOf]
@[simp] theorem endFrameOf_upd (key stream frame num state : Nat) : (endFrameOf s key stream frame num state).upd = s.upd := by
  simp [endFrameOf]
@[simp] theorem endFrameOf_otp (key stream frame num state : Nat) : (endFrameOf s key stream frame num state).otp = s.otp := by
  simp [endFrameOf]
@[simp] theorem endFrameOf_mgb (key stream frame num state : Nat) : (endFrameOf s key stream frame num state).mgb = s.mgb := by
  simp [endFrameOf]
@[simp] theorem endFrameOf_img (key stream frame num state : Nat) : (endFrameOf s key stream frame num state).img = s.img := by
  simp [endFrameOf]
@[simp] theorem endFrameOf_cnv (key stream frame num state : Nat) : (endFrameOf s key stream frame num state).cnv = s.cnv := by
  simp [endFrameOf]
@[simp] theorem endFrameOf_stat (key stream frame num state : Nat) : (endFrameOf s key stream frame num state).stat = s.stat := by
  simp [endFrameOf]
@[simp] theorem endFrameOf_aux (key stream frame num state : Nat) : (endFrameOf s key stream frame num state).aux = s.aux := by
  simp [endFrameOf]
@[simp] theorem endFrameOf_ae (key stream frame num state : Nat) : (endFrameOf s key stream frame num state).ae = s.ae := by
  simp [endFrameOf]
@[simp] theorem endFrameOf_freeCtr (key stream frame num state : Nat) : (endFrameOf s key stream frame num state).freeCtr = s.freeCtr := by
  simp [endFrameOf]
@[simp] theorem endFrameOf_pending (key stream frame num state : Nat) : (endFrameOf s key stream frame num state).pending = s.pending := by
  simp [endFrameOf]

@[simp] theorem endMeta_ken (stream frame : Nat) : (endMeta s stream frame).ken = s.ken := by
  unfold endMeta; dsimp only; split <;> simp
@[simp] theorem endMeta_ptr (stream frame : Nat) : (endMeta s stream frame).ptr = s.ptr := by
  unfold endMeta; dsimp only; split <;> simp
@[simp] theorem endMeta_sct (stream frame : Nat) : (endMeta s stream frame).sct = s.sct := by
  unfold endMeta; dsimp only; split <;> simp
@[simp] theorem endMeta_heel (stream frame : Nat) : (endMeta s stream frame).heel = s.heel := by
  unfold endMeta; dsimp only; split <;> simp
@[simp] theorem endMeta_lsh (stream frame : Nat) : (endMeta s stream frame).lsh = s.lsh := by
  unfold endMeta; dsimp only; split <;> simp
@[simp] theorem endMeta_time (stream frame : Nat) : (endMeta s stream frame).time = s.time := by
  unfold endMeta; dsimp only; split <;> simp
@[simp] theorem endMeta_clk (stream frame : Nat) : (endMeta s stream frame).clk = s.clk := by
  unfold endMeta; dsimp only; split <;> simp
@[simp] theorem endMeta_sys (stream frame : Nat) : (endMeta s stream frame).sys = s.sys := by
  unfold endMeta; dsimp only; split <;> simp
@[simp] theorem endMeta_log (stream frame : Nat) : (endMeta s stream frame).log = s.log := by
  unfold endMeta; dsimp only; split <;> simp
@[simp] theorem endMeta_boot (stream frame : Nat) : (endMeta s stream frame).boot = s.boot := by
  unfold endMeta; dsimp only; split <;> simp
@[simp] theorem endMeta_upd (stream frame : Nat) : (endMeta s stream frame).upd = s.upd := by
  unfold endMeta; dsimp only; split <;> simp
@[simp] theorem endMeta_otp (stream frame : Nat) : (endMeta s stream frame).otp = s.otp := by
  unfold endMeta; dsimp only; split <;> simp
@[simp] theorem endMeta_mgb (stream frame : Nat) : (endMeta s stream frame).mgb = s.mgb := by
  unfold endMeta; dsimp only; split <;> simp
@[simp] theorem endMeta_img (stream frame : Nat) : (endMeta s stream frame).img = s.img := by
  unfold endMeta; dsimp only; split <;> simp
@[simp] theorem endMeta_cnv (stream frame : Nat) : (endMeta s stream frame).cnv = s.cnv := by
  unfold endMeta; dsimp only; split <;> simp
@[simp] theorem endMeta_stat (stream frame : Nat) : (endMeta s stream frame).stat = s.stat := by
  unfold endMeta; dsimp only; split <;> simp
@[simp] theorem endMeta_aux (stream frame : Nat) : (endMeta s stream frame).aux = s.aux := by
  unfold endMeta; dsimp only; split <;> simp
@[simp] theorem endMeta_ae (stream frame : Nat) : (endMeta s stream frame).ae = s.ae := by
  unfold endMeta; dsimp only; split <;> simp
@[simp] theorem endMeta_freeCtr (stream frame : Nat) : (endMeta s stream frame).freeCtr = s.freeCtr := by
  unfold endMeta; dsimp only; split <;> simp
@[simp] theorem endMeta_pending (stream frame : Nat) : (endMeta s stream frame).pending = s.pending := by
  unfold endMeta; dsimp only; split <;> simp

@[simp] theorem queueRecord_ken (stream frame sub : Nat) (bytes : List Byte) (eof : Bool) : (queueRecord s stream frame sub bytes eof).ken = s.ken := by
  unfold queueRecord; dsimp only; (repeat' split) <;> simp
@[simp] theorem queueRecord_ptr (stream frame sub : Nat) (bytes : List Byte) (eof : Bool) : (queueRecord s stream frame sub bytes eof).ptr = s.ptr := by
  unfold queueRecord; dsimp only; (repeat' split) <;> simp
@[simp] theorem queueRecord_sct (stream frame sub : Nat) (bytes : List Byte) (eof : Bool) : (queueRecord s stream frame sub bytes eof).sct = s.sct := by
  unfold queueRecord; dsimp only; (repeat' split) <;> simp
@[simp] theorem queueRecord_heel (stream frame sub : Nat) (bytes : List Byte) (eof : Bool) : (queueRecord s stream frame sub bytes eof).heel = s.heel := by
  unfold queueRecord; dsimp only; (repeat' split) <;> simp
@[simp] theorem queueRecord_lsh (stream frame sub : Nat) (bytes : List Byte) (eof : Bool) : (queueRecord s stream frame sub bytes eof).lsh = s.lsh := by
  unfold queueRecord; dsimp only; (repeat' split) <;> simp
@[simp] theorem queueRecord_time (stream frame sub : Nat) (bytes : List Byte) (eof : Bool) : (queueRecord s stream frame sub bytes eof).time = s.time := by
  unfold queueRecord; dsimp only; (repeat' split) <;> simp
@[simp] theorem queueRecord_clk (stream frame sub : Nat) (bytes : List Byte) (eof : Bool) : (queueRecord s stream frame sub bytes eof).clk = s.clk := by
  unfold queueRecord; dsimp only; (repeat' split) <;> simp
@[simp] theorem queueRecord_sys (stream frame sub : Nat) (bytes : List Byte) (eof : Bool) : (queueRecord s stream frame sub bytes eof).sys = s.sys := by
  unfold queueRecord; dsimp only; (repeat' split) <;> simp
@[simp] theorem queueRecord_log (stream frame sub : Nat) (bytes : List Byte) (eof : Bool) : (queueRecord s stream frame sub bytes eof).log = s.log := by
  unfold queueRecord; dsimp only; (repeat' split) <;> simp
@[simp] theorem queueRecord_boot (stream frame sub : Nat) (bytes : List Byte) (eof : Bool) : (queueRecord s stream frame sub bytes eof).boot = s.boot := by
  unfold queueRecord; dsimp only; (repeat' split) <;> simp
@[simp] theorem queueRecord_upd (stream frame sub : Nat) (bytes : List Byte) (eof : Bool) : (queueRecord s stream frame sub bytes eof).upd = s.upd := by
  unfold queueRecord; dsimp only; (repeat' split) <;> simp
@[simp] theorem queueRecord_otp (stream frame sub : Nat) (bytes : List Byte) (eof : Bool) : (queueRecord s stream frame sub bytes eof).otp = s.otp := by
  unfold queueRecord; dsimp only; (repeat' split) <;> simp
@[simp] theorem queueRecord_mgb (stream frame sub : Nat) (bytes : List Byte) (eof : Bool) : (queueRecord s stream frame sub bytes eof).mgb = s.mgb := by
  unfold queueRecord; dsimp only; (repeat' split) <;> simp
@[simp] theorem queueRecord_img (stream frame sub : Nat) (bytes : List Byte) (eof : Bool) : (queueRecord s stream frame sub bytes eof).img = s.img := by
  unfold queueRecord; dsimp only; (repeat' split) <;> simp
@[simp] theorem queueRecord_cnv (stream frame sub : Nat) (bytes : List Byte) (eof : Bool) : (queueRecord s stream frame sub bytes eof).cnv = s.cnv := by
  unfold queueRecord; dsimp only; (repeat' split) <;> simp
@[simp] theorem queueRecord_stat (stream frame sub : Nat) (bytes : List Byte) (eof : Bool) : (queueRecord s stream frame sub bytes eof).stat = s.stat := by
  unfold queueRecord; dsimp only; (repeat' split) <;> simp
@[simp] theorem queueRecord_aux (stream frame sub : Nat) (bytes : List Byte) (eof : Bool) : (queueRecord s stream frame sub bytes eof).aux = s.aux := by
  unfold queueRecord; dsimp only; (repeat' split) <;> simp
@[simp] theorem queueRecord_ae (stream frame sub : Nat) (bytes : List Byte) (eof : Bool) : (queueRecord s stream frame sub bytes eof).ae = s.ae := by
  unfold queueRecord; dsimp only; (repeat' split) <;> simp
@[simp] theorem queueRecord_freeCtr (stream frame sub : Nat) (bytes : List Byte) (eof : Bool) : (queueRecord s stream frame sub bytes eof).freeCtr = s.freeCtr := by
  unfold queueRecord; dsimp only; (repeat' split) <;> simp
@[simp] theorem queueRecord_pending (stream frame sub : Nat) (bytes : List Byte) (eof : Bool) : (queueRecord s stream frame sub bytes eof).pending = s.pending := by
  unfold queueRecord; dsimp only; (repeat' split) <;> simp

@[simp] theorem barkEvent_ken (code : Nat) : (barkEvent s code).ken = s.ken := by
  rfl
@[simp] theorem barkEvent_ptr (code : Nat) : (barkEvent s code).ptr = s.ptr := by
  rfl
@[simp] theorem barkEvent_sct (code : Nat) : (barkEvent s code).sct = s.sct := by
  rfl
@[simp] theorem barkEvent_heel (code : Nat) : (barkEvent s code).heel = s.heel := by
  rfl
@[simp] theorem barkEvent_lsh (code : Nat) : (barkEvent s code).lsh = s.lsh := by
  rfl
@[simp] theorem barkEvent_time (code : Nat) : (barkEvent s code).time = s.time := by
  rfl
@[simp] theorem barkEvent_clk (code : Nat) : (barkEvent s code).clk = s.clk := by
  rfl
@[simp] theorem barkEvent_sys (code : Nat) : (barkEvent s code).sys = s.sys := by
  rfl
@[simp] theorem barkEvent_log (code : Nat) : (barkEvent s code).log = s.log := by
  rfl
@[simp] theorem barkEvent_boot (code : Nat) : (barkEvent s code).boot = s.boot := by
  rfl
@[simp] theorem barkEvent_upd (code : Nat) : (barkEvent s code).upd = s.upd := by
  rfl
@[simp] theorem barkEvent_otp (code : Nat) : (barkEvent s code).otp = s.otp := by
  rfl
@[simp] theorem barkEvent_nlk (code : Nat) : (barkEvent s code).nlk = s.nlk := by
  rfl
@[simp] theorem barkEvent_img (code : Nat) : (barkEvent s code).img = s.img := by
  rfl
@[simp] theorem barkEvent_cnv (code : Nat) : (barkEvent s code).cnv = s.cnv := by
  rfl
@[simp] theorem barkEvent_stat (code : Nat) : (barkEvent s code).stat = s.stat := by
  rfl
@[simp] theorem barkEvent_aux (code : Nat) : (barkEvent s code).aux = s.aux := by
  rfl
@[simp] theorem barkEvent_ae (code : Nat) : (barkEvent s code).ae = s.ae := by
  rfl
@[simp] theorem barkEvent_freeCtr (code : Nat) : (barkEvent s code).freeCtr = s.freeCtr := by
  rfl
@[simp] theorem barkEvent_pending (code : Nat) : (barkEvent s code).pending = s.pending := by
  rfl

@[simp] theorem logWrite_ken (x : LogEntry) : (logWrite s x).ken = s.ken := by
  unfold logWrite; simp only; split <;> split <;> rfl
@[simp] theorem logWrite_ptr (x : LogEntry) : (logWrite s x).ptr = s.ptr := by
  unfold logWrite; simp only; split <;> split <;> rfl
@[simp] theorem logWrite_sct (x : LogEntry) : (logWrite s x).sct = s.sct := by
  unfold logWrite; simp only; split <;> split <;> rfl
@[simp] theorem logWrite_heel (x : LogEntry) : (logWrite s x).heel = s.heel := by
  unfold logWrite; simp only; split <;> split <;> rfl
@[simp] theorem logWrite_lsh (x : LogEntry) : (logWrite s x).lsh = s.lsh := by
  unfold logWrite; simp only; split <;> split <;> rfl
@[simp] theorem logWrite_time (x : LogEntry) : (logWrite s x).time = s.time := by
  unfold logWrite; simp only; split <;> split <;> rfl
@[simp] theorem logWrite_clk (x : LogEntry) : (logWrite s x).clk = s.clk := by
  unfold logWrite; simp only; split <;> split <;> rfl
@[simp] theorem logWrite_sys (x : LogEntry) : (logWrite s x).sys = s.sys := by
  unfold logWrite; simp only; split <;> split <;> rfl
@[simp] theorem logWrite_boot (x : LogEntry) : (logWrite s x).boot = s.boot := by
  unfold logWrite; simp only; split <;> split <;> rfl
@[simp] theorem logWrite_upd (x : LogEntry) : (logWrite s x).upd = s.upd := by
  unfold logWrite; simp only; split <;> split <;> rfl
@[simp] theorem logWrite_otp (x : LogEntry) : (logWrite s x).otp = s.otp := by
  unfold logWrite; simp only; split <;> split <;> rfl
@[simp] theorem logWrite_mgb (x : LogEntry) : (logWrite s x).mgb = s.mgb := by
  unfold logWrite; simp only; split <;> split <;> rfl
@[simp] theorem logWrite_nlk (x : LogEntry) : (logWrite s x).nlk = s.nlk := by
  unfold logWrite; simp only; split <;> split <;> rfl
@[simp] theorem logWrite_img (x : LogEntry) : (logWrite s x).img = s.img := by
  unfold logWrite; simp only; split <;> split <;> rfl
@[simp] theorem logWrite_cnv (x : LogEntry) : (logWrite s x).cnv = s.cnv := by
  unfold logWrite; simp only; split <;> split <;> rfl
@[simp] theorem logWrite_stat (x : LogEntry) : (logWrite s x).stat = s.stat := by
  unfold logWrite; simp only; split <;> split <;> rfl
@[simp] theorem logWrite_aux (x : LogEntry) : (logWrite s x).aux = s.aux := by
  unfold logWrite; simp only; split <;> split <;> rfl
@[simp] theorem logWrite_ae (x : LogEntry) : (logWrite s x).ae = s.ae := by
  unfold logWrite; simp only; split <;> split <;> rfl
@[simp] theorem logWrite_freeCtr (x : LogEntry) : (logWrite s x).freeCtr = s.freeCtr := by
  unfold logWrite; simp only; split <;> split <;> rfl
@[simp] theorem logWrite_pending (x : LogEntry) : (logWrite s x).pending = s.pending := by
  unfold logWrite; simp only; split <;> split <;> rfl

/-- Putting the entries of a bus cycle into order moves entries of the log, and their copies that wait on stream 10. -/
@[simp] theorem orderCycle_ken (es : List LogEntry) (x : LogEntry) : (orderCycle s es x).ken = s.ken := by
  unfold orderCycle; dsimp only; split <;> rfl
@[simp] theorem orderCycle_ptr (es : List LogEntry) (x : LogEntry) : (orderCycle s es x).ptr = s.ptr := by
  unfold orderCycle; dsimp only; split <;> rfl
@[simp] theorem orderCycle_sct (es : List LogEntry) (x : LogEntry) : (orderCycle s es x).sct = s.sct := by
  unfold orderCycle; dsimp only; split <;> rfl
@[simp] theorem orderCycle_heel (es : List LogEntry) (x : LogEntry) : (orderCycle s es x).heel = s.heel := by
  unfold orderCycle; dsimp only; split <;> rfl
@[simp] theorem orderCycle_lsh (es : List LogEntry) (x : LogEntry) : (orderCycle s es x).lsh = s.lsh := by
  unfold orderCycle; dsimp only; split <;> rfl
@[simp] theorem orderCycle_regs (es : List LogEntry) (x : LogEntry) : (orderCycle s es x).regs = s.regs := by
  unfold orderCycle; dsimp only; split <;> rfl
@[simp] theorem orderCycle_time (es : List LogEntry) (x : LogEntry) : (orderCycle s es x).time = s.time := by
  unfold orderCycle; dsimp only; split <;> rfl
@[simp] theorem orderCycle_clk (es : List LogEntry) (x : LogEntry) : (orderCycle s es x).clk = s.clk := by
  unfold orderCycle; dsimp only; split <;> rfl
@[simp] theorem orderCycle_sys (es : List LogEntry) (x : LogEntry) : (orderCycle s es x).sys = s.sys := by
  unfold orderCycle; dsimp only; split <;> rfl
@[simp] theorem orderCycle_boot (es : List LogEntry) (x : LogEntry) : (orderCycle s es x).boot = s.boot := by
  unfold orderCycle; dsimp only; split <;> rfl
@[simp] theorem orderCycle_upd (es : List LogEntry) (x : LogEntry) : (orderCycle s es x).upd = s.upd := by
  unfold orderCycle; dsimp only; split <;> rfl
@[simp] theorem orderCycle_otp (es : List LogEntry) (x : LogEntry) : (orderCycle s es x).otp = s.otp := by
  unfold orderCycle; dsimp only; split <;> rfl
@[simp] theorem orderCycle_mgb (es : List LogEntry) (x : LogEntry) : (orderCycle s es x).mgb = s.mgb := by
  unfold orderCycle; dsimp only; split <;> rfl
@[simp] theorem orderCycle_img (es : List LogEntry) (x : LogEntry) : (orderCycle s es x).img = s.img := by
  unfold orderCycle; dsimp only; split <;> rfl
@[simp] theorem orderCycle_cnv (es : List LogEntry) (x : LogEntry) : (orderCycle s es x).cnv = s.cnv := by
  unfold orderCycle; dsimp only; split <;> rfl
@[simp] theorem orderCycle_stat (es : List LogEntry) (x : LogEntry) : (orderCycle s es x).stat = s.stat := by
  unfold orderCycle; dsimp only; split <;> rfl
@[simp] theorem orderCycle_aux (es : List LogEntry) (x : LogEntry) : (orderCycle s es x).aux = s.aux := by
  unfold orderCycle; dsimp only; split <;> rfl
@[simp] theorem orderCycle_ae (es : List LogEntry) (x : LogEntry) : (orderCycle s es x).ae = s.ae := by
  unfold orderCycle; dsimp only; split <;> rfl
@[simp] theorem orderCycle_freeCtr (es : List LogEntry) (x : LogEntry) : (orderCycle s es x).freeCtr = s.freeCtr := by
  unfold orderCycle; dsimp only; split <;> rfl
@[simp] theorem orderCycle_pending (es : List LogEntry) (x : LogEntry) : (orderCycle s es x).pending = s.pending := by
  unfold orderCycle; dsimp only; split <;> rfl

@[simp] theorem logItem_ken (i : LogItem) : (logItem s i).ken = s.ken := by
  unfold logItem; dsimp only; (repeat' split) <;> simp
@[simp] theorem logItem_ptr (i : LogItem) : (logItem s i).ptr = s.ptr := by
  unfold logItem; dsimp only; (repeat' split) <;> simp
@[simp] theorem logItem_sct (i : LogItem) : (logItem s i).sct = s.sct := by
  unfold logItem; dsimp only; (repeat' split) <;> simp
@[simp] theorem logItem_heel (i : LogItem) : (logItem s i).heel = s.heel := by
  unfold logItem; dsimp only; (repeat' split) <;> simp
@[simp] theorem logItem_lsh (i : LogItem) : (logItem s i).lsh = s.lsh := by
  unfold logItem; dsimp only; (repeat' split) <;> simp
@[simp] theorem logItem_time (i : LogItem) : (logItem s i).time = s.time := by
  unfold logItem; dsimp only; (repeat' split) <;> simp
@[simp] theorem logItem_clk (i : LogItem) : (logItem s i).clk = s.clk := by
  unfold logItem; dsimp only; (repeat' split) <;> simp
@[simp] theorem logItem_boot (i : LogItem) : (logItem s i).boot = s.boot := by
  unfold logItem; dsimp only; (repeat' split) <;> simp
@[simp] theorem logItem_upd (i : LogItem) : (logItem s i).upd = s.upd := by
  unfold logItem; dsimp only; (repeat' split) <;> simp
@[simp] theorem logItem_otp (i : LogItem) : (logItem s i).otp = s.otp := by
  unfold logItem; dsimp only; (repeat' split) <;> simp
@[simp] theorem logItem_img (i : LogItem) : (logItem s i).img = s.img := by
  unfold logItem; dsimp only; (repeat' split) <;> simp
@[simp] theorem logItem_cnv (i : LogItem) : (logItem s i).cnv = s.cnv := by
  unfold logItem; dsimp only; (repeat' split) <;> simp
@[simp] theorem logItem_stat (i : LogItem) : (logItem s i).stat = s.stat := by
  unfold logItem; dsimp only; (repeat' split) <;> simp
@[simp] theorem logItem_aux (i : LogItem) : (logItem s i).aux = s.aux := by
  unfold logItem; dsimp only; (repeat' split) <;> simp
@[simp] theorem logItem_ae (i : LogItem) : (logItem s i).ae = s.ae := by
  unfold logItem; dsimp only; (repeat' split) <;> simp
@[simp] theorem logItem_freeCtr (i : LogItem) : (logItem s i).freeCtr = s.freeCtr := by
  unfold logItem; dsimp only; (repeat' split) <;> simp
@[simp] theorem logItem_pending (i : LogItem) : (logItem s i).pending = s.pending := by
  unfold logItem; dsimp only; (repeat' split) <;> simp

@[simp] theorem logEvent_ken (b k v : Nat) (u : Bool) (x y z : Nat) :
    (logEvent s b k v u x y z).ken = s.ken := by
  unfold logEvent; dsimp only; (repeat' split) <;> first | rfl | simp
@[simp] theorem logEvent_ptr (b k v : Nat) (u : Bool) (x y z : Nat) :
    (logEvent s b k v u x y z).ptr = s.ptr := by
  unfold logEvent; dsimp only; (repeat' split) <;> first | rfl | simp
@[simp] theorem logEvent_sct (b k v : Nat) (u : Bool) (x y z : Nat) :
    (logEvent s b k v u x y z).sct = s.sct := by
  unfold logEvent; dsimp only; (repeat' split) <;> first | rfl | simp
@[simp] theorem logEvent_heel (b k v : Nat) (u : Bool) (x y z : Nat) :
    (logEvent s b k v u x y z).heel = s.heel := by
  unfold logEvent; dsimp only; (repeat' split) <;> first | rfl | simp
@[simp] theorem logEvent_lsh (b k v : Nat) (u : Bool) (x y z : Nat) :
    (logEvent s b k v u x y z).lsh = s.lsh := by
  unfold logEvent; dsimp only; (repeat' split) <;> first | rfl | simp
@[simp] theorem logEvent_time (b k v : Nat) (u : Bool) (x y z : Nat) :
    (logEvent s b k v u x y z).time = s.time := by
  unfold logEvent; dsimp only; (repeat' split) <;> first | rfl | simp
@[simp] theorem logEvent_clk (b k v : Nat) (u : Bool) (x y z : Nat) :
    (logEvent s b k v u x y z).clk = s.clk := by
  unfold logEvent; dsimp only; (repeat' split) <;> first | rfl | simp
@[simp] theorem logEvent_boot (b k v : Nat) (u : Bool) (x y z : Nat) :
    (logEvent s b k v u x y z).boot = s.boot := by
  unfold logEvent; dsimp only; (repeat' split) <;> first | rfl | simp
@[simp] theorem logEvent_upd (b k v : Nat) (u : Bool) (x y z : Nat) :
    (logEvent s b k v u x y z).upd = s.upd := by
  unfold logEvent; dsimp only; (repeat' split) <;> first | rfl | simp
@[simp] theorem logEvent_otp (b k v : Nat) (u : Bool) (x y z : Nat) :
    (logEvent s b k v u x y z).otp = s.otp := by
  unfold logEvent; dsimp only; (repeat' split) <;> first | rfl | simp
@[simp] theorem logEvent_img (b k v : Nat) (u : Bool) (x y z : Nat) :
    (logEvent s b k v u x y z).img = s.img := by
  unfold logEvent; dsimp only; (repeat' split) <;> first | rfl | simp
@[simp] theorem logEvent_cnv (b k v : Nat) (u : Bool) (x y z : Nat) :
    (logEvent s b k v u x y z).cnv = s.cnv := by
  unfold logEvent; dsimp only; (repeat' split) <;> first | rfl | simp
@[simp] theorem logEvent_stat (b k v : Nat) (u : Bool) (x y z : Nat) :
    (logEvent s b k v u x y z).stat = s.stat := by
  unfold logEvent; dsimp only; (repeat' split) <;> first | rfl | simp
@[simp] theorem logEvent_aux (b k v : Nat) (u : Bool) (x y z : Nat) :
    (logEvent s b k v u x y z).aux = s.aux := by
  unfold logEvent; dsimp only; (repeat' split) <;> first | rfl | simp
@[simp] theorem logEvent_ae (b k v : Nat) (u : Bool) (x y z : Nat) :
    (logEvent s b k v u x y z).ae = s.ae := by
  unfold logEvent; dsimp only; (repeat' split) <;> first | rfl | simp
@[simp] theorem logEvent_freeCtr (b k v : Nat) (u : Bool) (x y z : Nat) :
    (logEvent s b k v u x y z).freeCtr = s.freeCtr := by
  unfold logEvent; dsimp only; (repeat' split) <;> first | rfl | simp
@[simp] theorem logEvent_pending (b k v : Nat) (u : Bool) (x y z : Nat) :
    (logEvent s b k v u x y z).pending = s.pending := by
  unfold logEvent; dsimp only; (repeat' split) <;> first | rfl | simp

@[simp] theorem logReg_ken (k v a x y : Nat) : (logReg s k v a x y).ken = s.ken := by
  simp [logReg]
@[simp] theorem logReg_ptr (k v a x y : Nat) : (logReg s k v a x y).ptr = s.ptr := by
  simp [logReg]
@[simp] theorem logReg_sct (k v a x y : Nat) : (logReg s k v a x y).sct = s.sct := by
  simp [logReg]
@[simp] theorem logReg_heel (k v a x y : Nat) : (logReg s k v a x y).heel = s.heel := by
  simp [logReg]
@[simp] theorem logReg_lsh (k v a x y : Nat) : (logReg s k v a x y).lsh = s.lsh := by
  simp [logReg]
@[simp] theorem logReg_time (k v a x y : Nat) : (logReg s k v a x y).time = s.time := by
  simp [logReg]
@[simp] theorem logReg_clk (k v a x y : Nat) : (logReg s k v a x y).clk = s.clk := by
  simp [logReg]
@[simp] theorem logReg_boot (k v a x y : Nat) : (logReg s k v a x y).boot = s.boot := by
  simp [logReg]
@[simp] theorem logReg_upd (k v a x y : Nat) : (logReg s k v a x y).upd = s.upd := by
  simp [logReg]
@[simp] theorem logReg_otp (k v a x y : Nat) : (logReg s k v a x y).otp = s.otp := by
  simp [logReg]
@[simp] theorem logReg_img (k v a x y : Nat) : (logReg s k v a x y).img = s.img := by
  simp [logReg]
@[simp] theorem logReg_cnv (k v a x y : Nat) : (logReg s k v a x y).cnv = s.cnv := by
  simp [logReg]
@[simp] theorem logReg_stat (k v a x y : Nat) : (logReg s k v a x y).stat = s.stat := by
  simp [logReg]
@[simp] theorem logReg_aux (k v a x y : Nat) : (logReg s k v a x y).aux = s.aux := by
  simp [logReg]
@[simp] theorem logReg_ae (k v a x y : Nat) : (logReg s k v a x y).ae = s.ae := by
  simp [logReg]
@[simp] theorem logReg_freeCtr (k v a x y : Nat) : (logReg s k v a x y).freeCtr = s.freeCtr := by
  simp [logReg]
@[simp] theorem logReg_pending (k v a x y : Nat) : (logReg s k v a x y).pending = s.pending := by
  simp [logReg]

@[simp] theorem setTier_ken (t : Nat) : (setTier s t).ken = s.ken := by
  simp only [setTier]; split <;> simp
@[simp] theorem setTier_ptr (t : Nat) : (setTier s t).ptr = s.ptr := by
  simp only [setTier]; split <;> simp
@[simp] theorem setTier_sct (t : Nat) : (setTier s t).sct = s.sct := by
  simp only [setTier]; split <;> simp
@[simp] theorem setTier_heel (t : Nat) : (setTier s t).heel = s.heel := by
  simp only [setTier]; split <;> simp
@[simp] theorem setTier_lsh (t : Nat) : (setTier s t).lsh = s.lsh := by
  simp only [setTier]; split <;> simp
@[simp] theorem setTier_time (t : Nat) : (setTier s t).time = s.time := by
  simp only [setTier]; split <;> simp
@[simp] theorem setTier_clk (t : Nat) : (setTier s t).clk = s.clk := by
  simp only [setTier]; split <;> simp
@[simp] theorem setTier_boot (t : Nat) : (setTier s t).boot = s.boot := by
  simp only [setTier]; split <;> simp
@[simp] theorem setTier_upd (t : Nat) : (setTier s t).upd = s.upd := by
  simp only [setTier]; split <;> simp
@[simp] theorem setTier_otp (t : Nat) : (setTier s t).otp = s.otp := by
  simp only [setTier]; split <;> simp
@[simp] theorem setTier_img (t : Nat) : (setTier s t).img = s.img := by
  simp only [setTier]; split <;> simp
@[simp] theorem setTier_cnv (t : Nat) : (setTier s t).cnv = s.cnv := by
  simp only [setTier]; split <;> simp
@[simp] theorem setTier_stat (t : Nat) : (setTier s t).stat = s.stat := by
  simp only [setTier]; split <;> simp
@[simp] theorem setTier_aux (t : Nat) : (setTier s t).aux = s.aux := by
  simp only [setTier]; split <;> simp
@[simp] theorem setTier_ae (t : Nat) : (setTier s t).ae = s.ae := by
  simp only [setTier]; split <;> simp
@[simp] theorem setTier_freeCtr (t : Nat) : (setTier s t).freeCtr = s.freeCtr := by
  simp only [setTier]; split <;> simp
@[simp] theorem setTier_pending (t : Nat) : (setTier s t).pending = s.pending := by
  simp only [setTier]; split <;> simp

/-- Putting packets into their queues changes no register. -/
theorem cur_foldEnqueue (ps : List Pkt) (b : Nat) : (ps.foldl enqueue s).cur b = s.cur b :=
  cur_congr (by simp) b

theorem cur_ite {c : Prop} [Decidable c] {x y : State} {b : Nat} {w : Word} (hx : x.cur b = w)
    (hy : y.cur b = w) : (if c then x else y).cur b = w := by
  split
  · exact hx
  · exact hy

theorem act_ite {c : Prop} [Decidable c] {x y : State} {m : SMap Word} (hx : x.regs.act = m)
    (hy : y.regs.act = m) : (if c then x else y).regs.act = m := by
  split
  · exact hx
  · exact hy

/-- A record put on a stream changes at most the counter of packets dropped there, where the record does
not end the frame. -/
theorem cur_queueRecord (stream frame sub b : Nat) (bytes : List Byte) (h : b ≠ nlkDrop stream) :
    (queueRecord s stream frame sub bytes false).cur b = s.cur b :=
  (cur_ite (cur_congr (by simp) b) (cur_bump_other (pushTail s _ _) _ b h)).trans (cur_congr (by simp) b)

/-- A Bark occurrence changes no register but MGB_BARK_PEND. -/
theorem cur_barkEvent (code b : Nat) (h : b ≠ 0x120010) : (barkEvent s code).cur b = s.cur b :=
  rget_rput_other s.regs.cur _ b _ h

theorem cur_logWrite (x : LogEntry) (b : Nat) (h : b ∉ logRegs) : (logWrite s x).cur b = s.cur b := by
  simp only [logRegs, List.mem_cons, List.not_mem_nil, or_false, not_or] at h
  unfold logWrite
  dsimp only
  (repeat' split) <;>
    simp [State.cur, bump, bumpBy, setRegN, setReg, rget_rput_other, h]

/-- An entry of the event log changes no register but the log's own counters, the drop counter of stream
10 and MGB_BARK_PEND. -/
theorem cur_logItem (i : LogItem) (b : Nat) (h : b ∉ logRegs) : (logItem s i).cur b = s.cur b := by
  have h5 := h
  simp only [logRegs, List.mem_cons, List.not_mem_nil, or_false, not_or] at h5
  obtain ⟨h1, h2, h3, h4, h6⟩ := h5
  have hd : b ≠ nlkDrop 10 := by simpa [nlkDrop] using h4
  unfold logItem
  extract_lets sec cnts code n log2 s2 e es s4
  have e4 : s4.cur b = s.cur b :=
    (cur_congr (congrArg Regs.cur (orderCycle_regs _ _ _)) b).trans ((cur_queueRecord _ _ _ _ _ _ hd).trans (cur_logWrite s2 e b h))
  refine cur_ite (cur_ite ((cur_barkEvent s4 2 b h6).trans e4) e4) ?_
  rw [cur_bump_other _ _ b h3]
  rfl

/-- So does an event that is logged, at once or with the others of its bus cycle. -/
theorem cur_logEvent (k v c x y z b : Nat) (u : Bool) (h : b ∉ logRegs) :
    (logEvent s k v c u x y z).cur b = s.cur b := by
  unfold logEvent
  extract_lets i s1 s2
  have e2 : s2.cur b = s.cur b := by simp only [s2, s1]; split <;> rfl
  split
  · exact e2
  · exact (cur_logItem _ _ b h).trans e2

theorem cur_logReg (k v a x y b : Nat) (h : b ∉ logRegs) : (logReg s k v a x y).cur b = s.cur b :=
  cur_logEvent s _ k v _ _ _ b false h

end Sys2Proof.Laws
end

