-- ==== Sys2Proof/Laws/Keep.lean ====
section
/-!
SUPPORT. What no operation touches: the fuses, but for the pulses and the opening, and the queue of the
commands that wait.  One lemma per operation.
-/

namespace Sys2Proof.Laws

open Sys2Proof.Machine

theorem fuse_foldl {α : Type} (f : State → α → State) (h : ∀ s x, (f s x).otp.fuse = s.otp.fuse)
    (l : List α) (s : State) : (l.foldl f s).otp.fuse = s.otp.fuse := by
  induction l generalizing s with
  | nil => rfl
  | cons x t ih => exact (ih (f s x)).trans (h s x)

theorem kept_ite2 {β : Type} {c : Prop} [Decidable c] {x y : β × State} {s : State}
    (hx : x.2.otp.fuse = s.otp.fuse ∧ x.2.pending = s.pending)
    (hy : y.2.otp.fuse = s.otp.fuse ∧ y.2.pending = s.pending) :
    (if c then x else y).2.otp.fuse = s.otp.fuse ∧ (if c then x else y).2.pending = s.pending := by
  split
  · exact hx
  · exact hy

theorem kept_of_snd {β : Type} {x : β × State} {b : β} {t s : State}
    (hk : x.2.otp.fuse = s.otp.fuse ∧ x.2.pending = s.pending) (h : x = (b, t)) :
    t.otp.fuse = s.otp.fuse ∧ t.pending = s.pending := by
  rw [h] at hk
  exact hk

theorem pending_foldl {α : Type} (f : State → α → State) (h : ∀ s x, (f s x).pending = s.pending)
    (l : List α) (s : State) : (l.foldl f s).pending = s.pending := by
  induction l generalizing s with
  | nil => rfl
  | cons x t ih => exact (ih (f s x)).trans (h s x)

/-- What fuse pulses alone may do to the state, seen from the fuses and the queue: no level falls, none
passes 3, the array keeps its canonical form, and the queue stays. -/
structure Grown (s t : State) : Prop where
  pending : t.pending = s.pending
  wf : SMap.wf (fun _ => 0) s.otp.fuse = true → SMap.wf (fun _ => 0) t.otp.fuse = true
  mono : ∀ b, fuseLevel s b ≤ fuseLevel t b
  top : (∀ b, fuseLevel s b ≤ 3) → ∀ b, fuseLevel t b ≤ 3

theorem Grown.of_kept {s t : State} (h : t.otp.fuse = s.otp.fuse ∧ t.pending = s.pending) : Grown s t where
  pending := h.2
  wf := fun w => by rw [h.1]; exact w
  mono := fun b => Nat.le_of_eq (by rw [fuseLevel, fuseLevel, h.1])
  top := fun w b => by have := w b; rw [fuseLevel] at *; rw [h.1]; exact this

theorem Grown.refl (s : State) : Grown s s := Grown.of_kept ⟨rfl, rfl⟩

theorem Grown.trans {s t u : State} (h : Grown s t) (g : Grown t u) : Grown s u where
  pending := g.pending.trans h.pending
  wf := fun w => g.wf (h.wf w)
  mono := fun b => Nat.le_trans (h.mono b) (g.mono b)
  top := fun w => g.top (h.top w)

theorem kept_drawFree (s : State) :
    (drawFree s).2.otp.fuse = s.otp.fuse ∧ (drawFree s).2.pending = s.pending := by
  simp [drawFree]
@[simp] theorem fuse_drawFree (s : State) :
    (drawFree s).2.otp.fuse = s.otp.fuse := (kept_drawFree s).1
@[simp] theorem pending_drawFree (s : State) :
    (drawFree s).2.pending = s.pending := (kept_drawFree s).2

theorem kept_clockCycle (s : State) :
    (clockCycle s).otp.fuse = s.otp.fuse ∧ (clockCycle s).pending = s.pending := by
  unfold clockCycle; dsimp only; (repeat' split) <;> simp
@[simp] theorem fuse_clockCycle (s : State) :
    (clockCycle s).otp.fuse = s.otp.fuse := (kept_clockCycle s).1
@[simp] theorem pending_clockCycle (s : State) :
    (clockCycle s).pending = s.pending := (kept_clockCycle s).2

theorem kept_queueLineOf (s : State) (key : Nat) (stream : Nat) (frame : Nat) (j : Nat) (body : List Byte) :
    (queueLineOf s key stream frame j body).otp.fuse = s.otp.fuse ∧ (queueLineOf s key stream frame j body).pending = s.pending := by
  simp [queueLineOf, apply_ite State.otp, apply_ite Otp.fuse, apply_ite State.pending, fuse_foldl, pending_foldl]
@[simp] theorem fuse_queueLineOf (s : State) (key : Nat) (stream : Nat) (frame : Nat) (j : Nat) (body : List Byte) :
    (queueLineOf s key stream frame j body).otp.fuse = s.otp.fuse := (kept_queueLineOf s key stream frame j body).1
@[simp] theorem pending_queueLineOf (s : State) (key : Nat) (stream : Nat) (frame : Nat) (j : Nat) (body : List Byte) :
    (queueLineOf s key stream frame j body).pending = s.pending := (kept_queueLineOf s key stream frame j body).2

theorem kept_queueLine (s : State) (stream : Nat) (frame : Nat) (j : Nat) (body : List Byte) :
    (queueLine s stream frame j body).otp.fuse = s.otp.fuse ∧ (queueLine s stream frame j body).pending = s.pending := by
  simp [queueLine]
@[simp] theorem fuse_queueLine (s : State) (stream : Nat) (frame : Nat) (j : Nat) (body : List Byte) :
    (queueLine s stream frame j body).otp.fuse = s.otp.fuse := (kept_queueLine s stream frame j body).1
@[simp] theorem pending_queueLine (s : State) (stream : Nat) (frame : Nat) (j : Nat) (body : List Byte) :
    (queueLine s stream frame j body).pending = s.pending := (kept_queueLine s stream frame j body).2

theorem kept_endFrame (s : State) (stream : Nat) (frame : Nat) (num : Nat) (state : Nat) :
    (endFrame s stream frame num state).otp.fuse = s.otp.fuse ∧ (endFrame s stream frame num state).pending = s.pending := by
  simp [endFrame]
@[simp] theorem fuse_endFrame (s : State) (stream : Nat) (frame : Nat) (num : Nat) (state : Nat) :
    (endFrame s stream frame num state).otp.fuse = s.otp.fuse := (kept_endFrame s stream frame num state).1
@[simp] theorem pending_endFrame (s : State) (stream : Nat) (frame : Nat) (num : Nat) (state : Nat) :
    (endFrame s stream frame num state).pending = s.pending := (kept_endFrame s stream frame num state).2

theorem kept_queueResp (s : State) (type : Nat) (link : Nat) (tag : Nat) (body : List Byte) :
    (queueResp s type link tag body).otp.fuse = s.otp.fuse ∧ (queueResp s type link tag body).pending = s.pending := by
  simp [queueResp]
@[simp] theorem fuse_queueResp (s : State) (type : Nat) (link : Nat) (tag : Nat) (body : List Byte) :
    (queueResp s type link tag body).otp.fuse = s.otp.fuse := (kept_queueResp s type link tag body).1
@[simp] theorem pending_queueResp (s : State) (type : Nat) (link : Nat) (tag : Nat) (body : List Byte) :
    (queueResp s type link tag body).pending = s.pending := (kept_queueResp s type link tag body).2

theorem kept_statusResp (s : State) (link : Nat) (tag : Nat) (req : Nat) (status : Nat) (detail : Nat) (tb : Nat) :
    (statusResp s link tag req status detail tb).otp.fuse = s.otp.fuse ∧ (statusResp s link tag req status detail tb).pending = s.pending := by
  simp [statusResp]
@[simp] theorem fuse_statusResp (s : State) (link : Nat) (tag : Nat) (req : Nat) (status : Nat) (detail : Nat) (tb : Nat) :
    (statusResp s link tag req status detail tb).otp.fuse = s.otp.fuse := (kept_statusResp s link tag req status detail tb).1
@[simp] theorem pending_statusResp (s : State) (link : Nat) (tag : Nat) (req : Nat) (status : Nat) (detail : Nat) (tb : Nat) :
    (statusResp s link tag req status detail tb).pending = s.pending := (kept_statusResp s link tag req status detail tb).2

theorem kept_inCycle (s : State) (f : State → State)
    (h : ∀ u, (f u).otp.fuse = u.otp.fuse ∧ (f u).pending = u.pending) :
    (inCycle s f).otp.fuse = s.otp.fuse ∧ (inCycle s f).pending = s.pending := by
  unfold inCycle
  split
  · exact h s
  · dsimp only
    refine ⟨(fuse_foldl _ (fun _ _ => by simp) _ _).trans ?_, (pending_foldl _ (fun _ _ => by simp) _ _).trans ?_⟩
    · exact (h _).1
    · exact (h _).2

theorem kept_callRestartAs (s : State) (cause : Nat) (cls : Nat) :
    (callRestartAs s cause cls).otp.fuse = s.otp.fuse ∧ (callRestartAs s cause cls).pending = s.pending := by
  simp [callRestartAs, apply_ite State.otp, apply_ite Otp.fuse, apply_ite State.pending, fuse_foldl, pending_foldl]
@[simp] theorem fuse_callRestartAs (s : State) (cause : Nat) (cls : Nat) :
    (callRestartAs s cause cls).otp.fuse = s.otp.fuse := (kept_callRestartAs s cause cls).1
@[simp] theorem pending_callRestartAs (s : State) (cause : Nat) (cls : Nat) :
    (callRestartAs s cause cls).pending = s.pending := (kept_callRestartAs s cause cls).2

theorem kept_callRestart (s : State) (cause : Nat) :
    (callRestart s cause).otp.fuse = s.otp.fuse ∧ (callRestart s cause).pending = s.pending := by
  simp [callRestart, apply_ite State.otp, apply_ite Otp.fuse, apply_ite State.pending, fuse_foldl, pending_foldl]
@[simp] theorem fuse_callRestart (s : State) (cause : Nat) :
    (callRestart s cause).otp.fuse = s.otp.fuse := (kept_callRestart s cause).1
@[simp] theorem pending_callRestart (s : State) (cause : Nat) :
    (callRestart s cause).pending = s.pending := (kept_callRestart s cause).2

theorem kept_aeStop (s : State) :
    (aeStop s).otp.fuse = s.otp.fuse ∧ (aeStop s).pending = s.pending := by
  simp [aeStop, apply_ite State.otp, apply_ite State.pending]
@[simp] theorem fuse_aeStop (s : State) :
    (aeStop s).otp.fuse = s.otp.fuse := (kept_aeStop s).1
@[simp] theorem pending_aeStop (s : State) :
    (aeStop s).pending = s.pending := (kept_aeStop s).2

theorem kept_abortBracket (s : State) (src : Src) :
    (abortBracket s src).otp.fuse = s.otp.fuse ∧ (abortBracket s src).pending = s.pending := by
  simp [abortBracket, apply_ite State.otp, apply_ite Otp.fuse, apply_ite State.pending]
@[simp] theorem fuse_abortBracket (s : State) (src : Src) :
    (abortBracket s src).otp.fuse = s.otp.fuse := (kept_abortBracket s src).1
@[simp] theorem pending_abortBracket (s : State) (src : Src) :
    (abortBracket s src).pending = s.pending := (kept_abortBracket s src).2

theorem kept_reachCycle (s : State) (t : Nat) :
    (reachCycle s t).otp.fuse = s.otp.fuse ∧ (reachCycle s t).pending = s.pending := by
  unfold reachCycle; dsimp only; (repeat' split) <;> simp [fuse_foldl, pending_foldl]
@[simp] theorem fuse_reachCycle (s : State) (t : Nat) :
    (reachCycle s t).otp.fuse = s.otp.fuse := (kept_reachCycle s t).1
@[simp] theorem pending_reachCycle (s : State) (t : Nat) :
    (reachCycle s t).pending = s.pending := (kept_reachCycle s t).2

theorem kept_landWord (s : State) (x : Nat × Word × Word) :
    (landWord s x).otp.fuse = s.otp.fuse ∧ (landWord s x).pending = s.pending := by
  simp [landWord]
@[simp] theorem fuse_landWord (s : State) (x : Nat × Word × Word) :
    (landWord s x).otp.fuse = s.otp.fuse := (kept_landWord s x).1
@[simp] theorem pending_landWord (s : State) (x : Nat × Word × Word) :
    (landWord s x).pending = s.pending := (kept_landWord s x).2

theorem kept_landSet (s : State) (g : List (Nat × Word × Word)) :
    (landSet s g).otp.fuse = s.otp.fuse ∧ (landSet s g).pending = s.pending := by
  exact ⟨(fuse_foldl _ (fun _ _ => by simp) _ _), (pending_foldl _ (fun _ _ => by simp) _ _)⟩
@[simp] theorem fuse_landSet (s : State) (g : List (Nat × Word × Word)) :
    (landSet s g).otp.fuse = s.otp.fuse := (kept_landSet s g).1
@[simp] theorem pending_landSet (s : State) (g : List (Nat × Word × Word)) :
    (landSet s g).pending = s.pending := (kept_landSet s g).2

theorem kept_expSet (s : State) (src : Src) (v : Word) :
    (expSet s src v).otp.fuse = s.otp.fuse ∧ (expSet s src v).pending = s.pending := by
  unfold expSet; dsimp only; (repeat' split) <;> simp
@[simp] theorem fuse_expSet (s : State) (src : Src) (v : Word) :
    (expSet s src v).otp.fuse = s.otp.fuse := (kept_expSet s src v).1
@[simp] theorem pending_expSet (s : State) (src : Src) (v : Word) :
    (expSet s src v).pending = s.pending := (kept_expSet s src v).2

theorem kept_deferOne (at_ : Nat) (s : State) (src : Src) :
    (deferOne at_ s src).2.otp.fuse = s.otp.fuse ∧ (deferOne at_ s src).2.pending = s.pending := by
  unfold deferOne
  (repeat' split) <;> simp
@[simp] theorem fuse_deferOne (at_ : Nat) (s : State) (src : Src) :
    (deferOne at_ s src).2.otp.fuse = s.otp.fuse := (kept_deferOne at_ s src).1
@[simp] theorem pending_deferOne (at_ : Nat) (s : State) (src : Src) :
    (deferOne at_ s src).2.pending = s.pending := (kept_deferOne at_ s src).2

theorem kept_commitRegs (s : State) (first : Bool) (at_ : Nat) :
    (commitRegs s first at_).otp.fuse = s.otp.fuse ∧ (commitRegs s first at_).pending = s.pending := by
  simp [commitRegs]
@[simp] theorem fuse_commitRegs (s : State) (first : Bool) (at_ : Nat) :
    (commitRegs s first at_).otp.fuse = s.otp.fuse := (kept_commitRegs s first at_).1
@[simp] theorem pending_commitRegs (s : State) (first : Bool) (at_ : Nat) :
    (commitRegs s first at_).pending = s.pending := (kept_commitRegs s first at_).2

theorem kept_pulseNode (s : State) (t : Nat) (n : Nat) :
    (pulseNode s t n).otp.fuse = s.otp.fuse ∧ (pulseNode s t n).pending = s.pending := by
  unfold pulseNode; dsimp only; (repeat' split) <;> simp
@[simp] theorem fuse_pulseNode (s : State) (t : Nat) (n : Nat) :
    (pulseNode s t n).otp.fuse = s.otp.fuse := (kept_pulseNode s t n).1
@[simp] theorem pending_pulseNode (s : State) (t : Nat) (n : Nat) :
    (pulseNode s t n).pending = s.pending := (kept_pulseNode s t n).2

theorem kept_stampTc (s : State) (e : Nat) :
    (stampTc s e).otp.fuse = s.otp.fuse ∧ (stampTc s e).pending = s.pending := by
  simp [stampTc]
@[simp] theorem fuse_stampTc (s : State) (e : Nat) :
    (stampTc s e).otp.fuse = s.otp.fuse := (kept_stampTc s e).1
@[simp] theorem pending_stampTc (s : State) (e : Nat) :
    (stampTc s e).pending = s.pending := (kept_stampTc s e).2

theorem kept_sendTileRow (s : State) (st : Nat) (j : Nat) :
    (sendTileRow s st j).otp.fuse = s.otp.fuse ∧ (sendTileRow s st j).pending = s.pending := by
  simp [sendTileRow, apply_ite State.otp, apply_ite Otp.fuse, apply_ite State.pending, fuse_foldl, pending_foldl]
@[simp] theorem fuse_sendTileRow (s : State) (st : Nat) (j : Nat) :
    (sendTileRow s st j).otp.fuse = s.otp.fuse := (kept_sendTileRow s st j).1
@[simp] theorem pending_sendTileRow (s : State) (st : Nat) (j : Nat) :
    (sendTileRow s st j).pending = s.pending := (kept_sendTileRow s st j).2

theorem kept_sendBurstRow (s : State) (j : Nat) :
    (sendBurstRow s j).otp.fuse = s.otp.fuse ∧ (sendBurstRow s j).pending = s.pending := by
  simp [sendBurstRow, apply_ite State.otp, apply_ite Otp.fuse, apply_ite State.pending, fuse_foldl, pending_foldl]
@[simp] theorem fuse_sendBurstRow (s : State) (j : Nat) :
    (sendBurstRow s j).otp.fuse = s.otp.fuse := (kept_sendBurstRow s j).1
@[simp] theorem pending_sendBurstRow (s : State) (j : Nat) :
    (sendBurstRow s j).pending = s.pending := (kept_sendBurstRow s j).2

theorem kept_closeStream (s : State) (st : Nat) (frame : Nat) :
    (closeStream s st frame).otp.fuse = s.otp.fuse ∧ (closeStream s st frame).pending = s.pending := by
  simp [closeStream, apply_ite State.otp, apply_ite Otp.fuse, apply_ite State.pending]
@[simp] theorem fuse_closeStream (s : State) (st : Nat) (frame : Nat) :
    (closeStream s st frame).otp.fuse = s.otp.fuse := (kept_closeStream s st frame).1
@[simp] theorem pending_closeStream (s : State) (st : Nat) (frame : Nat) :
    (closeStream s st frame).pending = s.pending := (kept_closeStream s st frame).2

theorem kept_deliver (s : State) (b : Block) :
    (deliver s b).otp.fuse = s.otp.fuse ∧ (deliver s b).pending = s.pending := by
  unfold deliver; dsimp only; (repeat' split) <;> simp [fuse_foldl, pending_foldl]
@[simp] theorem fuse_deliver (s : State) (b : Block) :
    (deliver s b).otp.fuse = s.otp.fuse := (kept_deliver s b).1
@[simp] theorem pending_deliver (s : State) (b : Block) :
    (deliver s b).pending = s.pending := (kept_deliver s b).2

theorem kept_sendObRows (s : State) (i : Nat) :
    (sendObRows s i).otp.fuse = s.otp.fuse ∧ (sendObRows s i).pending = s.pending := by
  simp [sendObRows, fuse_foldl, pending_foldl]
@[simp] theorem fuse_sendObRows (s : State) (i : Nat) :
    (sendObRows s i).otp.fuse = s.otp.fuse := (kept_sendObRows s i).1
@[simp] theorem pending_sendObRows (s : State) (i : Nat) :
    (sendObRows s i).pending = s.pending := (kept_sendObRows s i).2

theorem kept_beginRow (s : State) (kind : Nat) (j : Nat) :
    (beginRow s kind j).otp.fuse = s.otp.fuse ∧ (beginRow s kind j).pending = s.pending := by
  simp [beginRow]
@[simp] theorem fuse_beginRow (s : State) (kind : Nat) (j : Nat) :
    (beginRow s kind j).otp.fuse = s.otp.fuse := (kept_beginRow s kind j).1
@[simp] theorem pending_beginRow (s : State) (kind : Nat) (j : Nat) :
    (beginRow s kind j).pending = s.pending := (kept_beginRow s kind j).2

theorem kept_endRow (s : State) (j : Nat) :
    (endRow s j).otp.fuse = s.otp.fuse ∧ (endRow s j).pending = s.pending := by
  simp [endRow]
@[simp] theorem fuse_endRow (s : State) (j : Nat) :
    (endRow s j).otp.fuse = s.otp.fuse := (kept_endRow s j).1
@[simp] theorem pending_endRow (s : State) (j : Nat) :
    (endRow s j).pending = s.pending := (kept_endRow s j).2

theorem kept_storeSlot (s : State) (b : Block) (c : SlotCap) :
    (storeSlot s b c).otp.fuse = s.otp.fuse ∧ (storeSlot s b c).pending = s.pending := by
  unfold storeSlot; dsimp only; (repeat' split) <;> simp
@[simp] theorem fuse_storeSlot (s : State) (b : Block) (c : SlotCap) :
    (storeSlot s b c).otp.fuse = s.otp.fuse := (kept_storeSlot s b c).1
@[simp] theorem pending_storeSlot (s : State) (b : Block) (c : SlotCap) :
    (storeSlot s b c).pending = s.pending := (kept_storeSlot s b c).2

theorem kept_deliverWaiting (s : State) (b : Block) :
    (deliverWaiting s b).otp.fuse = s.otp.fuse ∧ (deliverWaiting s b).pending = s.pending := by
  simp [deliverWaiting, fuse_foldl, pending_foldl]
@[simp] theorem fuse_deliverWaiting (s : State) (b : Block) :
    (deliverWaiting s b).otp.fuse = s.otp.fuse := (kept_deliverWaiting s b).1
@[simp] theorem pending_deliverWaiting (s : State) (b : Block) :
    (deliverWaiting s b).pending = s.pending := (kept_deliverWaiting s b).2

theorem kept_beginOb (s : State) :
    (beginOb s).otp.fuse = s.otp.fuse ∧ (beginOb s).pending = s.pending := by
  simp [beginOb]
@[simp] theorem fuse_beginOb (s : State) :
    (beginOb s).otp.fuse = s.otp.fuse := (kept_beginOb s).1
@[simp] theorem pending_beginOb (s : State) :
    (beginOb s).pending = s.pending := (kept_beginOb s).2

theorem kept_refreshNow (s : State) :
    (refreshNow s).otp.fuse = s.otp.fuse ∧ (refreshNow s).pending = s.pending := by
  simp [refreshNow, apply_ite State.otp, apply_ite State.pending]
@[simp] theorem fuse_refreshNow (s : State) :
    (refreshNow s).otp.fuse = s.otp.fuse := (kept_refreshNow s).1
@[simp] theorem pending_refreshNow (s : State) :
    (refreshNow s).pending = s.pending := (kept_refreshNow s).2

theorem kept_refreshWaits (s : State) :
    (refreshWaits s).otp.fuse = s.otp.fuse ∧ (refreshWaits s).pending = s.pending := by
  simp [refreshWaits]
@[simp] theorem fuse_refreshWaits (s : State) :
    (refreshWaits s).otp.fuse = s.otp.fuse := (kept_refreshWaits s).1
@[simp] theorem pending_refreshWaits (s : State) :
    (refreshWaits s).pending = s.pending := (kept_refreshWaits s).2

theorem kept_refreshEdge (s : State) :
    (refreshEdge s).otp.fuse = s.otp.fuse ∧ (refreshEdge s).pending = s.pending := by
  unfold refreshEdge; dsimp only; (repeat' split) <;> simp
@[simp] theorem fuse_refreshEdge (s : State) :
    (refreshEdge s).otp.fuse = s.otp.fuse := (kept_refreshEdge s).1
@[simp] theorem pending_refreshEdge (s : State) :
    (refreshEdge s).pending = s.pending := (kept_refreshEdge s).2

theorem kept_statRow (s : State) (j : Nat) :
    (statRow s j).otp.fuse = s.otp.fuse ∧ (statRow s j).pending = s.pending := by
  simp [statRow, apply_ite State.otp, apply_ite Otp.fuse, apply_ite State.pending, fuse_foldl, pending_foldl]
@[simp] theorem fuse_statRow (s : State) (j : Nat) :
    (statRow s j).otp.fuse = s.otp.fuse := (kept_statRow s j).1
@[simp] theorem pending_statRow (s : State) (j : Nat) :
    (statRow s j).pending = s.pending := (kept_statRow s j).2

theorem kept_openBank (s : State) :
    (openBank s).otp.fuse = s.otp.fuse ∧ (openBank s).pending = s.pending := by
  simp [openBank]
@[simp] theorem fuse_openBank (s : State) :
    (openBank s).otp.fuse = s.otp.fuse := (kept_openBank s).1
@[simp] theorem pending_openBank (s : State) :
    (openBank s).pending = s.pending := (kept_openBank s).2

theorem kept_endStats (s : State) (k : Nat) :
    (endStats s k).otp.fuse = s.otp.fuse ∧ (endStats s k).pending = s.pending := by
  simp [endStats, apply_ite State.otp, apply_ite State.pending]
@[simp] theorem fuse_endStats (s : State) (k : Nat) :
    (endStats s k).otp.fuse = s.otp.fuse := (kept_endStats s k).1
@[simp] theorem pending_endStats (s : State) (k : Nat) :
    (endStats s k).pending = s.pending := (kept_endStats s k).2

theorem kept_completeBank (s : State) :
    (completeBank s).otp.fuse = s.otp.fuse ∧ (completeBank s).pending = s.pending := by
  simp [completeBank, apply_ite State.otp, apply_ite Otp.fuse, apply_ite State.pending, fuse_foldl, pending_foldl]
@[simp] theorem fuse_completeBank (s : State) :
    (completeBank s).otp.fuse = s.otp.fuse := (kept_completeBank s).1
@[simp] theorem pending_completeBank (s : State) :
    (completeBank s).pending = s.pending := (kept_completeBank s).2

theorem kept_setAuxFrames (s : State) (pair : Nat) (l : List AuxFrame) :
    (setAuxFrames s pair l).otp.fuse = s.otp.fuse ∧ (setAuxFrames s pair l).pending = s.pending := by
  simp [setAuxFrames]
@[simp] theorem fuse_setAuxFrames (s : State) (pair : Nat) (l : List AuxFrame) :
    (setAuxFrames s pair l).otp.fuse = s.otp.fuse := (kept_setAuxFrames s pair l).1
@[simp] theorem pending_setAuxFrames (s : State) (pair : Nat) (l : List AuxFrame) :
    (setAuxFrames s pair l).pending = s.pending := (kept_setAuxFrames s pair l).2

theorem kept_modOpen (s : State) (pair : Nat) (f : AuxFrame → AuxFrame) :
    (modOpen s pair f).otp.fuse = s.otp.fuse ∧ (modOpen s pair f).pending = s.pending := by
  simp [modOpen]
@[simp] theorem fuse_modOpen (s : State) (pair : Nat) (f : AuxFrame → AuxFrame) :
    (modOpen s pair f).otp.fuse = s.otp.fuse := (kept_modOpen s pair f).1
@[simp] theorem pending_modOpen (s : State) (pair : Nat) (f : AuxFrame → AuxFrame) :
    (modOpen s pair f).pending = s.pending := (kept_modOpen s pair f).2

theorem kept_auxStats (s : State) (pair : Nat) (f : AuxFrame) :
    (auxStats s pair f).otp.fuse = s.otp.fuse ∧ (auxStats s pair f).pending = s.pending := by
  simp [auxStats, apply_ite State.otp, apply_ite State.pending, fuse_foldl, pending_foldl]
@[simp] theorem fuse_auxStats (s : State) (pair : Nat) (f : AuxFrame) :
    (auxStats s pair f).otp.fuse = s.otp.fuse := (kept_auxStats s pair f).1
@[simp] theorem pending_auxStats (s : State) (pair : Nat) (f : AuxFrame) :
    (auxStats s pair f).pending = s.pending := (kept_auxStats s pair f).2

theorem kept_modFrame (s : State) (pair : Nat) (uid : Nat) (f : AuxFrame → AuxFrame) :
    (modFrame s pair uid f).otp.fuse = s.otp.fuse ∧ (modFrame s pair uid f).pending = s.pending := by
  simp [modFrame]
@[simp] theorem fuse_modFrame (s : State) (pair : Nat) (uid : Nat) (f : AuxFrame → AuxFrame) :
    (modFrame s pair uid f).otp.fuse = s.otp.fuse := (kept_modFrame s pair uid f).1
@[simp] theorem pending_modFrame (s : State) (pair : Nat) (uid : Nat) (f : AuxFrame → AuxFrame) :
    (modFrame s pair uid f).pending = s.pending := (kept_modFrame s pair uid f).2

theorem kept_passLine (s : State) (pair : Nat) (uid : Nat) (l : AuxLine) :
    (passLine s pair uid l).otp.fuse = s.otp.fuse ∧ (passLine s pair uid l).pending = s.pending := by
  unfold passLine; dsimp only; (repeat' split) <;> simp
@[simp] theorem fuse_passLine (s : State) (pair : Nat) (uid : Nat) (l : AuxLine) :
    (passLine s pair uid l).otp.fuse = s.otp.fuse := (kept_passLine s pair uid l).1
@[simp] theorem pending_passLine (s : State) (pair : Nat) (uid : Nat) (l : AuxLine) :
    (passLine s pair uid l).pending = s.pending := (kept_passLine s pair uid l).2

theorem kept_finishFrame (s : State) (pair : Nat) (f : AuxFrame) :
    (finishFrame s pair f).otp.fuse = s.otp.fuse ∧ (finishFrame s pair f).pending = s.pending := by
  simp [finishFrame, apply_ite State.otp, apply_ite State.pending]
@[simp] theorem fuse_finishFrame (s : State) (pair : Nat) (f : AuxFrame) :
    (finishFrame s pair f).otp.fuse = s.otp.fuse := (kept_finishFrame s pair f).1
@[simp] theorem pending_finishFrame (s : State) (pair : Nat) (f : AuxFrame) :
    (finishFrame s pair f).pending = s.pending := (kept_finishFrame s pair f).2

theorem kept_settle (s : State) (pair : Nat) :
    (settle s pair).otp.fuse = s.otp.fuse ∧ (settle s pair).pending = s.pending := by
  simp [settle, apply_ite State.otp, apply_ite Otp.fuse, apply_ite State.pending, fuse_foldl, pending_foldl]
@[simp] theorem fuse_settle (s : State) (pair : Nat) :
    (settle s pair).otp.fuse = s.otp.fuse := (kept_settle s pair).1
@[simp] theorem pending_settle (s : State) (pair : Nat) :
    (settle s pair).pending = s.pending := (kept_settle s pair).2

theorem kept_settleAll (s : State) :
    (settleAll s).otp.fuse = s.otp.fuse ∧ (settleAll s).pending = s.pending := by
  simp [settleAll, fuse_foldl, pending_foldl]
@[simp] theorem fuse_settleAll (s : State) :
    (settleAll s).otp.fuse = s.otp.fuse := (kept_settleAll s).1
@[simp] theorem pending_settleAll (s : State) :
    (settleAll s).pending = s.pending := (kept_settleAll s).2

theorem kept_closeAux (s : State) (pair : Nat) (incomplete : Bool) :
    (closeAux s pair incomplete).otp.fuse = s.otp.fuse ∧ (closeAux s pair incomplete).pending = s.pending := by
  simp [closeAux]
@[simp] theorem fuse_closeAux (s : State) (pair : Nat) (incomplete : Bool) :
    (closeAux s pair incomplete).otp.fuse = s.otp.fuse := (kept_closeAux s pair incomplete).1
@[simp] theorem pending_closeAux (s : State) (pair : Nat) (incomplete : Bool) :
    (closeAux s pair incomplete).pending = s.pending := (kept_closeAux s pair incomplete).2

theorem kept_slice (n : Nat) (s : State) (m : Nat) :
    (slice n s m).otp.fuse = s.otp.fuse ∧ (slice n s m).pending = s.pending := by
  induction n generalizing s m with
  | zero => exact ⟨rfl, rfl⟩
  | succ n ih =>
    unfold slice
    split
    · exact ⟨rfl, rfl⟩
    · split
      · exact ⟨rfl, rfl⟩
      · dsimp only
        split
        · split <;> simp [ih]
        · exact ⟨rfl, rfl⟩
@[simp] theorem fuse_slice (n : Nat) (s : State) (m : Nat) :
    (slice n s m).otp.fuse = s.otp.fuse := (kept_slice n s m).1
@[simp] theorem pending_slice (n : Nat) (s : State) (m : Nat) :
    (slice n s m).pending = s.pending := (kept_slice n s m).2

theorem kept_serve (s : State) (n : Nat) :
    (serve s n).otp.fuse = s.otp.fuse ∧ (serve s n).pending = s.pending := by
  simp [serve, apply_ite State.otp, apply_ite Otp.fuse, apply_ite State.pending, fuse_foldl, pending_foldl]
@[simp] theorem fuse_serve (s : State) (n : Nat) :
    (serve s n).otp.fuse = s.otp.fuse := (kept_serve s n).1
@[simp] theorem pending_serve (s : State) (n : Nat) :
    (serve s n).pending = s.pending := (kept_serve s n).2

theorem kept_setLanes (s : State) (p : Nat) (stop : Bool) (hs : Bool) :
    (setLanes s p stop hs).otp.fuse = s.otp.fuse ∧ (setLanes s p stop hs).pending = s.pending := by
  simp [setLanes, apply_ite State.otp, apply_ite Otp.fuse, apply_ite State.pending, fuse_foldl, pending_foldl]
@[simp] theorem fuse_setLanes (s : State) (p : Nat) (stop : Bool) (hs : Bool) :
    (setLanes s p stop hs).otp.fuse = s.otp.fuse := (kept_setLanes s p stop hs).1
@[simp] theorem pending_setLanes (s : State) (p : Nat) (stop : Bool) (hs : Bool) :
    (setLanes s p stop hs).pending = s.pending := (kept_setLanes s p stop hs).2

theorem kept_hear (s : State) (p : Nat) (h : PktPhy) :
    (hear s p h).otp.fuse = s.otp.fuse ∧ (hear s p h).pending = s.pending := by
  simp [hear, apply_ite State.otp, apply_ite Otp.fuse, apply_ite State.pending, fuse_foldl, pending_foldl]
@[simp] theorem fuse_hear (s : State) (p : Nat) (h : PktPhy) :
    (hear s p h).otp.fuse = s.otp.fuse := (kept_hear s p h).1
@[simp] theorem pending_hear (s : State) (p : Nat) (h : PktPhy) :
    (hear s p h).pending = s.pending := (kept_hear s p h).2

@[simp] theorem fuse_withPair (s : State) (p vc : Nat) (f : Nat → State → State) (h : ∀ i s, (f i s).otp.fuse = s.otp.fuse) :
    (withPair s p vc f).otp.fuse = s.otp.fuse := by
  unfold withPair
  (repeat' split) <;> simp [h]
@[simp] theorem pending_withPair (s : State) (p vc : Nat) (f : Nat → State → State) (h : ∀ i s, (f i s).pending = s.pending) :
    (withPair s p vc f).pending = s.pending := by
  unfold withPair
  (repeat' split) <;> simp [h]

theorem kept_endMissing (s : State) (b : Nat) :
    (endMissing s b).otp.fuse = s.otp.fuse ∧ (endMissing s b).pending = s.pending := by
  simp [endMissing, apply_ite State.otp, apply_ite State.pending]
@[simp] theorem fuse_endMissing (s : State) (b : Nat) :
    (endMissing s b).otp.fuse = s.otp.fuse := (kept_endMissing s b).1
@[simp] theorem pending_endMissing (s : State) (b : Nat) :
    (endMissing s b).pending = s.pending := (kept_endMissing s b).2

theorem kept_openBanks (s : State) (banks : List (Nat × Nat)) :
    (openBanks s banks).otp.fuse = s.otp.fuse ∧ (openBanks s banks).pending = s.pending := by
  simp [openBanks, fuse_foldl, pending_foldl]
@[simp] theorem fuse_openBanks (s : State) (banks : List (Nat × Nat)) :
    (openBanks s banks).otp.fuse = s.otp.fuse := (kept_openBanks s banks).1
@[simp] theorem pending_openBanks (s : State) (banks : List (Nat × Nat)) :
    (openBanks s banks).pending = s.pending := (kept_openBanks s banks).2

theorem kept_dropLine (s : State) (pair : Nat) (uid : Nat) :
    (dropLine s pair uid).otp.fuse = s.otp.fuse ∧ (dropLine s pair uid).pending = s.pending := by
  simp [dropLine]
@[simp] theorem fuse_dropLine (s : State) (pair : Nat) (uid : Nat) :
    (dropLine s pair uid).otp.fuse = s.otp.fuse := (kept_dropLine s pair uid).1
@[simp] theorem pending_dropLine (s : State) (pair : Nat) (uid : Nat) :
    (dropLine s pair uid).pending = s.pending := (kept_dropLine s pair uid).2

theorem kept_displace (p n f : Nat) (s : State) :
    (displace p n f s).otp.fuse = s.otp.fuse ∧ (displace p n f s).pending = s.pending := by
  induction f generalizing s with
  | zero => exact ⟨rfl, rfl⟩
  | succ f ih =>
    unfold displace
    split
    · exact ⟨rfl, rfl⟩
    · dsimp only
      split
      · exact ⟨rfl, rfl⟩
      · split <;> simp [ih]
@[simp] theorem fuse_displace (p n f : Nat) (s : State) :
    (displace p n f s).otp.fuse = s.otp.fuse := (kept_displace p n f s).1
@[simp] theorem pending_displace (p n f : Nat) (s : State) :
    (displace p n f s).pending = s.pending := (kept_displace p n f s).2

theorem kept_auxLine (s : State) (p : Nat) (pair : Nat) (k : LongPkt) (f : AuxFrame) (grp : Nat) :
    (auxLine s p pair k f grp).otp.fuse = s.otp.fuse ∧ (auxLine s p pair k f grp).pending = s.pending := by
  simp [auxLine, apply_ite State.otp, apply_ite Otp.fuse, apply_ite State.pending]
@[simp] theorem fuse_auxLine (s : State) (p : Nat) (pair : Nat) (k : LongPkt) (f : AuxFrame) (grp : Nat) :
    (auxLine s p pair k f grp).otp.fuse = s.otp.fuse := (kept_auxLine s p pair k f grp).1
@[simp] theorem pending_auxLine (s : State) (p : Nat) (pair : Nat) (k : LongPkt) (f : AuxFrame) (grp : Nat) :
    (auxLine s p pair k f grp).pending = s.pending := (kept_auxLine s p pair k f grp).2

theorem kept_auxCtrlWrite (s : State) (p : Nat) (v : Word) :
    (auxCtrlWrite s p v).otp.fuse = s.otp.fuse ∧ (auxCtrlWrite s p v).pending = s.pending := by
  simp [auxCtrlWrite, apply_ite State.otp, apply_ite Otp.fuse, apply_ite State.pending, fuse_foldl, pending_foldl]
@[simp] theorem fuse_auxCtrlWrite (s : State) (p : Nat) (v : Word) :
    (auxCtrlWrite s p v).otp.fuse = s.otp.fuse := (kept_auxCtrlWrite s p v).1
@[simp] theorem pending_auxCtrlWrite (s : State) (p : Nat) (v : Word) :
    (auxCtrlWrite s p v).pending = s.pending := (kept_auxCtrlWrite s p v).2

theorem kept_auxEdge (s : State) :
    (auxEdge s).otp.fuse = s.otp.fuse ∧ (auxEdge s).pending = s.pending := by
  simp [auxEdge, apply_ite State.otp, apply_ite Otp.fuse, apply_ite State.pending, fuse_foldl, pending_foldl]
@[simp] theorem fuse_auxEdge (s : State) :
    (auxEdge s).otp.fuse = s.otp.fuse := (kept_auxEdge s).1
@[simp] theorem pending_auxEdge (s : State) :
    (auxEdge s).pending = s.pending := (kept_auxEdge s).2

theorem kept_auxCommit (s : State) :
    (auxCommit s).otp.fuse = s.otp.fuse ∧ (auxCommit s).pending = s.pending := by
  simp [auxCommit, apply_ite State.otp, apply_ite Otp.fuse, apply_ite State.pending]
@[simp] theorem fuse_auxCommit (s : State) :
    (auxCommit s).otp.fuse = s.otp.fuse := (kept_auxCommit s).1
@[simp] theorem pending_auxCommit (s : State) :
    (auxCommit s).pending = s.pending := (kept_auxCommit s).2

theorem kept_setPyr (s : State) (src : Nat) (b : Nat) (p : Pyr) :
    (setPyr s src b p).otp.fuse = s.otp.fuse ∧ (setPyr s src b p).pending = s.pending := by
  simp [setPyr, apply_ite State.otp, apply_ite Otp.fuse, apply_ite State.pending, fuse_foldl, pending_foldl]
@[simp] theorem fuse_setPyr (s : State) (src : Nat) (b : Nat) (p : Pyr) :
    (setPyr s src b p).otp.fuse = s.otp.fuse := (kept_setPyr s src b p).1
@[simp] theorem pending_setPyr (s : State) (src : Nat) (b : Nat) (p : Pyr) :
    (setPyr s src b p).pending = s.pending := (kept_setPyr s src b p).2

theorem kept_setCurPyr (s : State) (src : Nat) (p : Pyr) :
    (setCurPyr s src p).otp.fuse = s.otp.fuse ∧ (setCurPyr s src p).pending = s.pending := by
  simp [setCurPyr, apply_ite State.otp, apply_ite Otp.fuse, apply_ite State.pending, fuse_foldl, pending_foldl]
@[simp] theorem fuse_setCurPyr (s : State) (src : Nat) (p : Pyr) :
    (setCurPyr s src p).otp.fuse = s.otp.fuse := (kept_setCurPyr s src p).1
@[simp] theorem pending_setCurPyr (s : State) (src : Nat) (p : Pyr) :
    (setCurPyr s src p).pending = s.pending := (kept_setCurPyr s src p).2

theorem kept_keepInsts (s : State) :
    (keepInsts s).otp.fuse = s.otp.fuse ∧ (keepInsts s).pending = s.pending := by
  simp [keepInsts, apply_ite State.otp, apply_ite Otp.fuse, apply_ite State.pending]
@[simp] theorem fuse_keepInsts (s : State) :
    (keepInsts s).otp.fuse = s.otp.fuse := (kept_keepInsts s).1
@[simp] theorem pending_keepInsts (s : State) :
    (keepInsts s).pending = s.pending := (kept_keepInsts s).2

theorem kept_exchange (s : State) (src : Nat) (buf : Nat) (p : Pyr) :
    (exchange s src buf p).otp.fuse = s.otp.fuse ∧ (exchange s src buf p).pending = s.pending := by
  simp [exchange]
@[simp] theorem fuse_exchange (s : State) (src : Nat) (buf : Nat) (p : Pyr) :
    (exchange s src buf p).otp.fuse = s.otp.fuse := (kept_exchange s src buf p).1
@[simp] theorem pending_exchange (s : State) (src : Nat) (buf : Nat) (p : Pyr) :
    (exchange s src buf p).pending = s.pending := (kept_exchange s src buf p).2

theorem kept_keepSizes (s : State) :
    (keepSizes s).otp.fuse = s.otp.fuse ∧ (keepSizes s).pending = s.pending := by
  simp [keepSizes, apply_ite State.otp, apply_ite Otp.fuse, apply_ite State.pending, fuse_foldl, pending_foldl]
@[simp] theorem fuse_keepSizes (s : State) :
    (keepSizes s).otp.fuse = s.otp.fuse := (kept_keepSizes s).1
@[simp] theorem pending_keepSizes (s : State) :
    (keepSizes s).pending = s.pending := (kept_keepSizes s).2

theorem kept_buildAux (s : State) (src : Nat) (r : Nat) :
    (buildAux s src r).otp.fuse = s.otp.fuse ∧ (buildAux s src r).pending = s.pending := by
  unfold buildAux; dsimp only; (repeat' split) <;> simp [fuse_foldl, pending_foldl]
@[simp] theorem fuse_buildAux (s : State) (src : Nat) (r : Nat) :
    (buildAux s src r).otp.fuse = s.otp.fuse := (kept_buildAux s src r).1
@[simp] theorem pending_buildAux (s : State) (src : Nat) (r : Nat) :
    (buildAux s src r).pending = s.pending := (kept_buildAux s src r).2

theorem kept_openPyramids (s : State) :
    (openPyramids s).otp.fuse = s.otp.fuse ∧ (openPyramids s).pending = s.pending := by
  unfold openPyramids
  dsimp only [List.foldl]
  (repeat' split) <;> simp
@[simp] theorem fuse_openPyramids (s : State) :
    (openPyramids s).otp.fuse = s.otp.fuse := (kept_openPyramids s).1
@[simp] theorem pending_openPyramids (s : State) :
    (openPyramids s).pending = s.pending := (kept_openPyramids s).2

theorem kept_buildArray (s : State) (j : Nat) :
    (buildArray s j).otp.fuse = s.otp.fuse ∧ (buildArray s j).pending = s.pending := by
  simp [buildArray]
@[simp] theorem fuse_buildArray (s : State) (j : Nat) :
    (buildArray s j).otp.fuse = s.otp.fuse := (kept_buildArray s j).1
@[simp] theorem pending_buildArray (s : State) (j : Nat) :
    (buildArray s j).pending = s.pending := (kept_buildArray s j).2

theorem kept_scentPut (s : State) (slot : Nat) (snap : Nat) (d : Nat) (b : Nat) :
    (scentPut s slot snap d b).otp.fuse = s.otp.fuse ∧ (scentPut s slot snap d b).pending = s.pending := by
  simp [scentPut, apply_ite State.otp, apply_ite State.pending]
@[simp] theorem fuse_scentPut (s : State) (slot : Nat) (snap : Nat) (d : Nat) (b : Nat) :
    (scentPut s slot snap d b).otp.fuse = s.otp.fuse := (kept_scentPut s slot snap d b).1
@[simp] theorem pending_scentPut (s : State) (slot : Nat) (snap : Nat) (d : Nat) (b : Nat) :
    (scentPut s slot snap d b).pending = s.pending := (kept_scentPut s slot snap d b).2

theorem kept_scentInsert (s : State) (slot : Nat) (snap : Nat) (d : Nat) :
    (scentInsert s slot snap d).otp.fuse = s.otp.fuse ∧ (scentInsert s slot snap d).pending = s.pending := by
  simp [scentInsert, fuse_foldl, pending_foldl]
@[simp] theorem fuse_scentInsert (s : State) (slot : Nat) (snap : Nat) (d : Nat) :
    (scentInsert s slot snap d).otp.fuse = s.otp.fuse := (kept_scentInsert s slot snap d).1
@[simp] theorem pending_scentInsert (s : State) (slot : Nat) (snap : Nat) (d : Nat) :
    (scentInsert s slot snap d).pending = s.pending := (kept_scentInsert s slot snap d).2

theorem kept_scentDelete (s : State) (gone : ScentEntry → Bool) :
    (scentDelete s gone).otp.fuse = s.otp.fuse ∧ (scentDelete s gone).pending = s.pending := by
  simp [scentDelete]
@[simp] theorem fuse_scentDelete (s : State) (gone : ScentEntry → Bool) :
    (scentDelete s gone).otp.fuse = s.otp.fuse := (kept_scentDelete s gone).1
@[simp] theorem pending_scentDelete (s : State) (gone : ScentEntry → Bool) :
    (scentDelete s gone).pending = s.pending := (kept_scentDelete s gone).2

theorem kept_scentRemove (s : State) (slot : Nat) (snap : Nat) :
    (scentRemove s slot snap).otp.fuse = s.otp.fuse ∧ (scentRemove s slot snap).pending = s.pending := by
  simp [scentRemove]
@[simp] theorem fuse_scentRemove (s : State) (slot : Nat) (snap : Nat) :
    (scentRemove s slot snap).otp.fuse = s.otp.fuse := (kept_scentRemove s slot snap).1
@[simp] theorem pending_scentRemove (s : State) (slot : Nat) (snap : Nat) :
    (scentRemove s slot snap).pending = s.pending := (kept_scentRemove s slot snap).2

@[simp] theorem fuse_withHandle (s : State) (i : Nat) (f : Nat → State) (h : ∀ i, (f i).otp.fuse = s.otp.fuse) :
    (withHandle s i f).otp.fuse = s.otp.fuse := by
  unfold withHandle
  split <;> simp [h]
@[simp] theorem pending_withHandle (s : State) (i : Nat) (f : Nat → State) (h : ∀ i, (f i).pending = s.pending) :
    (withHandle s i f).pending = s.pending := by
  unfold withHandle
  split <;> simp [h]

theorem kept_clearAlbum (s : State) (slot : Nat) :
    (clearAlbum s slot).otp.fuse = s.otp.fuse ∧ (clearAlbum s slot).pending = s.pending := by
  simp [clearAlbum]
@[simp] theorem fuse_clearAlbum (s : State) (slot : Nat) :
    (clearAlbum s slot).otp.fuse = s.otp.fuse := (kept_clearAlbum s slot).1
@[simp] theorem pending_clearAlbum (s : State) (slot : Nat) :
    (clearAlbum s slot).pending = s.pending := (kept_clearAlbum s slot).2

theorem kept_endTrack (s : State) (i : Nat) :
    (endTrack s i).otp.fuse = s.otp.fuse ∧ (endTrack s i).pending = s.pending := by
  simp [endTrack, apply_ite State.otp, apply_ite Otp.fuse, apply_ite State.pending, fuse_foldl, pending_foldl]
@[simp] theorem fuse_endTrack (s : State) (i : Nat) :
    (endTrack s i).otp.fuse = s.otp.fuse := (kept_endTrack s i).1
@[simp] theorem pending_endTrack (s : State) (i : Nat) :
    (endTrack s i).pending = s.pending := (kept_endTrack s i).2

theorem kept_freeSlot (s : State) (i : Nat) :
    (freeSlot s i).otp.fuse = s.otp.fuse ∧ (freeSlot s i).pending = s.pending := by
  simp [freeSlot, apply_ite State.otp, apply_ite Otp.fuse, apply_ite State.pending, fuse_foldl, pending_foldl]
@[simp] theorem fuse_freeSlot (s : State) (i : Nat) :
    (freeSlot s i).otp.fuse = s.otp.fuse := (kept_freeSlot s i).1
@[simp] theorem pending_freeSlot (s : State) (i : Nat) :
    (freeSlot s i).pending = s.pending := (kept_freeSlot s i).2

theorem kept_removeLost (s : State) :
    (removeLost s).otp.fuse = s.otp.fuse ∧ (removeLost s).pending = s.pending := by
  simp [removeLost, apply_ite State.otp, apply_ite Otp.fuse, apply_ite State.pending, fuse_foldl, pending_foldl]
@[simp] theorem fuse_removeLost (s : State) :
    (removeLost s).otp.fuse = s.otp.fuse := (kept_removeLost s).1
@[simp] theorem pending_removeLost (s : State) :
    (removeLost s).pending = s.pending := (kept_removeLost s).2

theorem kept_birth (s : State) (i : Nat) (t : Track) :
    (birth s i t).otp.fuse = s.otp.fuse ∧ (birth s i t).pending = s.pending := by
  simp [birth]
@[simp] theorem fuse_birth (s : State) (i : Nat) (t : Track) :
    (birth s i t).otp.fuse = s.otp.fuse := (kept_birth s i t).1
@[simp] theorem pending_birth (s : State) (i : Nat) (t : Track) :
    (birth s i t).pending = s.pending := (kept_birth s i t).2

theorem kept_birthAlbum (s : State) (i : Nat) (keep : Bool) :
    (birthAlbum s i keep).otp.fuse = s.otp.fuse ∧ (birthAlbum s i keep).pending = s.pending := by
  simp [birthAlbum, apply_ite State.otp, apply_ite Otp.fuse, apply_ite State.pending, fuse_foldl, pending_foldl]
@[simp] theorem fuse_birthAlbum (s : State) (i : Nat) (keep : Bool) :
    (birthAlbum s i keep).otp.fuse = s.otp.fuse := (kept_birthAlbum s i keep).1
@[simp] theorem pending_birthAlbum (s : State) (i : Nat) (keep : Bool) :
    (birthAlbum s i keep).pending = s.pending := (kept_birthAlbum s i keep).2

theorem kept_refuseSeed (s : State) (arg1 : Nat) (reason : Nat) :
    (refuseSeed s arg1 reason).otp.fuse = s.otp.fuse ∧ (refuseSeed s arg1 reason).pending = s.pending := by
  simp [refuseSeed]
@[simp] theorem fuse_refuseSeed (s : State) (arg1 : Nat) (reason : Nat) :
    (refuseSeed s arg1 reason).otp.fuse = s.otp.fuse := (kept_refuseSeed s arg1 reason).1
@[simp] theorem pending_refuseSeed (s : State) (arg1 : Nat) (reason : Nat) :
    (refuseSeed s arg1 reason).pending = s.pending := (kept_refuseSeed s arg1 reason).2

theorem kept_reSeed (s : State) (i : Nat) (d : Seed) :
    (reSeed s i d).otp.fuse = s.otp.fuse ∧ (reSeed s i d).pending = s.pending := by
  simp [reSeed]
@[simp] theorem fuse_reSeed (s : State) (i : Nat) (d : Seed) :
    (reSeed s i d).otp.fuse = s.otp.fuse := (kept_reSeed s i d).1
@[simp] theorem pending_reSeed (s : State) (i : Nat) (d : Seed) :
    (reSeed s i d).pending = s.pending := (kept_reSeed s i d).2

theorem kept_applySeed (s : State) (d : Seed) (origin : Nat) :
    (applySeed s d origin).otp.fuse = s.otp.fuse ∧ (applySeed s d origin).pending = s.pending := by
  unfold applySeed; dsimp only; (repeat' split) <;> simp [fuse_foldl, pending_foldl]
@[simp] theorem fuse_applySeed (s : State) (d : Seed) (origin : Nat) :
    (applySeed s d origin).otp.fuse = s.otp.fuse := (kept_applySeed s d origin).1
@[simp] theorem pending_applySeed (s : State) (d : Seed) (origin : Nat) :
    (applySeed s d origin).pending = s.pending := (kept_applySeed s d origin).2

theorem kept_applyCmd (s : State) (c : KenCmd) :
    (applyCmd s c).otp.fuse = s.otp.fuse ∧ (applyCmd s c).pending = s.pending := by
  unfold applyCmd; dsimp only; (repeat' split) <;> simp [apply_ite State.otp, apply_ite Otp.fuse, apply_ite State.pending]
@[simp] theorem fuse_applyCmd (s : State) (c : KenCmd) :
    (applyCmd s c).otp.fuse = s.otp.fuse := (kept_applyCmd s c).1
@[simp] theorem pending_applyCmd (s : State) (c : KenCmd) :
    (applyCmd s c).pending = s.pending := (kept_applyCmd s c).2

theorem kept_queueCmd (s : State) (c : KenCmd) :
    (queueCmd s c).otp.fuse = s.otp.fuse ∧ (queueCmd s c).pending = s.pending := by
  simp [queueCmd, apply_ite State.otp, apply_ite State.pending]
@[simp] theorem fuse_queueCmd (s : State) (c : KenCmd) :
    (queueCmd s c).otp.fuse = s.otp.fuse := (kept_queueCmd s c).1
@[simp] theorem pending_queueCmd (s : State) (c : KenCmd) :
    (queueCmd s c).pending = s.pending := (kept_queueCmd s c).2

theorem kept_cueWork (s : State) (go : List Nat) :
    (cueWork s go).otp.fuse = s.otp.fuse ∧ (cueWork s go).pending = s.pending := by
  simp [cueWork, fuse_foldl, pending_foldl]
@[simp] theorem fuse_cueWork (s : State) (go : List Nat) :
    (cueWork s go).otp.fuse = s.otp.fuse := (kept_cueWork s go).1
@[simp] theorem pending_cueWork (s : State) (go : List Nat) :
    (cueWork s go).pending = s.pending := (kept_cueWork s go).2

theorem kept_beaconWork (l : List (Nat × Beacon)) (n : Nat) (s : State) :
    (beaconWork l n s).otp.fuse = s.otp.fuse ∧ (beaconWork l n s).pending = s.pending := by
  induction l generalizing n s with
  | nil => exact ⟨rfl, rfl⟩
  | cons q t ih =>
    unfold beaconWork
    split
    · exact ⟨rfl, rfl⟩
    · split
      · exact ih n s
      · split <;> simp [ih]
@[simp] theorem fuse_beaconWork (l : List (Nat × Beacon)) (n : Nat) (s : State) :
    (beaconWork l n s).otp.fuse = s.otp.fuse := (kept_beaconWork l n s).1
@[simp] theorem pending_beaconWork (l : List (Nat × Beacon)) (n : Nat) (s : State) :
    (beaconWork l n s).pending = s.pending := (kept_beaconWork l n s).2

theorem kept_featureWork (l : List Proposal) (s : State) :
    (featureWork l s).otp.fuse = s.otp.fuse ∧ (featureWork l s).pending = s.pending := by
  induction l generalizing s with
  | nil => exact ⟨rfl, rfl⟩
  | cons q t ih =>
    unfold featureWork
    split
    · exact ih s
    · split <;> simp [ih]
@[simp] theorem fuse_featureWork (l : List Proposal) (s : State) :
    (featureWork l s).otp.fuse = s.otp.fuse := (kept_featureWork l s).1
@[simp] theorem pending_featureWork (l : List Proposal) (s : State) :
    (featureWork l s).pending = s.pending := (kept_featureWork l s).2

theorem kept_kennelEdge (s : State) :
    (kennelEdge s).otp.fuse = s.otp.fuse ∧ (kennelEdge s).pending = s.pending := by
  simp [kennelEdge, apply_ite State.otp, apply_ite Otp.fuse, apply_ite State.pending, fuse_foldl, pending_foldl]
@[simp] theorem fuse_kennelEdge (s : State) :
    (kennelEdge s).otp.fuse = s.otp.fuse := (kept_kennelEdge s).1
@[simp] theorem pending_kennelEdge (s : State) :
    (kennelEdge s).pending = s.pending := (kept_kennelEdge s).2

theorem kept_runSeeder (s : State) :
    (runSeeder s).otp.fuse = s.otp.fuse ∧ (runSeeder s).pending = s.pending := by
  simp [runSeeder, apply_ite State.otp, apply_ite State.pending]
@[simp] theorem fuse_runSeeder (s : State) :
    (runSeeder s).otp.fuse = s.otp.fuse := (kept_runSeeder s).1
@[simp] theorem pending_runSeeder (s : State) :
    (runSeeder s).pending = s.pending := (kept_runSeeder s).2

theorem kept_takeSnapshot (s : State) (i : Nat) (entry : Nat) (pinned : Bool) :
    (takeSnapshot s i entry pinned).otp.fuse = s.otp.fuse ∧ (takeSnapshot s i entry pinned).pending = s.pending := by
  simp [takeSnapshot]
@[simp] theorem fuse_takeSnapshot (s : State) (i : Nat) (entry : Nat) (pinned : Bool) :
    (takeSnapshot s i entry pinned).otp.fuse = s.otp.fuse := (kept_takeSnapshot s i entry pinned).1
@[simp] theorem pending_takeSnapshot (s : State) (i : Nat) (entry : Nat) (pinned : Bool) :
    (takeSnapshot s i entry pinned).pending = s.pending := (kept_takeSnapshot s i entry pinned).2

theorem kept_firstSnapshot (s : State) (i : Nat) :
    (firstSnapshot s i).otp.fuse = s.otp.fuse ∧ (firstSnapshot s i).pending = s.pending := by
  simp [firstSnapshot, apply_ite State.otp, apply_ite Otp.fuse, apply_ite State.pending]
@[simp] theorem fuse_firstSnapshot (s : State) (i : Nat) :
    (firstSnapshot s i).otp.fuse = s.otp.fuse := (kept_firstSnapshot s i).1
@[simp] theorem pending_firstSnapshot (s : State) (i : Nat) :
    (firstSnapshot s i).pending = s.pending := (kept_firstSnapshot s i).2

theorem kept_dueSnapshot (s : State) (i : Nat) :
    (dueSnapshot s i).otp.fuse = s.otp.fuse ∧ (dueSnapshot s i).pending = s.pending := by
  simp [dueSnapshot, apply_ite State.otp, apply_ite Otp.fuse, apply_ite State.pending]
@[simp] theorem fuse_dueSnapshot (s : State) (i : Nat) :
    (dueSnapshot s i).otp.fuse = s.otp.fuse := (kept_dueSnapshot s i).1
@[simp] theorem pending_dueSnapshot (s : State) (i : Nat) :
    (dueSnapshot s i).pending = s.pending := (kept_dueSnapshot s i).2

theorem kept_bookSlot (s : State) (i : Nat) (out : Nat) :
    (bookSlot s i out).otp.fuse = s.otp.fuse ∧ (bookSlot s i out).pending = s.pending := by
  unfold bookSlot; dsimp only; (repeat' split) <;> simp [fuse_foldl, pending_foldl]
@[simp] theorem fuse_bookSlot (s : State) (i : Nat) (out : Nat) :
    (bookSlot s i out).otp.fuse = s.otp.fuse := (kept_bookSlot s i out).1
@[simp] theorem pending_bookSlot (s : State) (i : Nat) (out : Nat) :
    (bookSlot s i out).pending = s.pending := (kept_bookSlot s i out).2

theorem kept_bookkeep (s : State) :
    (bookkeep s).otp.fuse = s.otp.fuse ∧ (bookkeep s).pending = s.pending := by
  simp [bookkeep, apply_ite State.otp, apply_ite Otp.fuse, apply_ite State.pending, fuse_foldl, pending_foldl]
@[simp] theorem fuse_bookkeep (s : State) :
    (bookkeep s).otp.fuse = s.otp.fuse := (kept_bookkeep s).1
@[simp] theorem pending_bookkeep (s : State) :
    (bookkeep s).pending = s.pending := (kept_bookkeep s).2

theorem kept_trackStreams (s : State) (flags : Nat) :
    (trackStreams s flags).otp.fuse = s.otp.fuse ∧ (trackStreams s flags).pending = s.pending := by
  simp [trackStreams, apply_ite State.otp, apply_ite State.pending]
@[simp] theorem fuse_trackStreams (s : State) (flags : Nat) :
    (trackStreams s flags).otp.fuse = s.otp.fuse := (kept_trackStreams s flags).1
@[simp] theorem pending_trackStreams (s : State) (flags : Nat) :
    (trackStreams s flags).pending = s.pending := (kept_trackStreams s flags).2

theorem kept_kenOpWrite (s : State) (src : Src) (v : Word) :
    (kenOpWrite s src v).otp.fuse = s.otp.fuse ∧ (kenOpWrite s src v).pending = s.pending := by
  unfold kenOpWrite; dsimp only; (repeat' split) <;> simp
@[simp] theorem fuse_kenOpWrite (s : State) (src : Src) (v : Word) :
    (kenOpWrite s src v).otp.fuse = s.otp.fuse := (kept_kenOpWrite s src v).1
@[simp] theorem pending_kenOpWrite (s : State) (src : Src) (v : Word) :
    (kenOpWrite s src v).pending = s.pending := (kept_kenOpWrite s src v).2

theorem kept_withSense (s : State) (l : List Nat) (f : State → State)
    (h : ∀ u, (f u).otp.fuse = u.otp.fuse ∧ (f u).pending = u.pending) :
    (withSense s l f).otp.fuse = s.otp.fuse ∧ (withSense s l f).pending = s.pending :=
  ⟨(h { s with boot := { s.boot with senses := l } }).1, (h { s with boot := { s.boot with senses := l } }).2⟩

theorem grown_withSense (s : State) (l : List Nat) (f : State → State) (h : ∀ u, Grown u (f u)) :
    Grown s (withSense s l f) := by
  have h2 := (Grown.of_kept (s := s) (t := { s with boot := { s.boot with senses := l } }) ⟨rfl, rfl⟩).trans (h _)
  exact ⟨h2.pending, h2.wf, h2.mono, h2.top⟩

theorem kept_readSns (s : State) :
    (readSns s).2.otp.fuse = s.otp.fuse ∧ (readSns s).2.pending = s.pending := by
  unfold readSns; dsimp only; (repeat' split) <;> simp [fuse_foldl, pending_foldl]
@[simp] theorem fuse_readSns (s : State) :
    (readSns s).2.otp.fuse = s.otp.fuse := (kept_readSns s).1
@[simp] theorem pending_readSns (s : State) :
    (readSns s).2.pending = s.pending := (kept_readSns s).2

theorem kept_holdupCheck (s : State) (erase : Bool) :
    (holdupCheck s erase).2.otp.fuse = s.otp.fuse ∧ (holdupCheck s erase).2.pending = s.pending := by
  have hn := kept_readSns s
  unfold holdupCheck
  extract_lets pfw off
  split
  rename_i enough u heq
  have hu : u.otp.fuse = s.otp.fuse ∧ u.pending = s.pending := by
    split at heq
    · simp only [Prod.mk.injEq] at heq; rw [← heq.2]; exact ⟨rfl, rfl⟩
    · revert hn heq
      generalize readSns s = r
      intro hn heq
      simp only [Prod.mk.injEq] at heq
      rw [← heq.2, setRegN_otp, setFld_otp, setRegN_pending, setFld_pending]
      exact hn
  extract_lets v w
  have hv : v.otp.fuse = s.otp.fuse ∧ v.pending = s.pending := by simp only [v, setFld_otp, setFld_pending]; exact hu
  split
  · exact hv
  · show (if v.boot.recheck then v else bump v 0x03008C).otp.fuse = _ ∧
      (if v.boot.recheck then v else bump v 0x03008C).pending = _
    rw [← hv.1, ← hv.2]
    split <;> simp
@[simp] theorem fuse_holdupCheck (s : State) (erase : Bool) :
    (holdupCheck s erase).2.otp.fuse = s.otp.fuse := (kept_holdupCheck s erase).1
@[simp] theorem pending_holdupCheck (s : State) (erase : Bool) :
    (holdupCheck s erase).2.pending = s.pending := (kept_holdupCheck s erase).2

theorem kept_flashTake (s : State) (m : SMap Byte) :
    (flashTake s m).2.otp.fuse = s.otp.fuse ∧ (flashTake s m).2.pending = s.pending := by
  unfold flashTake; dsimp only; (repeat' split) <;> simp [fuse_foldl, pending_foldl]
@[simp] theorem fuse_flashTake (s : State) (m : SMap Byte) :
    (flashTake s m).2.otp.fuse = s.otp.fuse := (kept_flashTake s m).1
@[simp] theorem pending_flashTake (s : State) (m : SMap Byte) :
    (flashTake s m).2.pending = s.pending := (kept_flashTake s m).2

theorem kept_flashErase (s : State) (a : Nat) :
    (flashErase s a).2.otp.fuse = s.otp.fuse ∧ (flashErase s a).2.pending = s.pending := by
  have h := kept_holdupCheck s true
  unfold flashErase
  split <;> simp_all
@[simp] theorem fuse_flashErase (s : State) (a : Nat) :
    (flashErase s a).2.otp.fuse = s.otp.fuse := (kept_flashErase s a).1
@[simp] theorem pending_flashErase (s : State) (a : Nat) :
    (flashErase s a).2.pending = s.pending := (kept_flashErase s a).2

theorem kept_flashProgram (s : State) (a : Nat) (bs : List Byte) :
    (flashProgram s a bs).2.otp.fuse = s.otp.fuse ∧ (flashProgram s a bs).2.pending = s.pending := by
  have h := kept_holdupCheck s false
  unfold flashProgram
  split <;> simp_all
@[simp] theorem fuse_flashProgram (s : State) (a : Nat) (bs : List Byte) :
    (flashProgram s a bs).2.otp.fuse = s.otp.fuse := (kept_flashProgram s a bs).1
@[simp] theorem pending_flashProgram (s : State) (a : Nat) (bs : List Byte) :
    (flashProgram s a bs).2.pending = s.pending := (kept_flashProgram s a bs).2

theorem kept_issueOnce (s : State) (key : Nat) (f : State → Bool × State)
    (h : ∀ u, (f u).2.otp.fuse = u.otp.fuse ∧ (f u).2.pending = u.pending) :
    (issueOnce s key f).2.otp.fuse = s.otp.fuse ∧ (issueOnce s key f).2.pending = s.pending := by
  unfold issueOnce
  split
  · exact ⟨rfl, rfl⟩
  · split <;> rename_i e <;> have a := kept_of_snd (h s) e <;> exact a

theorem kept_forgetIssued (s : State) (a : Nat) (n : Nat) :
    (forgetIssued s a n).otp.fuse = s.otp.fuse ∧ (forgetIssued s a n).pending = s.pending := by
  simp [forgetIssued, apply_ite State.otp, apply_ite Otp.fuse, apply_ite State.pending, fuse_foldl, pending_foldl]
@[simp] theorem fuse_forgetIssued (s : State) (a : Nat) (n : Nat) :
    (forgetIssued s a n).otp.fuse = s.otp.fuse := (kept_forgetIssued s a n).1
@[simp] theorem pending_forgetIssued (s : State) (a : Nat) (n : Nat) :
    (forgetIssued s a n).pending = s.pending := (kept_forgetIssued s a n).2

theorem kept_eraseOnce (s : State) (a : Nat) :
    (eraseOnce s a).2.otp.fuse = s.otp.fuse ∧ (eraseOnce s a).2.pending = s.pending := by
  have h := kept_issueOnce (if blankSector s.boot.flash a then s else forgetIssued s a 1) (2 * a)
    (fun s => flashErase s a) (fun u => kept_flashErase u a)
  unfold eraseOnce
  split at h <;> simp_all
@[simp] theorem fuse_eraseOnce (s : State) (a : Nat) :
    (eraseOnce s a).2.otp.fuse = s.otp.fuse := (kept_eraseOnce s a).1
@[simp] theorem pending_eraseOnce (s : State) (a : Nat) :
    (eraseOnce s a).2.pending = s.pending := (kept_eraseOnce s a).2

theorem kept_programOnce (s : State) (a : Nat) (bs : List Byte) :
    (programOnce s a bs).2.otp.fuse = s.otp.fuse ∧ (programOnce s a bs).2.pending = s.pending := by
  exact kept_issueOnce _ _ _ (fun u => kept_flashProgram u a bs)
@[simp] theorem fuse_programOnce (s : State) (a : Nat) (bs : List Byte) :
    (programOnce s a bs).2.otp.fuse = s.otp.fuse := (kept_programOnce s a bs).1
@[simp] theorem pending_programOnce (s : State) (a : Nat) (bs : List Byte) :
    (programOnce s a bs).2.pending = s.pending := (kept_programOnce s a bs).2

theorem kept_deferJob (s : State) (j : FlashJob) :
    (deferJob s j).otp.fuse = s.otp.fuse ∧ (deferJob s j).pending = s.pending := by
  simp [deferJob]
@[simp] theorem fuse_deferJob (s : State) (j : FlashJob) :
    (deferJob s j).otp.fuse = s.otp.fuse := (kept_deferJob s j).1
@[simp] theorem pending_deferJob (s : State) (j : FlashJob) :
    (deferJob s j).pending = s.pending := (kept_deferJob s j).2

theorem kept_dropJob (s : State) (j : FlashJob) :
    (dropJob s j).otp.fuse = s.otp.fuse ∧ (dropJob s j).pending = s.pending := by
  simp [dropJob]
@[simp] theorem fuse_dropJob (s : State) (j : FlashJob) :
    (dropJob s j).otp.fuse = s.otp.fuse := (kept_dropJob s j).1
@[simp] theorem pending_dropJob (s : State) (j : FlashJob) :
    (dropJob s j).pending = s.pending := (kept_dropJob s j).2

theorem kept_writeBootRec (s : State) (r : BootRec) :
    (writeBootRec s r).2.otp.fuse = s.otp.fuse ∧ (writeBootRec s r).2.pending = s.pending := by
  unfold writeBootRec
  dsimp only
  split
  · rename_i h
    exact kept_of_snd (kept_eraseOnce _ _) h
  · rename_i h
    have a := kept_of_snd (kept_eraseOnce _ _) h
    split
    · rename_i h2
      have b := kept_of_snd (kept_flashProgram _ _ _) h2
      exact ⟨b.1.trans a.1, b.2.trans a.2⟩
    · rename_i h2
      have b := kept_of_snd (kept_flashProgram _ _ _) h2
      exact ⟨(by simp : _ = _).trans (b.1.trans a.1), (by simp : _ = _).trans (b.2.trans a.2)⟩
@[simp] theorem fuse_writeBootRec (s : State) (r : BootRec) :
    (writeBootRec s r).2.otp.fuse = s.otp.fuse := (kept_writeBootRec s r).1
@[simp] theorem pending_writeBootRec (s : State) (r : BootRec) :
    (writeBootRec s r).2.pending = s.pending := (kept_writeBootRec s r).2

theorem kept_flushEntries (n : Nat) (s : State) :
    (flushEntries n s).2.otp.fuse = s.otp.fuse ∧ (flushEntries n s).2.pending = s.pending := by
  induction n generalizing s with
  | zero => exact ⟨rfl, rfl⟩
  | succ n ih =>
    unfold flushEntries
    dsimp only
    have e : ∀ c : Prop, ∀ _ : Decidable c, ∀ x : Nat,
        ((if c then eraseOnce s x else (true, s)).2.otp.fuse = s.otp.fuse ∧
          (if c then eraseOnce s x else (true, s)).2.pending = s.pending) := by
      intro c _ x
      split <;> simp
    split
    · exact ⟨rfl, rfl⟩
    · split
      · rename_i h
        exact kept_of_snd (e _ _ _) h
      · rename_i h
        have a := kept_of_snd (e _ _ _) h
        split
        · rename_i h2
          have b := kept_of_snd (kept_flashProgram _ _ _) h2
          exact ⟨b.1.trans a.1, b.2.trans a.2⟩
        · rename_i h2
          have b := kept_of_snd (kept_flashProgram _ _ _) h2
          refine ⟨(ih _).1.trans ?_, (ih _).2.trans ?_⟩
          · simpa using b.1.trans a.1
          · simpa using b.2.trans a.2
@[simp] theorem fuse_flushEntries (n : Nat) (s : State) :
    (flushEntries n s).2.otp.fuse = s.otp.fuse := (kept_flushEntries n s).1
@[simp] theorem pending_flushEntries (n : Nat) (s : State) :
    (flushEntries n s).2.pending = s.pending := (kept_flushEntries n s).2

theorem kept_flushLog (s : State) :
    (flushLog s).otp.fuse = s.otp.fuse ∧ (flushLog s).pending = s.pending := by
  unfold flushLog
  split
  · split <;> rename_i h <;> have a := kept_of_snd (kept_flushEntries _ _) h
    · simp [a]
    · split <;> simp [a]
  · exact ⟨rfl, rfl⟩
@[simp] theorem fuse_flushLog (s : State) :
    (flushLog s).otp.fuse = s.otp.fuse := (kept_flushLog s).1
@[simp] theorem pending_flushLog (s : State) :
    (flushLog s).pending = s.pending := (kept_flushLog s).2

theorem kept_archiveRead (s : State) (idx : Nat) :
    (archiveRead s idx).otp.fuse = s.otp.fuse ∧ (archiveRead s idx).pending = s.pending := by
  unfold archiveRead
  dsimp only
  constructor
  · rw [fuse_foldl _ (by intro s x; simp only [setRegN_otp]), setRegN_otp]
  · rw [pending_foldl _ (by intro s x; simp only [setRegN_pending]), setRegN_pending]
@[simp] theorem fuse_archiveRead (s : State) (idx : Nat) :
    (archiveRead s idx).otp.fuse = s.otp.fuse := (kept_archiveRead s idx).1
@[simp] theorem pending_archiveRead (s : State) (idx : Nat) :
    (archiveRead s idx).pending = s.pending := (kept_archiveRead s idx).2

theorem kept_setUpdState (s : State) (st : Nat) :
    (setUpdState s st).otp.fuse = s.otp.fuse ∧ (setUpdState s st).pending = s.pending := by
  simp [setUpdState, apply_ite State.otp, apply_ite State.pending]
@[simp] theorem fuse_setUpdState (s : State) (st : Nat) :
    (setUpdState s st).otp.fuse = s.otp.fuse := (kept_setUpdState s st).1
@[simp] theorem pending_setUpdState (s : State) (st : Nat) :
    (setUpdState s st).pending = s.pending := (kept_setUpdState s st).2

theorem kept_cmdResult (s : State) (r : Nat) :
    (cmdResult s r).otp.fuse = s.otp.fuse ∧ (cmdResult s r).pending = s.pending := by
  simp [cmdResult, apply_ite State.otp, apply_ite State.pending]
@[simp] theorem fuse_cmdResult (s : State) (r : Nat) :
    (cmdResult s r).otp.fuse = s.otp.fuse := (kept_cmdResult s r).1
@[simp] theorem pending_cmdResult (s : State) (r : Nat) :
    (cmdResult s r).pending = s.pending := (kept_cmdResult s r).2

theorem kept_markBit (s : State) (a : Nat) (j : Nat) :
    (markBit s a j).2.otp.fuse = s.otp.fuse ∧ (markBit s a j).2.pending = s.pending := by
  simp [markBit]
@[simp] theorem fuse_markBit (s : State) (a : Nat) (j : Nat) :
    (markBit s a j).2.otp.fuse = s.otp.fuse := (kept_markBit s a j).1
@[simp] theorem pending_markBit (s : State) (a : Nat) (j : Nat) :
    (markBit s a j).2.pending = s.pending := (kept_markBit s a j).2

theorem kept_writeUnit (s : State) (u : Nat) (bs : List Byte) :
    (writeUnit s u bs).2.otp.fuse = s.otp.fuse ∧ (writeUnit s u bs).2.pending = s.pending := by
  unfold writeUnit
  dsimp only
  have e : ((if sectorErased s (u / 32) then (true, s)
      else match eraseOnce s (bankBase (targetBank s) + 4096 * (u / 32)) with
        | (true, s) => markBit s (mapBase s + 0x1000) (u / 32)
        | r => r).2.otp.fuse = s.otp.fuse ∧
      (if sectorErased s (u / 32) then (true, s)
      else match eraseOnce s (bankBase (targetBank s) + 4096 * (u / 32)) with
        | (true, s) => markBit s (mapBase s + 0x1000) (u / 32)
        | r => r).2.pending = s.pending) := by
    split
    · exact ⟨rfl, rfl⟩
    · split
      · rename_i h
        have a := kept_of_snd (kept_eraseOnce _ _) h
        simp [a]
      · simp
  split
  · rename_i h
    exact kept_of_snd e h
  · rename_i h
    have a := kept_of_snd e h
    split <;> rename_i h2 <;> have b := kept_of_snd (kept_programOnce _ _ _) h2
    · simp [a, b]
    · split <;> rename_i h3 <;> have c := kept_of_snd (kept_markBit _ _ _) h3 <;> simp [a, b, c]
@[simp] theorem fuse_writeUnit (s : State) (u : Nat) (bs : List Byte) :
    (writeUnit s u bs).2.otp.fuse = s.otp.fuse := (kept_writeUnit s u bs).1
@[simp] theorem pending_writeUnit (s : State) (u : Nat) (bs : List Byte) :
    (writeUnit s u bs).2.pending = s.pending := (kept_writeUnit s u bs).2

theorem kept_writeUnits (n : Nat) (s : State) (u : Nat) (bs : List Byte) :
    (writeUnits n s u bs).2.otp.fuse = s.otp.fuse ∧ (writeUnits n s u bs).2.pending = s.pending := by
  induction n generalizing s u bs with
  | zero => exact ⟨rfl, rfl⟩
  | succ n ih =>
    unfold writeUnits
    split
    · exact ⟨rfl, rfl⟩
    · have e : ((if unitMarked s u then (true, s) else writeUnit s u (bs.take 128)).2.otp.fuse = s.otp.fuse ∧
          (if unitMarked s u then (true, s) else writeUnit s u (bs.take 128)).2.pending = s.pending) := by
        split <;> simp
      split <;> rename_i h <;> have a := kept_of_snd e h <;> simp [ih, a]
@[simp] theorem fuse_writeUnits (n : Nat) (s : State) (u : Nat) (bs : List Byte) :
    (writeUnits n s u bs).2.otp.fuse = s.otp.fuse := (kept_writeUnits n s u bs).1
@[simp] theorem pending_writeUnits (n : Nat) (s : State) (u : Nat) (bs : List Byte) :
    (writeUnits n s u bs).2.pending = s.pending := (kept_writeUnits n s u bs).2

theorem kept_eraseMap (n i : Nat) (s : State) :
    (eraseMap n i s).2.otp.fuse = s.otp.fuse ∧ (eraseMap n i s).2.pending = s.pending := by
  induction n generalizing i s with
  | zero => exact ⟨rfl, rfl⟩
  | succ n ih =>
    unfold eraseMap
    split
    · rename_i h
      have a := kept_of_snd (kept_eraseOnce _ _) h
      simp [ih, a]
    · simp
@[simp] theorem fuse_eraseMap (n i : Nat) (s : State) :
    (eraseMap n i s).2.otp.fuse = s.otp.fuse := (kept_eraseMap n i s).1
@[simp] theorem pending_eraseMap (n i : Nat) (s : State) :
    (eraseMap n i s).2.pending = s.pending := (kept_eraseMap n i s).2

theorem kept_openSession (s : State) (b : List Byte) :
    (openSession s b).2.otp.fuse = s.otp.fuse ∧ (openSession s b).2.pending = s.pending := by
  unfold openSession
  split
  · rename_i h
    exact kept_of_snd (kept_eraseMap _ _ _) h
  · rename_i h
    have a := kept_of_snd (kept_eraseMap _ _ _) h
    dsimp only
    split <;> rename_i h2 <;> have b := kept_of_snd (kept_programOnce _ _ _) h2
    · simp [a, b]
    · split <;> rename_i h3 <;> have c := kept_of_snd (kept_writeUnits _ _ _ _) h3 <;> simp [a, b, c]
@[simp] theorem fuse_openSession (s : State) (b : List Byte) :
    (openSession s b).2.otp.fuse = s.otp.fuse := (kept_openSession s b).1
@[simp] theorem pending_openSession (s : State) (b : List Byte) :
    (openSession s b).2.pending = s.pending := (kept_openSession s b).2

theorem kept_stopBlock (s : State) :
    (stopBlock s).2.otp.fuse = s.otp.fuse ∧ (stopBlock s).2.pending = s.pending := by
  unfold stopBlock; dsimp only; (repeat' split) <;> simp [fuse_foldl, pending_foldl]
@[simp] theorem fuse_stopBlock (s : State) :
    (stopBlock s).2.otp.fuse = s.otp.fuse := (kept_stopBlock s).1
@[simp] theorem pending_stopBlock (s : State) :
    (stopBlock s).2.pending = s.pending := (kept_stopBlock s).2

theorem kept_procBlock (s : State) (p : UpdPend) :
    (procBlock s p).2.otp.fuse = s.otp.fuse ∧ (procBlock s p).2.pending = s.pending := by
  unfold procBlock
  extract_lets len u idle endsAt lenBad align before held h u2 s1
  refine kept_ite2 ⟨rfl, rfl⟩ (kept_ite2 ⟨rfl, rfl⟩ (kept_ite2 ⟨rfl, rfl⟩ (kept_ite2 ⟨rfl, rfl⟩
    (kept_ite2 ?_ (kept_ite2 ⟨rfl, rfl⟩ (kept_ite2 ⟨rfl, rfl⟩ ?_))))))
  · refine kept_ite2 ⟨rfl, rfl⟩ (kept_ite2 ⟨rfl, rfl⟩ (kept_ite2 ⟨rfl, rfl⟩ ?_))
    split
    · split
      · rename_i q
        have a := kept_of_snd (kept_openSession _ _) q
        simpa using a
      · rename_i q
        have a := kept_of_snd (kept_openSession _ _) q
        simp only [fuse_setUpdState, pending_setUpdState]
        exact a
    · exact ⟨rfl, rfl⟩
  · split
    · rename_i q
      simpa using kept_of_snd (kept_writeUnits _ _ _ _) q
    · rename_i q
      exact kept_of_snd (kept_writeUnits _ _ _ _) q
@[simp] theorem fuse_procBlock (s : State) (p : UpdPend) :
    (procBlock s p).2.otp.fuse = s.otp.fuse := (kept_procBlock s p).1
@[simp] theorem pending_procBlock (s : State) (p : UpdPend) :
    (procBlock s p).2.pending = s.pending := (kept_procBlock s p).2

theorem kept_answerBlock (s : State) (p : UpdPend) (c : Nat) :
    (answerBlock s p c).otp.fuse = s.otp.fuse ∧ (answerBlock s p c).pending = s.pending := by
  simp [answerBlock, apply_ite State.otp, apply_ite Otp.fuse, apply_ite State.pending, fuse_foldl, pending_foldl]
@[simp] theorem fuse_answerBlock (s : State) (p : UpdPend) (c : Nat) :
    (answerBlock s p c).otp.fuse = s.otp.fuse := (kept_answerBlock s p c).1
@[simp] theorem pending_answerBlock (s : State) (p : UpdPend) (c : Nat) :
    (answerBlock s p c).pending = s.pending := (kept_answerBlock s p c).2

theorem kept_runBlocks (l : List UpdPend) (s : State) :
    (runBlocks l s).otp.fuse = s.otp.fuse ∧ (runBlocks l s).pending = s.pending := by
  induction l generalizing s with
  | nil => simp [runBlocks]
  | cons p t ih =>
    unfold runBlocks
    split <;> rename_i h <;> have a := kept_of_snd (kept_procBlock _ _) h <;> simp [ih, a]
@[simp] theorem fuse_runBlocks (l : List UpdPend) (s : State) :
    (runBlocks l s).otp.fuse = s.otp.fuse := (kept_runBlocks l s).1
@[simp] theorem pending_runBlocks (l : List UpdPend) (s : State) :
    (runBlocks l s).pending = s.pending := (kept_runBlocks l s).2

theorem kept_blockArrives (s : State) (p : UpdPend) :
    (blockArrives s p).otp.fuse = s.otp.fuse ∧ (blockArrives s p).pending = s.pending := by
  unfold blockArrives
  split <;> simp
@[simp] theorem fuse_blockArrives (s : State) (p : UpdPend) :
    (blockArrives s p).otp.fuse = s.otp.fuse := (kept_blockArrives s p).1
@[simp] theorem pending_blockArrives (s : State) (p : UpdPend) :
    (blockArrives s p).pending = s.pending := (kept_blockArrives s p).2

theorem kept_abortSession (s : State) :
    (abortSession s).otp.fuse = s.otp.fuse ∧ (abortSession s).pending = s.pending := by
  unfold abortSession
  (repeat' split) <;>
    first
    | exact ⟨rfl, rfl⟩
    | (rename_i h; have a := kept_of_snd (kept_flashErase _ _) h; simp [a])
@[simp] theorem fuse_abortSession (s : State) :
    (abortSession s).otp.fuse = s.otp.fuse := (kept_abortSession s).1
@[simp] theorem pending_abortSession (s : State) :
    (abortSession s).pending = s.pending := (kept_abortSession s).2

theorem kept_putVerified (s : State) :
    (putVerified s).otp.fuse = s.otp.fuse ∧ (putVerified s).pending = s.pending := by
  unfold putVerified
  (repeat' split) <;>
    first
    | exact ⟨rfl, rfl⟩
    | (rename_i h; have a := kept_of_snd (kept_flashProgram _ _ _) h; simp [a])
@[simp] theorem fuse_putVerified (s : State) :
    (putVerified s).otp.fuse = s.otp.fuse := (kept_putVerified s).1
@[simp] theorem pending_putVerified (s : State) :
    (putVerified s).pending = s.pending := (kept_putVerified s).2

theorem kept_writeTrial (s : State) :
    (writeTrial s).otp.fuse = s.otp.fuse ∧ (writeTrial s).pending = s.pending := by
  unfold writeTrial
  dsimp only
  have e : ∀ r, ((if s.upd.trialWritten then (true, s) else writeBootRec s r).2.otp.fuse = s.otp.fuse ∧
      (if s.upd.trialWritten then (true, s) else writeBootRec s r).2.pending = s.pending) := by
    intro r; split <;> simp
  split
  · rename_i h
    have a := kept_of_snd (e _) h
    simp [a]
  · rename_i h
    have a := kept_of_snd (e _) h
    split <;> rename_i h2 <;> have b := kept_of_snd (kept_flashProgram _ _ _) h2 <;> simp [a, b]
@[simp] theorem fuse_writeTrial (s : State) :
    (writeTrial s).otp.fuse = s.otp.fuse := (kept_writeTrial s).1
@[simp] theorem pending_writeTrial (s : State) :
    (writeTrial s).pending = s.pending := (kept_writeTrial s).2

theorem kept_writeConfirmed (s : State) :
    (writeConfirmed s).otp.fuse = s.otp.fuse ∧ (writeConfirmed s).pending = s.pending := by
  unfold writeConfirmed
  dsimp only
  split <;> rename_i h <;> have a := kept_of_snd (kept_writeBootRec _ _) h <;> simpa using a
@[simp] theorem fuse_writeConfirmed (s : State) :
    (writeConfirmed s).otp.fuse = s.otp.fuse := (kept_writeConfirmed s).1
@[simp] theorem pending_writeConfirmed (s : State) :
    (writeConfirmed s).pending = s.pending := (kept_writeConfirmed s).2

theorem kept_revert (s : State) :
    (revert s).otp.fuse = s.otp.fuse ∧ (revert s).pending = s.pending := by
  simp [revert, apply_ite State.otp, apply_ite Otp.fuse, apply_ite State.pending, fuse_foldl, pending_foldl]
@[simp] theorem fuse_revert (s : State) :
    (revert s).otp.fuse = s.otp.fuse := (kept_revert s).1
@[simp] theorem pending_revert (s : State) :
    (revert s).pending = s.pending := (kept_revert s).2

theorem kept_confirmFails (s : State) :
    (confirmFails s).otp.fuse = s.otp.fuse ∧ (confirmFails s).pending = s.pending := by
  simp [confirmFails, apply_ite State.otp, apply_ite Otp.fuse, apply_ite State.pending, fuse_foldl, pending_foldl]
@[simp] theorem fuse_confirmFails (s : State) :
    (confirmFails s).otp.fuse = s.otp.fuse := (kept_confirmFails s).1
@[simp] theorem pending_confirmFails (s : State) :
    (confirmFails s).pending = s.pending := (kept_confirmFails s).2

theorem kept_beginJob (s : State) (j : FlashJob) (f : State → State)
    (h : (f s).otp.fuse = s.otp.fuse ∧ (f s).pending = s.pending) :
    (beginJob s j f).otp.fuse = s.otp.fuse ∧ (beginJob s j f).pending = s.pending := by
  unfold beginJob
  split
  · exact ⟨rfl, rfl⟩
  · exact h

theorem kept_cmdAbort (s : State) :
    (cmdAbort s).otp.fuse = s.otp.fuse ∧ (cmdAbort s).pending = s.pending := by
  unfold cmdAbort
  split
  · have h := kept_beginJob (cmdResult s 0) .mapErase abortSession (kept_abortSession _)
    exact ⟨h.1.trans (by simp), h.2.trans (by simp)⟩
  · simp
@[simp] theorem fuse_cmdAbort (s : State) :
    (cmdAbort s).otp.fuse = s.otp.fuse := (kept_cmdAbort s).1
@[simp] theorem pending_cmdAbort (s : State) :
    (cmdAbort s).pending = s.pending := (kept_cmdAbort s).2

theorem kept_cmdVerify (s : State) :
    (cmdVerify s).otp.fuse = s.otp.fuse ∧ (cmdVerify s).pending = s.pending := by
  simp [cmdVerify, apply_ite State.otp, apply_ite Otp.fuse, apply_ite State.pending, fuse_foldl, pending_foldl]
@[simp] theorem fuse_cmdVerify (s : State) :
    (cmdVerify s).otp.fuse = s.otp.fuse := (kept_cmdVerify s).1
@[simp] theorem pending_cmdVerify (s : State) :
    (cmdVerify s).pending = s.pending := (kept_cmdVerify s).2

theorem kept_cmdActivate (s : State) (force : Bool) :
    (cmdActivate s force).otp.fuse = s.otp.fuse ∧ (cmdActivate s force).pending = s.pending := by
  simp [cmdActivate, apply_ite State.otp, apply_ite Otp.fuse, apply_ite State.pending, fuse_foldl, pending_foldl]
@[simp] theorem fuse_cmdActivate (s : State) (force : Bool) :
    (cmdActivate s force).otp.fuse = s.otp.fuse := (kept_cmdActivate s force).1
@[simp] theorem pending_cmdActivate (s : State) (force : Bool) :
    (cmdActivate s force).pending = s.pending := (kept_cmdActivate s force).2

theorem kept_cmdConfirm (s : State) :
    (cmdConfirm s).otp.fuse = s.otp.fuse ∧ (cmdConfirm s).pending = s.pending := by
  have h := kept_beginJob (cmdResult s 0) .confirmedRecord writeConfirmed (kept_writeConfirmed _)
  unfold cmdConfirm
  (repeat' split) <;> first | exact ⟨h.1.trans (by simp), h.2.trans (by simp)⟩ | simp
@[simp] theorem fuse_cmdConfirm (s : State) :
    (cmdConfirm s).otp.fuse = s.otp.fuse := (kept_cmdConfirm s).1
@[simp] theorem pending_cmdConfirm (s : State) :
    (cmdConfirm s).pending = s.pending := (kept_cmdConfirm s).2

theorem kept_cmdReject (s : State) :
    (cmdReject s).otp.fuse = s.otp.fuse ∧ (cmdReject s).pending = s.pending := by
  simp [cmdReject, apply_ite State.otp, apply_ite Otp.fuse, apply_ite State.pending, fuse_foldl, pending_foldl]
@[simp] theorem fuse_cmdReject (s : State) :
    (cmdReject s).otp.fuse = s.otp.fuse := (kept_cmdReject s).1
@[simp] theorem pending_cmdReject (s : State) :
    (cmdReject s).pending = s.pending := (kept_cmdReject s).2

theorem kept_writeRollback (s : State) :
    (writeRollback s).otp.fuse = s.otp.fuse ∧ (writeRollback s).pending = s.pending := by
  unfold writeRollback
  dsimp only
  split
  · simp
  · split <;> rename_i h <;> have a := kept_of_snd (kept_writeBootRec _ _) h <;> simp [a]
@[simp] theorem fuse_writeRollback (s : State) :
    (writeRollback s).otp.fuse = s.otp.fuse := (kept_writeRollback s).1
@[simp] theorem pending_writeRollback (s : State) :
    (writeRollback s).pending = s.pending := (kept_writeRollback s).2

theorem kept_cmdRollback (s : State) (force : Bool) :
    (cmdRollback s force).otp.fuse = s.otp.fuse ∧ (cmdRollback s force).pending = s.pending := by
  have h := kept_beginJob (cmdResult s 0) .rollbackRecord writeRollback (kept_writeRollback _)
  unfold cmdRollback
  (repeat' split) <;> first | exact ⟨h.1.trans (by simp), h.2.trans (by simp)⟩ | simp
@[simp] theorem fuse_cmdRollback (s : State) (force : Bool) :
    (cmdRollback s force).otp.fuse = s.otp.fuse := (kept_cmdRollback s force).1
@[simp] theorem pending_cmdRollback (s : State) (force : Bool) :
    (cmdRollback s force).pending = s.pending := (kept_cmdRollback s force).2

theorem kept_updCommand (s : State) (v : Word) :
    (updCommand s v).otp.fuse = s.otp.fuse ∧ (updCommand s v).pending = s.pending := by
  unfold updCommand; dsimp only; (repeat' split) <;> simp
@[simp] theorem fuse_updCommand (s : State) (v : Word) :
    (updCommand s v).otp.fuse = s.otp.fuse := (kept_updCommand s v).1
@[simp] theorem pending_updCommand (s : State) (v : Word) :
    (updCommand s v).pending = s.pending := (kept_updCommand s v).2

theorem kept_mbGo (s : State) (fail : Option Nat) :
    (mbGo s fail).otp.fuse = s.otp.fuse ∧ (mbGo s fail).pending = s.pending := by
  simp [mbGo, apply_ite State.otp, apply_ite Otp.fuse, apply_ite State.pending, fuse_foldl, pending_foldl]
@[simp] theorem fuse_mbGo (s : State) (fail : Option Nat) :
    (mbGo s fail).otp.fuse = s.otp.fuse := (kept_mbGo s fail).1
@[simp] theorem pending_mbGo (s : State) (fail : Option Nat) :
    (mbGo s fail).pending = s.pending := (kept_mbGo s fail).2

theorem kept_retryJob (s : State) (j : FlashJob) :
    (retryJob s j).otp.fuse = s.otp.fuse ∧ (retryJob s j).pending = s.pending := by
  cases j <;> simp [retryJob]
@[simp] theorem fuse_retryJob (s : State) (j : FlashJob) :
    (retryJob s j).otp.fuse = s.otp.fuse := (kept_retryJob s j).1
@[simp] theorem pending_retryJob (s : State) (j : FlashJob) :
    (retryJob s j).pending = s.pending := (kept_retryJob s j).2

theorem kept_retryJobs (s : State) :
    (retryJobs s).otp.fuse = s.otp.fuse ∧ (retryJobs s).pending = s.pending := by
  simp [retryJobs, apply_ite State.otp, apply_ite Otp.fuse, apply_ite State.pending, fuse_foldl, pending_foldl]
@[simp] theorem fuse_retryJobs (s : State) :
    (retryJobs s).otp.fuse = s.otp.fuse := (kept_retryJobs s).1
@[simp] theorem pending_retryJobs (s : State) :
    (retryJobs s).pending = s.pending := (kept_retryJobs s).2

theorem kept_followDown (s : State) :
    (followDown s).otp.fuse = s.otp.fuse ∧ (followDown s).pending = s.pending := by
  simp [followDown, apply_ite State.otp, apply_ite State.pending]
@[simp] theorem fuse_followDown (s : State) :
    (followDown s).otp.fuse = s.otp.fuse := (kept_followDown s).1
@[simp] theorem pending_followDown (s : State) :
    (followDown s).pending = s.pending := (kept_followDown s).2

theorem kept_sendCtl (s : State) (l : Nat) (kind : Nat) (u : List Byte) :
    (sendCtl s l kind u).otp.fuse = s.otp.fuse ∧ (sendCtl s l kind u).pending = s.pending := by
  simp [sendCtl]
@[simp] theorem fuse_sendCtl (s : State) (l : Nat) (kind : Nat) (u : List Byte) :
    (sendCtl s l kind u).otp.fuse = s.otp.fuse := (kept_sendCtl s l kind u).1
@[simp] theorem pending_sendCtl (s : State) (l : Nat) (kind : Nat) (u : List Byte) :
    (sendCtl s l kind u).pending = s.pending := (kept_sendCtl s l kind u).2

theorem kept_sendAck (s : State) (l : Nat) :
    (sendAck s l).otp.fuse = s.otp.fuse ∧ (sendAck s l).pending = s.pending := by
  simp [sendAck]
@[simp] theorem fuse_sendAck (s : State) (l : Nat) :
    (sendAck s l).otp.fuse = s.otp.fuse := (kept_sendAck s l).1
@[simp] theorem pending_sendAck (s : State) (l : Nat) :
    (sendAck s l).pending = s.pending := (kept_sendAck s l).2

theorem kept_sendCredit (s : State) (l : Nat) (cls : Nat) :
    (sendCredit s l cls).otp.fuse = s.otp.fuse ∧ (sendCredit s l cls).pending = s.pending := by
  simp [sendCredit]
@[simp] theorem fuse_sendCredit (s : State) (l : Nat) (cls : Nat) :
    (sendCredit s l cls).otp.fuse = s.otp.fuse := (kept_sendCredit s l cls).1
@[simp] theorem pending_sendCredit (s : State) (l : Nat) (cls : Nat) :
    (sendCredit s l cls).pending = s.pending := (kept_sendCredit s l cls).2

theorem kept_markLoss (s : State) (key : Nat) (frame : Nat) :
    (markLoss s key frame).otp.fuse = s.otp.fuse ∧ (markLoss s key frame).pending = s.pending := by
  simp [markLoss, apply_ite State.otp, apply_ite State.pending]
@[simp] theorem fuse_markLoss (s : State) (key : Nat) (frame : Nat) :
    (markLoss s key frame).otp.fuse = s.otp.fuse := (kept_markLoss s key frame).1
@[simp] theorem pending_markLoss (s : State) (key : Nat) (frame : Nat) :
    (markLoss s key frame).pending = s.pending := (kept_markLoss s key frame).2

theorem kept_failover (s : State) (l : Nat) :
    (failover s l).otp.fuse = s.otp.fuse ∧ (failover s l).pending = s.pending := by
  simp [failover, fuse_foldl, pending_foldl]
@[simp] theorem fuse_failover (s : State) (l : Nat) :
    (failover s l).otp.fuse = s.otp.fuse := (kept_failover s l).1
@[simp] theorem pending_failover (s : State) (l : Nat) :
    (failover s l).pending = s.pending := (kept_failover s l).2

theorem kept_leaveUp (s : State) (l : Nat) :
    (leaveUp s l).otp.fuse = s.otp.fuse ∧ (leaveUp s l).pending = s.pending := by
  simp [leaveUp, apply_ite State.otp, apply_ite Otp.fuse, apply_ite State.pending, fuse_foldl, pending_foldl]
@[simp] theorem fuse_leaveUp (s : State) (l : Nat) :
    (leaveUp s l).otp.fuse = s.otp.fuse := (kept_leaveUp s l).1
@[simp] theorem pending_leaveUp (s : State) (l : Nat) :
    (leaveUp s l).pending = s.pending := (kept_leaveUp s l).2

theorem kept_enterDown (s : State) (l : Nat) :
    (enterDown s l).otp.fuse = s.otp.fuse ∧ (enterDown s l).pending = s.pending := by
  simp [enterDown, apply_ite State.otp, apply_ite State.pending]
@[simp] theorem fuse_enterDown (s : State) (l : Nat) :
    (enterDown s l).otp.fuse = s.otp.fuse := (kept_enterDown s l).1
@[simp] theorem pending_enterDown (s : State) (l : Nat) :
    (enterDown s l).pending = s.pending := (kept_enterDown s l).2

theorem kept_freshReset (s : State) (l : Nat) :
    (freshReset s l).otp.fuse = s.otp.fuse ∧ (freshReset s l).pending = s.pending := by
  have f : ∀ (ls : List Nat) (u : State),
      (ls.foldl (fun s i => setLink s i { s.link i with resend := none }) u).otp.fuse = u.otp.fuse ∧
        (ls.foldl (fun s i => setLink s i { s.link i with resend := none }) u).pending = u.pending := fun _ _ =>
    ⟨fuse_foldl _ (fun _ _ => by simp) _ _, pending_foldl _ (fun _ _ => by simp) _ _⟩
  unfold freshReset
  dsimp only
  split <;> simp [f]
@[simp] theorem fuse_freshReset (s : State) (l : Nat) :
    (freshReset s l).otp.fuse = s.otp.fuse := (kept_freshReset s l).1
@[simp] theorem pending_freshReset (s : State) (l : Nat) :
    (freshReset s l).pending = s.pending := (kept_freshReset s l).2

theorem kept_peerReset (s : State) (l : Nat) (fresh : Bool) :
    (peerReset s l fresh).otp.fuse = s.otp.fuse ∧ (peerReset s l fresh).pending = s.pending := by
  simp [peerReset, apply_ite State.otp, apply_ite Otp.fuse, apply_ite State.pending]
@[simp] theorem fuse_peerReset (s : State) (l : Nat) (fresh : Bool) :
    (peerReset s l fresh).otp.fuse = s.otp.fuse := (kept_peerReset s l fresh).1
@[simp] theorem pending_peerReset (s : State) (l : Nat) (fresh : Bool) :
    (peerReset s l fresh).pending = s.pending := (kept_peerReset s l fresh).2

theorem kept_trainStep (s : State) (l : Nat) (rx : Nat) (tx : Nat) (fresh : Bool) (credits : Option (List Nat)) (lanes : List (Nat × Bool)) :
    (trainStep s l rx tx fresh credits lanes).otp.fuse = s.otp.fuse ∧ (trainStep s l rx tx fresh credits lanes).pending = s.pending := by
  unfold trainStep; dsimp only; (repeat' split) <;> simp [fuse_foldl, pending_foldl]
@[simp] theorem fuse_trainStep (s : State) (l : Nat) (rx : Nat) (tx : Nat) (fresh : Bool) (credits : Option (List Nat)) (lanes : List (Nat × Bool)) :
    (trainStep s l rx tx fresh credits lanes).otp.fuse = s.otp.fuse := (kept_trainStep s l rx tx fresh credits lanes).1
@[simp] theorem pending_trainStep (s : State) (l : Nat) (rx : Nat) (tx : Nat) (fresh : Bool) (credits : Option (List Nat)) (lanes : List (Nat × Bool)) :
    (trainStep s l rx tx fresh credits lanes).pending = s.pending := (kept_trainStep s l rx tx fresh credits lanes).2

theorem kept_laneFails (s : State) (l : Nat) (lane : Nat) :
    (laneFails s l lane).otp.fuse = s.otp.fuse ∧ (laneFails s l lane).pending = s.pending := by
  simp [laneFails, apply_ite State.otp, apply_ite Otp.fuse, apply_ite State.pending]
@[simp] theorem fuse_laneFails (s : State) (l : Nat) (lane : Nat) :
    (laneFails s l lane).otp.fuse = s.otp.fuse := (kept_laneFails s l lane).1
@[simp] theorem pending_laneFails (s : State) (l : Nat) (lane : Nat) :
    (laneFails s l lane).pending = s.pending := (kept_laneFails s l lane).2

theorem kept_retrain (s : State) (l : Nat) :
    (retrain s l).otp.fuse = s.otp.fuse ∧ (retrain s l).pending = s.pending := by
  simp [retrain, apply_ite State.otp, apply_ite Otp.fuse, apply_ite State.pending]
@[simp] theorem fuse_retrain (s : State) (l : Nat) :
    (retrain s l).otp.fuse = s.otp.fuse := (kept_retrain s l).1
@[simp] theorem pending_retrain (s : State) (l : Nat) :
    (retrain s l).pending = s.pending := (kept_retrain s l).2

theorem kept_release (s : State) (l : Nat) (keep : List (Nat × Pkt)) :
    (release s l keep).otp.fuse = s.otp.fuse ∧ (release s l keep).pending = s.pending := by
  unfold release
  dsimp only
  exact ⟨fuse_foldl (fun (u : State) i => setLink u i ((u.link i).released u.time.tb keep)) (fun _ _ => rfl) _ _,
    pending_foldl (fun (u : State) i => setLink u i ((u.link i).released u.time.tb keep)) (fun _ _ => rfl) _ _⟩
@[simp] theorem fuse_release (s : State) (l : Nat) (keep : List (Nat × Pkt)) :
    (release s l keep).otp.fuse = s.otp.fuse := (kept_release s l keep).1
@[simp] theorem pending_release (s : State) (l : Nat) (keep : List (Nat × Pkt)) :
    (release s l keep).pending = s.pending := (kept_release s l keep).2

theorem kept_noteCarried (s : State) (l : Nat) (p : Pkt) :
    (noteCarried s l p).otp.fuse = s.otp.fuse ∧ (noteCarried s l p).pending = s.pending := by
  simp [noteCarried, apply_ite State.otp, apply_ite Otp.fuse, apply_ite State.pending, fuse_foldl, pending_foldl]
@[simp] theorem fuse_noteCarried (s : State) (l : Nat) (p : Pkt) :
    (noteCarried s l p).otp.fuse = s.otp.fuse := (kept_noteCarried s l p).1
@[simp] theorem pending_noteCarried (s : State) (l : Nat) (p : Pkt) :
    (noteCarried s l p).pending = s.pending := (kept_noteCarried s l p).2

theorem kept_placeUnits (s : State) (l : Nat) (p : Pkt) :
    (placeUnits s l p).otp.fuse = s.otp.fuse ∧ (placeUnits s l p).pending = s.pending := by
  simp [placeUnits, apply_ite State.otp, apply_ite Otp.fuse, apply_ite State.pending, fuse_foldl, pending_foldl]
@[simp] theorem fuse_placeUnits (s : State) (l : Nat) (p : Pkt) :
    (placeUnits s l p).otp.fuse = s.otp.fuse := (kept_placeUnits s l p).1
@[simp] theorem pending_placeUnits (s : State) (l : Nat) (p : Pkt) :
    (placeUnits s l p).pending = s.pending := (kept_placeUnits s l p).2

theorem kept_sendOn (seq : Nat) (p : Pkt) (s : State) (l : Nat) :
    (sendOn seq p s l).otp.fuse = s.otp.fuse ∧ (sendOn seq p s l).pending = s.pending := by
  simp [sendOn, apply_ite State.otp, apply_ite Otp.fuse, apply_ite State.pending, fuse_foldl, pending_foldl]
@[simp] theorem fuse_sendOn (seq : Nat) (p : Pkt) (s : State) (l : Nat) :
    (sendOn seq p s l).otp.fuse = s.otp.fuse := (kept_sendOn seq p s l).1
@[simp] theorem pending_sendOn (seq : Nat) (p : Pkt) (s : State) (l : Nat) :
    (sendOn seq p s l).pending = s.pending := (kept_sendOn seq p s l).2

theorem kept_sendReplay (s : State) (l : Nat) (q : Nat) :
    (sendReplay s l q).otp.fuse = s.otp.fuse ∧ (sendReplay s l q).pending = s.pending := by
  unfold sendReplay; dsimp only; (repeat' split) <;> simp
@[simp] theorem fuse_sendReplay (s : State) (l : Nat) (q : Nat) :
    (sendReplay s l q).otp.fuse = s.otp.fuse := (kept_sendReplay s l q).1
@[simp] theorem pending_sendReplay (s : State) (l : Nat) (q : Nat) :
    (sendReplay s l q).pending = s.pending := (kept_sendReplay s l q).2

theorem kept_fixLog (s : State) (p : Pkt) :
    (fixLog s p).otp.fuse = s.otp.fuse ∧ (fixLog s p).pending = s.pending := by
  unfold fixLog; split <;> simp
@[simp] theorem fuse_fixLog (s : State) (p : Pkt) :
    (fixLog s p).otp.fuse = s.otp.fuse := (kept_fixLog s p).1
@[simp] theorem pending_fixLog (s : State) (p : Pkt) :
    (fixLog s p).pending = s.pending := (kept_fixLog s p).2

theorem kept_keepSent (s : State) (l : Nat) (n : Nat) (p : Pkt) :
    (keepSent s l n p).otp.fuse = s.otp.fuse ∧ (keepSent s l n p).pending = s.pending := by
  unfold keepSent
  dsimp only
  split
  · refine ⟨?_, ?_⟩
    · simpa using fuse_foldl (fun (u : State) i => setLink u i { u.link i with relAt := u.time.tb })
        (fun _ _ => rfl) (sharers s l) s
    · simpa using pending_foldl (fun (u : State) i => setLink u i { u.link i with relAt := u.time.tb })
        (fun _ _ => rfl) (sharers s l) s
  · simp
@[simp] theorem fuse_keepSent (s : State) (l : Nat) (n : Nat) (p : Pkt) :
    (keepSent s l n p).otp.fuse = s.otp.fuse := (kept_keepSent s l n p).1
@[simp] theorem pending_keepSent (s : State) (l : Nat) (n : Nat) (p : Pkt) :
    (keepSent s l n p).pending = s.pending := (kept_keepSent s l n p).2

theorem kept_transmit (s : State) (l : Nat) :
    (transmit s l).otp.fuse = s.otp.fuse ∧ (transmit s l).pending = s.pending := by
  unfold transmit; dsimp only; (repeat' split) <;> simp [fuse_foldl, pending_foldl]
@[simp] theorem fuse_transmit (s : State) (l : Nat) :
    (transmit s l).otp.fuse = s.otp.fuse := (kept_transmit s l).1
@[simp] theorem pending_transmit (s : State) (l : Nat) :
    (transmit s l).pending = s.pending := (kept_transmit s l).2

theorem kept_lanesIdle (s : State) :
    (lanesIdle s).otp.fuse = s.otp.fuse ∧ (lanesIdle s).pending = s.pending := by
  simp [lanesIdle, apply_ite State.otp, apply_ite Otp.fuse, apply_ite State.pending, fuse_foldl, pending_foldl]
@[simp] theorem fuse_lanesIdle (s : State) :
    (lanesIdle s).otp.fuse = s.otp.fuse := (kept_lanesIdle s).1
@[simp] theorem pending_lanesIdle (s : State) :
    (lanesIdle s).pending = s.pending := (kept_lanesIdle s).2

theorem kept_fallTo (s : State) (t : Nat) :
    (fallTo s t).otp.fuse = s.otp.fuse ∧ (fallTo s t).pending = s.pending := by
  simp [fallTo, apply_ite State.otp, apply_ite Otp.fuse, apply_ite State.pending]
@[simp] theorem fuse_fallTo (s : State) (t : Nat) :
    (fallTo s t).otp.fuse = s.otp.fuse := (kept_fallTo s t).1
@[simp] theorem pending_fallTo (s : State) (t : Nat) :
    (fallTo s t).pending = s.pending := (kept_fallTo s t).2

theorem kept_faultRestart (s : State) :
    (faultRestart s).otp.fuse = s.otp.fuse ∧ (faultRestart s).pending = s.pending := by
  simp [faultRestart, apply_ite State.otp, apply_ite Otp.fuse, apply_ite State.pending, fuse_foldl, pending_foldl]
@[simp] theorem fuse_faultRestart (s : State) :
    (faultRestart s).otp.fuse = s.otp.fuse := (kept_faultRestart s).1
@[simp] theorem pending_faultRestart (s : State) :
    (faultRestart s).pending = s.pending := (kept_faultRestart s).2

theorem kept_utFault (s : State) (u : UnitId) :
    (utFault s u).otp.fuse = s.otp.fuse ∧ (utFault s u).pending = s.pending := by
  simp [utFault, apply_ite State.otp, apply_ite Otp.fuse, apply_ite State.pending]
@[simp] theorem fuse_utFault (s : State) (u : UnitId) :
    (utFault s u).otp.fuse = s.otp.fuse := (kept_utFault s u).1
@[simp] theorem pending_utFault (s : State) (u : UnitId) :
    (utFault s u).pending = s.pending := (kept_utFault s u).2

theorem kept_ueFault (s : State) (addr : Nat) :
    (ueFault s addr).otp.fuse = s.otp.fuse ∧ (ueFault s addr).pending = s.pending := by
  simp [ueFault]
@[simp] theorem fuse_ueFault (s : State) (addr : Nat) :
    (ueFault s addr).otp.fuse = s.otp.fuse := (kept_ueFault s addr).1
@[simp] theorem pending_ueFault (s : State) (addr : Nat) :
    (ueFault s addr).pending = s.pending := (kept_ueFault s addr).2

theorem kept_ctFault (s : State) (arg0 : Nat) (arg1 : Nat) :
    (ctFault s arg0 arg1).otp.fuse = s.otp.fuse ∧ (ctFault s arg0 arg1).pending = s.pending := by
  simp [ctFault]
@[simp] theorem fuse_ctFault (s : State) (arg0 : Nat) (arg1 : Nat) :
    (ctFault s arg0 arg1).otp.fuse = s.otp.fuse := (kept_ctFault s arg0 arg1).1
@[simp] theorem pending_ctFault (s : State) (arg0 : Nat) (arg1 : Nat) :
    (ctFault s arg0 arg1).pending = s.pending := (kept_ctFault s arg0 arg1).2

theorem kept_enterT0 (s : State) :
    (enterT0 s).otp.fuse = s.otp.fuse ∧ (enterT0 s).pending = s.pending := by
  simp [enterT0]
@[simp] theorem fuse_enterT0 (s : State) :
    (enterT0 s).otp.fuse = s.otp.fuse := (kept_enterT0 s).1
@[simp] theorem pending_enterT0 (s : State) :
    (enterT0 s).pending = s.pending := (kept_enterT0 s).2

theorem kept_lockstep (s : State) :
    (lockstep s).otp.fuse = s.otp.fuse ∧ (lockstep s).pending = s.pending := by
  simp [lockstep, apply_ite State.otp, apply_ite Otp.fuse, apply_ite State.pending]
@[simp] theorem fuse_lockstep (s : State) :
    (lockstep s).otp.fuse = s.otp.fuse := (kept_lockstep s).1
@[simp] theorem pending_lockstep (s : State) :
    (lockstep s).pending = s.pending := (kept_lockstep s).2

theorem kept_correctedWords (s : State) (edram : Bool) (n : Nat) :
    (correctedWords s edram n).otp.fuse = s.otp.fuse ∧ (correctedWords s edram n).pending = s.pending := by
  simp [correctedWords, apply_ite State.otp, apply_ite State.pending]
@[simp] theorem fuse_correctedWords (s : State) (edram : Bool) (n : Nat) :
    (correctedWords s edram n).otp.fuse = s.otp.fuse := (kept_correctedWords s edram n).1
@[simp] theorem pending_correctedWords (s : State) (edram : Bool) (n : Nat) :
    (correctedWords s edram n).pending = s.pending := (kept_correctedWords s edram n).2

theorem kept_retire (s : State) (l : Nat) :
    (retire s l).otp.fuse = s.otp.fuse ∧ (retire s l).pending = s.pending := by
  simp [retire, apply_ite State.otp, apply_ite State.pending]
@[simp] theorem fuse_retire (s : State) (l : Nat) :
    (retire s l).otp.fuse = s.otp.fuse := (kept_retire s l).1
@[simp] theorem pending_retire (s : State) (l : Nat) :
    (retire s l).pending = s.pending := (kept_retire s l).2

theorem kept_healthCheck (s : State) :
    (healthCheck s).otp.fuse = s.otp.fuse ∧ (healthCheck s).pending = s.pending := by
  simp [healthCheck, apply_ite State.otp, apply_ite Otp.fuse, apply_ite State.pending]
@[simp] theorem fuse_healthCheck (s : State) :
    (healthCheck s).otp.fuse = s.otp.fuse := (kept_healthCheck s).1
@[simp] theorem pending_healthCheck (s : State) :
    (healthCheck s).pending = s.pending := (kept_healthCheck s).2

theorem kept_startJob (s : State) (l : Nat) (j : Job) :
    (startJob s l j).otp.fuse = s.otp.fuse ∧ (startJob s l j).pending = s.pending := by
  simp [startJob, apply_ite State.otp, apply_ite Otp.fuse, apply_ite State.pending, fuse_foldl, pending_foldl]
@[simp] theorem fuse_startJob (s : State) (l : Nat) (j : Job) :
    (startJob s l j).otp.fuse = s.otp.fuse := (kept_startJob s l j).1
@[simp] theorem pending_startJob (s : State) (l : Nat) (j : Job) :
    (startJob s l j).pending = s.pending := (kept_startJob s l j).2

theorem kept_dispatchLanes (ls : List Nat) (js : List Job) (s : State) :
    (dispatchLanes ls js s).otp.fuse = s.otp.fuse ∧ (dispatchLanes ls js s).pending = s.pending := by
  induction ls generalizing js s with
  | nil => exact ⟨rfl, rfl⟩
  | cons l t ih =>
    unfold dispatchLanes
    split <;> simp [ih]
@[simp] theorem fuse_dispatchLanes (ls : List Nat) (js : List Job) (s : State) :
    (dispatchLanes ls js s).otp.fuse = s.otp.fuse := (kept_dispatchLanes ls js s).1
@[simp] theorem pending_dispatchLanes (ls : List Nat) (js : List Job) (s : State) :
    (dispatchLanes ls js s).pending = s.pending := (kept_dispatchLanes ls js s).2

theorem kept_dispatch (s : State) :
    (dispatch s).otp.fuse = s.otp.fuse ∧ (dispatch s).pending = s.pending := by
  simp [dispatch, apply_ite State.otp, apply_ite Otp.fuse, apply_ite State.pending]
@[simp] theorem fuse_dispatch (s : State) :
    (dispatch s).otp.fuse = s.otp.fuse := (kept_dispatch s).1
@[simp] theorem pending_dispatch (s : State) :
    (dispatch s).pending = s.pending := (kept_dispatch s).2

theorem kept_dispatchReplay (ls : List Nat) (s : State) :
    (dispatchReplay ls s).otp.fuse = s.otp.fuse ∧ (dispatchReplay ls s).pending = s.pending := by
  induction ls generalizing s with
  | nil => exact ⟨rfl, rfl⟩
  | cons l t ih =>
    unfold dispatchReplay
    split <;> simp [ih]
@[simp] theorem fuse_dispatchReplay (ls : List Nat) (s : State) :
    (dispatchReplay ls s).otp.fuse = s.otp.fuse := (kept_dispatchReplay ls s).1
@[simp] theorem pending_dispatchReplay (ls : List Nat) (s : State) :
    (dispatchReplay ls s).pending = s.pending := (kept_dispatchReplay ls s).2

theorem kept_commitJob (s : State) (j : Job) (r : JobResult) :
    (commitJob s j r).otp.fuse = s.otp.fuse ∧ (commitJob s j r).pending = s.pending := by
  simp [commitJob, apply_ite State.otp, apply_ite State.pending]
@[simp] theorem fuse_commitJob (s : State) (j : Job) (r : JobResult) :
    (commitJob s j r).otp.fuse = s.otp.fuse := (kept_commitJob s j r).1
@[simp] theorem pending_commitJob (s : State) (j : Job) (r : JobResult) :
    (commitJob s j r).pending = s.pending := (kept_commitJob s j r).2

theorem kept_ptrEdge (s : State) :
    (ptrEdge s).otp.fuse = s.otp.fuse ∧ (ptrEdge s).pending = s.pending := by
  simp [ptrEdge, apply_ite State.otp, apply_ite Otp.fuse, apply_ite State.pending, fuse_foldl, pending_foldl]
@[simp] theorem fuse_ptrEdge (s : State) :
    (ptrEdge s).otp.fuse = s.otp.fuse := (kept_ptrEdge s).1
@[simp] theorem pending_ptrEdge (s : State) :
    (ptrEdge s).pending = s.pending := (kept_ptrEdge s).2

theorem kept_shadowCompare (s : State) (agree : Bool) (laneOk : Bool) (spareOk : Bool) :
    (shadowCompare s agree laneOk spareOk).otp.fuse = s.otp.fuse ∧ (shadowCompare s agree laneOk spareOk).pending = s.pending := by
  unfold shadowCompare; dsimp only; (repeat' split) <;> simp [apply_ite State.otp, apply_ite State.pending, fuse_foldl, pending_foldl]
@[simp] theorem fuse_shadowCompare (s : State) (agree : Bool) (laneOk : Bool) (spareOk : Bool) :
    (shadowCompare s agree laneOk spareOk).otp.fuse = s.otp.fuse := (kept_shadowCompare s agree laneOk spareOk).1
@[simp] theorem pending_shadowCompare (s : State) (agree : Bool) (laneOk : Bool) (spareOk : Bool) :
    (shadowCompare s agree laneOk spareOk).pending = s.pending := (kept_shadowCompare s agree laneOk spareOk).2

theorem kept_reacquire (s : State) (p : Pairing) :
    (reacquire s p).otp.fuse = s.otp.fuse ∧ (reacquire s p).pending = s.pending := by
  simp [reacquire]
@[simp] theorem fuse_reacquire (s : State) (p : Pairing) :
    (reacquire s p).otp.fuse = s.otp.fuse := (kept_reacquire s p).1
@[simp] theorem pending_reacquire (s : State) (p : Pairing) :
    (reacquire s p).pending = s.pending := (kept_reacquire s p).2

theorem kept_scentPairing (s : State) :
    (scentPairing s).otp.fuse = s.otp.fuse ∧ (scentPairing s).pending = s.pending := by
  simp [scentPairing, fuse_foldl, pending_foldl]
@[simp] theorem fuse_scentPairing (s : State) :
    (scentPairing s).otp.fuse = s.otp.fuse := (kept_scentPairing s).1
@[simp] theorem pending_scentPairing (s : State) :
    (scentPairing s).pending = s.pending := (kept_scentPairing s).2

theorem kept_cutCounts (s : State) :
    (cutCounts s).otp.fuse = s.otp.fuse ∧ (cutCounts s).pending = s.pending := by
  unfold cutCounts; dsimp only; (repeat' split) <;> simp
@[simp] theorem fuse_cutCounts (s : State) :
    (cutCounts s).otp.fuse = s.otp.fuse := (kept_cutCounts s).1
@[simp] theorem pending_cutCounts (s : State) :
    (cutCounts s).pending = s.pending := (kept_cutCounts s).2

theorem kept_finishRunning (s : State) :
    (finishRunning s).otp.fuse = s.otp.fuse ∧ (finishRunning s).pending = s.pending := by
  simp [finishRunning, apply_ite State.otp, apply_ite Otp.fuse, apply_ite State.pending, fuse_foldl, pending_foldl]
@[simp] theorem fuse_finishRunning (s : State) :
    (finishRunning s).otp.fuse = s.otp.fuse := (kept_finishRunning s).1
@[simp] theorem pending_finishRunning (s : State) :
    (finishRunning s).pending = s.pending := (kept_finishRunning s).2

theorem kept_endReplay (s : State) :
    (endReplay s).otp.fuse = s.otp.fuse ∧ (endReplay s).pending = s.pending := by
  simp [endReplay, apply_ite State.otp, apply_ite State.pending]
@[simp] theorem fuse_endReplay (s : State) :
    (endReplay s).otp.fuse = s.otp.fuse := (kept_endReplay s).1
@[simp] theorem pending_endReplay (s : State) :
    (endReplay s).pending = s.pending := (kept_endReplay s).2

theorem kept_aimAt (s : State) (n : Nat) (t : Track) :
    (aimAt s n t).2.2.otp.fuse = s.otp.fuse ∧ (aimAt s n t).2.2.pending = s.pending := by
  unfold aimAt; dsimp only; (repeat' split) <;> simp [fuse_foldl, pending_foldl]
@[simp] theorem fuse_aimAt (s : State) (n : Nat) (t : Track) :
    (aimAt s n t).2.2.otp.fuse = s.otp.fuse := (kept_aimAt s n t).1
@[simp] theorem pending_aimAt (s : State) (n : Nat) (t : Track) :
    (aimAt s n t).2.2.pending = s.pending := (kept_aimAt s n t).2

theorem kept_aimSubject (s : State) (n : Nat) (i : Nat) (t : Track) :
    (aimSubject s n i t).2.otp.fuse = s.otp.fuse ∧ (aimSubject s n i t).2.pending = s.pending := by
  unfold aimSubject; dsimp only; (repeat' split) <;> simp
@[simp] theorem fuse_aimSubject (s : State) (n : Nat) (i : Nat) (t : Track) :
    (aimSubject s n i t).2.otp.fuse = s.otp.fuse := (kept_aimSubject s n i t).1
@[simp] theorem pending_aimSubject (s : State) (n : Nat) (i : Nat) (t : Track) :
    (aimSubject s n i t).2.pending = s.pending := (kept_aimSubject s n i t).2

theorem kept_groupAims (l : List (Nat × Track)) (n : Nat) (s : State) :
    (groupAims l n s).2.2.2.otp.fuse = s.otp.fuse ∧ (groupAims l n s).2.2.2.pending = s.pending := by
  induction l generalizing s with
  | nil => exact ⟨rfl, rfl⟩
  | cons q t ih =>
    unfold groupAims
    dsimp only
    split <;> simp [ih]
@[simp] theorem fuse_groupAims (l : List (Nat × Track)) (n : Nat) (s : State) :
    (groupAims l n s).2.2.2.otp.fuse = s.otp.fuse := (kept_groupAims l n s).1
@[simp] theorem pending_groupAims (l : List (Nat × Track)) (n : Nat) (s : State) :
    (groupAims l n s).2.2.2.pending = s.pending := (kept_groupAims l n s).2

theorem kept_aimGroup (s : State) (n : Nat) :
    (aimGroup s n).2.otp.fuse = s.otp.fuse ∧ (aimGroup s n).2.pending = s.pending := by
  unfold aimGroup; dsimp only; (repeat' split) <;> simp
@[simp] theorem fuse_aimGroup (s : State) (n : Nat) :
    (aimGroup s n).2.otp.fuse = s.otp.fuse := (kept_aimGroup s n).1
@[simp] theorem pending_aimGroup (s : State) (n : Nat) :
    (aimGroup s n).2.pending = s.pending := (kept_aimGroup s n).2

theorem kept_aimHandle (s : State) (n : Nat) :
    (aimHandle s n).2.otp.fuse = s.otp.fuse ∧ (aimHandle s n).2.pending = s.pending := by
  unfold aimHandle; dsimp only; (repeat' split) <;> simp
@[simp] theorem fuse_aimHandle (s : State) (n : Nat) :
    (aimHandle s n).2.otp.fuse = s.otp.fuse := (kept_aimHandle s n).1
@[simp] theorem pending_aimHandle (s : State) (n : Nat) :
    (aimHandle s n).2.pending = s.pending := (kept_aimHandle s n).2

theorem kept_aimBind (s : State) (n : Nat) :
    (aimBind s n).2.otp.fuse = s.otp.fuse ∧ (aimBind s n).2.pending = s.pending := by
  unfold aimBind; dsimp only; (repeat' split) <;> simp
@[simp] theorem fuse_aimBind (s : State) (n : Nat) :
    (aimBind s n).2.otp.fuse = s.otp.fuse := (kept_aimBind s n).1
@[simp] theorem pending_aimBind (s : State) (n : Nat) :
    (aimBind s n).2.pending = s.pending := (kept_aimBind s n).2

theorem kept_processAxes (start db : Bool) (dt : Nat) (l : List (Nat × Int)) (n : Nat) (s : State) :
    (processAxes start db dt l n s).otp.fuse = s.otp.fuse ∧ (processAxes start db dt l n s).pending = s.pending := by
  induction l generalizing s with
  | nil => exact ⟨rfl, rfl⟩
  | cons q t ih =>
    unfold processAxes
    simp [ih, apply_ite State.otp, apply_ite State.pending]
@[simp] theorem fuse_processAxes (start db : Bool) (dt : Nat) (l : List (Nat × Int)) (n : Nat) (s : State) :
    (processAxes start db dt l n s).otp.fuse = s.otp.fuse := (kept_processAxes start db dt l n s).1
@[simp] theorem pending_processAxes (start db : Bool) (dt : Nat) (l : List (Nat × Int)) (n : Nat) (s : State) :
    (processAxes start db dt l n s).pending = s.pending := (kept_processAxes start db dt l n s).2

theorem kept_leadAdapt (s : State) (n : Nat) (fb : Nat × SMap Nat) :
    (leadAdapt s n fb).otp.fuse = s.otp.fuse ∧ (leadAdapt s n fb).pending = s.pending := by
  unfold leadAdapt; dsimp only; (repeat' split) <;> simp [fuse_foldl, pending_foldl]
@[simp] theorem fuse_leadAdapt (s : State) (n : Nat) (fb : Nat × SMap Nat) :
    (leadAdapt s n fb).otp.fuse = s.otp.fuse := (kept_leadAdapt s n fb).1
@[simp] theorem pending_leadAdapt (s : State) (n : Nat) (fb : Nat × SMap Nat) :
    (leadAdapt s n fb).pending = s.pending := (kept_leadAdapt s n fb).2

theorem kept_takeFeedback (s : State) (n : Nat) :
    (takeFeedback s n).otp.fuse = s.otp.fuse ∧ (takeFeedback s n).pending = s.pending := by
  simp [takeFeedback, apply_ite State.otp, apply_ite Otp.fuse, apply_ite State.pending, fuse_foldl, pending_foldl]
@[simp] theorem fuse_takeFeedback (s : State) (n : Nat) :
    (takeFeedback s n).otp.fuse = s.otp.fuse := (kept_takeFeedback s n).1
@[simp] theorem pending_takeFeedback (s : State) (n : Nat) :
    (takeFeedback s n).pending = s.pending := (kept_takeFeedback s n).2

theorem kept_pushHist (s : State) (n : Nat) (th : Nat) :
    (pushHist s n th).otp.fuse = s.otp.fuse ∧ (pushHist s n th).pending = s.pending := by
  simp [pushHist, apply_ite State.otp, apply_ite State.pending]
@[simp] theorem fuse_pushHist (s : State) (n : Nat) (th : Nat) :
    (pushHist s n th).otp.fuse = s.otp.fuse := (kept_pushHist s n th).1
@[simp] theorem pending_pushHist (s : State) (n : Nat) (th : Nat) :
    (pushHist s n th).pending = s.pending := (kept_pushHist s n th).2

theorem kept_noTargetSolve (s : State) (n : Nat) (th : Nat) :
    (noTargetSolve s n th).otp.fuse = s.otp.fuse ∧ (noTargetSolve s n th).pending = s.pending := by
  unfold noTargetSolve; dsimp only; (repeat' split) <;> simp [fuse_foldl, pending_foldl]
@[simp] theorem fuse_noTargetSolve (s : State) (n : Nat) (th : Nat) :
    (noTargetSolve s n th).otp.fuse = s.otp.fuse := (kept_noTargetSolve s n th).1
@[simp] theorem pending_noTargetSolve (s : State) (n : Nat) (th : Nat) :
    (noTargetSolve s n th).pending = s.pending := (kept_noTargetSolve s n th).2

theorem kept_targetSolve (s : State) (n : Nat) (ys : List (Nat × Int)) (db : Bool) (dt : Nat) (th : Nat) :
    (targetSolve s n ys db dt th).otp.fuse = s.otp.fuse ∧ (targetSolve s n ys db dt th).pending = s.pending := by
  simp [targetSolve, apply_ite State.otp, apply_ite Otp.fuse, apply_ite State.pending, fuse_foldl, pending_foldl]
@[simp] theorem fuse_targetSolve (s : State) (n : Nat) (ys : List (Nat × Int)) (db : Bool) (dt : Nat) (th : Nat) :
    (targetSolve s n ys db dt th).otp.fuse = s.otp.fuse := (kept_targetSolve s n ys db dt th).1
@[simp] theorem pending_targetSolve (s : State) (n : Nat) (ys : List (Nat × Int)) (db : Bool) (dt : Nat) (th : Nat) :
    (targetSolve s n ys db dt th).pending = s.pending := (kept_targetSolve s n ys db dt th).2

theorem kept_parkOverride (s : State) (n : Nat) :
    (parkOverride s n).otp.fuse = s.otp.fuse ∧ (parkOverride s n).pending = s.pending := by
  simp [parkOverride]
@[simp] theorem fuse_parkOverride (s : State) (n : Nat) :
    (parkOverride s n).otp.fuse = s.otp.fuse := (kept_parkOverride s n).1
@[simp] theorem pending_parkOverride (s : State) (n : Nat) :
    (parkOverride s n).pending = s.pending := (kept_parkOverride s n).2

theorem kept_spendTtl (s : State) (n : Nat) :
    (spendTtl s n).otp.fuse = s.otp.fuse ∧ (spendTtl s n).pending = s.pending := by
  simp [spendTtl]
@[simp] theorem fuse_spendTtl (s : State) (n : Nat) :
    (spendTtl s n).otp.fuse = s.otp.fuse := (kept_spendTtl s n).1
@[simp] theorem pending_spendTtl (s : State) (n : Nat) :
    (spendTtl s n).pending = s.pending := (kept_spendTtl s n).2

theorem kept_solveAim (s : State) (n : Nat) (g : Aim) (dt : Nat) (th : Nat) :
    (solveAim s n g dt th).otp.fuse = s.otp.fuse ∧ (solveAim s n g dt th).pending = s.pending := by
  unfold solveAim; dsimp only; (repeat' split) <;> simp
@[simp] theorem fuse_solveAim (s : State) (n : Nat) (g : Aim) (dt : Nat) (th : Nat) :
    (solveAim s n g dt th).otp.fuse = s.otp.fuse := (kept_solveAim s n g dt th).1
@[simp] theorem pending_solveAim (s : State) (n : Nat) (g : Aim) (dt : Nat) (th : Nat) :
    (solveAim s n g dt th).pending = s.pending := (kept_solveAim s n g dt th).2

theorem kept_solvePort (s : State) (n : Nat) :
    (solvePort s n).otp.fuse = s.otp.fuse ∧ (solvePort s n).pending = s.pending := by
  unfold solvePort; dsimp only; (repeat' split) <;> simp
@[simp] theorem fuse_solvePort (s : State) (n : Nat) :
    (solvePort s n).otp.fuse = s.otp.fuse := (kept_solvePort s n).1
@[simp] theorem pending_solvePort (s : State) (n : Nat) :
    (solvePort s n).pending = s.pending := (kept_solvePort s n).2

theorem kept_solveAll (limit : Nat) (l : List Nat) (k : Nat) (s : State) :
    (solveAll limit l k s).otp.fuse = s.otp.fuse ∧ (solveAll limit l k s).pending = s.pending := by
  induction l generalizing k s with
  | nil => exact ⟨rfl, rfl⟩
  | cons q t ih =>
    unfold solveAll
    dsimp only
    split <;> simp [ih]
@[simp] theorem fuse_solveAll (limit : Nat) (l : List Nat) (k : Nat) (s : State) :
    (solveAll limit l k s).otp.fuse = s.otp.fuse := (kept_solveAll limit l k s).1
@[simp] theorem pending_solveAll (limit : Nat) (l : List Nat) (k : Nat) (s : State) :
    (solveAll limit l k s).pending = s.pending := (kept_solveAll limit l k s).2

theorem kept_heelSolve (s : State) :
    (heelSolve s).otp.fuse = s.otp.fuse ∧ (heelSolve s).pending = s.pending := by
  simp [heelSolve, apply_ite State.otp, apply_ite Otp.fuse, apply_ite State.pending]
@[simp] theorem fuse_heelSolve (s : State) :
    (heelSolve s).otp.fuse = s.otp.fuse := (kept_heelSolve s).1
@[simp] theorem pending_heelSolve (s : State) :
    (heelSolve s).pending = s.pending := (kept_heelSolve s).2

theorem kept_heelCommitPort (s : State) (n : Nat) :
    (heelCommitPort s n).otp.fuse = s.otp.fuse ∧ (heelCommitPort s n).pending = s.pending := by
  simp [heelCommitPort, apply_ite State.otp, apply_ite State.pending]
@[simp] theorem fuse_heelCommitPort (s : State) (n : Nat) :
    (heelCommitPort s n).otp.fuse = s.otp.fuse := (kept_heelCommitPort s n).1
@[simp] theorem pending_heelCommitPort (s : State) (n : Nat) :
    (heelCommitPort s n).pending = s.pending := (kept_heelCommitPort s n).2

theorem kept_heelEdge (s : State) :
    (heelEdge s).otp.fuse = s.otp.fuse ∧ (heelEdge s).pending = s.pending := by
  simp [heelEdge, fuse_foldl, pending_foldl]
@[simp] theorem fuse_heelEdge (s : State) :
    (heelEdge s).otp.fuse = s.otp.fuse := (kept_heelEdge s).1
@[simp] theorem pending_heelEdge (s : State) :
    (heelEdge s).pending = s.pending := (kept_heelEdge s).2

theorem kept_aimOverride (s : State) (o : Override) :
    (aimOverride s o).otp.fuse = s.otp.fuse ∧ (aimOverride s o).pending = s.pending := by
  simp [aimOverride, apply_ite State.otp, apply_ite State.pending]
@[simp] theorem fuse_aimOverride (s : State) (o : Override) :
    (aimOverride s o).otp.fuse = s.otp.fuse := (kept_aimOverride s o).1
@[simp] theorem pending_aimOverride (s : State) (o : Override) :
    (aimOverride s o).pending = s.pending := (kept_aimOverride s o).2

theorem kept_closeCollar (s : State) :
    (closeCollar s).otp.fuse = s.otp.fuse ∧ (closeCollar s).pending = s.pending := by
  simp [closeCollar, apply_ite State.otp, apply_ite State.pending]
@[simp] theorem fuse_closeCollar (s : State) :
    (closeCollar s).otp.fuse = s.otp.fuse := (kept_closeCollar s).1
@[simp] theorem pending_closeCollar (s : State) :
    (closeCollar s).pending = s.pending := (kept_closeCollar s).2

theorem kept_trackMasks (s : State) :
    (trackMasks s).otp.fuse = s.otp.fuse ∧ (trackMasks s).pending = s.pending := by
  simp [trackMasks]
@[simp] theorem fuse_trackMasks (s : State) :
    (trackMasks s).otp.fuse = s.otp.fuse := (kept_trackMasks s).1
@[simp] theorem pending_trackMasks (s : State) :
    (trackMasks s).pending = s.pending := (kept_trackMasks s).2

theorem kept_discardCues (s : State) (n : Nat) :
    (discardCues s n).otp.fuse = s.otp.fuse ∧ (discardCues s n).pending = s.pending := by
  simp [discardCues, apply_ite State.otp, apply_ite State.pending]
@[simp] theorem fuse_discardCues (s : State) (n : Nat) :
    (discardCues s n).otp.fuse = s.otp.fuse := (kept_discardCues s n).1
@[simp] theorem pending_discardCues (s : State) (n : Nat) :
    (discardCues s n).pending = s.pending := (kept_discardCues s n).2

theorem kept_adoptCfg (s : State) (n : Nat) :
    (adoptCfg s n).otp.fuse = s.otp.fuse ∧ (adoptCfg s n).pending = s.pending := by
  simp [adoptCfg]
@[simp] theorem fuse_adoptCfg (s : State) (n : Nat) :
    (adoptCfg s n).otp.fuse = s.otp.fuse := (kept_adoptCfg s n).1
@[simp] theorem pending_adoptCfg (s : State) (n : Nat) :
    (adoptCfg s n).pending = s.pending := (kept_adoptCfg s n).2

theorem kept_leashCommitPort (s : State) (n : Nat) :
    (leashCommitPort s n).otp.fuse = s.otp.fuse ∧ (leashCommitPort s n).pending = s.pending := by
  simp [leashCommitPort, apply_ite State.otp, apply_ite Otp.fuse, apply_ite State.pending]
@[simp] theorem fuse_leashCommitPort (s : State) (n : Nat) :
    (leashCommitPort s n).otp.fuse = s.otp.fuse := (kept_leashCommitPort s n).1
@[simp] theorem pending_leashCommitPort (s : State) (n : Nat) :
    (leashCommitPort s n).pending = s.pending := (kept_leashCommitPort s n).2

theorem kept_leashEdge (s : State) :
    (leashEdge s).otp.fuse = s.otp.fuse ∧ (leashEdge s).pending = s.pending := by
  simp [leashEdge, fuse_foldl, pending_foldl]
@[simp] theorem fuse_leashEdge (s : State) :
    (leashEdge s).otp.fuse = s.otp.fuse := (kept_leashEdge s).1
@[simp] theorem pending_leashEdge (s : State) :
    (leashEdge s).pending = s.pending := (kept_leashEdge s).2

theorem kept_pushPose (s : State) (n : Nat) (c : Content) :
    (pushPose s n c).otp.fuse = s.otp.fuse ∧ (pushPose s n c).pending = s.pending := by
  unfold pushPose; dsimp only; (repeat' split) <;> simp
@[simp] theorem fuse_pushPose (s : State) (n : Nat) (c : Content) :
    (pushPose s n c).otp.fuse = s.otp.fuse := (kept_pushPose s n c).1
@[simp] theorem pending_pushPose (s : State) (n : Nat) (c : Content) :
    (pushPose s n c).pending = s.pending := (kept_pushPose s n c).2

theorem kept_checkMiss (s : State) (n : Nat) :
    (checkMiss s n).otp.fuse = s.otp.fuse ∧ (checkMiss s n).pending = s.pending := by
  unfold checkMiss; dsimp only; (repeat' split) <;> simp [fuse_foldl, pending_foldl]
@[simp] theorem fuse_checkMiss (s : State) (n : Nat) :
    (checkMiss s n).otp.fuse = s.otp.fuse := (kept_checkMiss s n).1
@[simp] theorem pending_checkMiss (s : State) (n : Nat) :
    (checkMiss s n).pending = s.pending := (kept_checkMiss s n).2

theorem kept_sendLeash (s : State) (n : Nat) :
    (sendLeash s n).otp.fuse = s.otp.fuse ∧ (sendLeash s n).pending = s.pending := by
  simp [sendLeash, apply_ite State.otp, apply_ite Otp.fuse, apply_ite State.pending, fuse_foldl, pending_foldl]
@[simp] theorem fuse_sendLeash (s : State) (n : Nat) :
    (sendLeash s n).otp.fuse = s.otp.fuse := (kept_sendLeash s n).1
@[simp] theorem pending_sendLeash (s : State) (n : Nat) :
    (sendLeash s n).pending = s.pending := (kept_sendLeash s n).2

theorem kept_sendDmx (s : State) (n : Nat) :
    (sendDmx s n).otp.fuse = s.otp.fuse ∧ (sendDmx s n).pending = s.pending := by
  simp [sendDmx, apply_ite State.otp, apply_ite Otp.fuse, apply_ite State.pending, fuse_foldl, pending_foldl]
@[simp] theorem fuse_sendDmx (s : State) (n : Nat) :
    (sendDmx s n).otp.fuse = s.otp.fuse := (kept_sendDmx s n).1
@[simp] theorem pending_sendDmx (s : State) (n : Nat) :
    (sendDmx s n).pending = s.pending := (kept_sendDmx s n).2

theorem kept_processCack (s : State) (n : Nat) (cack : Nat) :
    (processCack s n cack).otp.fuse = s.otp.fuse ∧ (processCack s n cack).pending = s.pending := by
  unfold processCack; dsimp only; (repeat' split) <;> simp
@[simp] theorem fuse_processCack (s : State) (n : Nat) (cack : Nat) :
    (processCack s n cack).otp.fuse = s.otp.fuse := (kept_processCack s n cack).1
@[simp] theorem pending_processCack (s : State) (n : Nat) (cack : Nat) :
    (processCack s n cack).pending = s.pending := (kept_processCack s n cack).2

theorem kept_validAck (s : State) (n : Nat) (bs : List Byte) (f : SentFrame) :
    (validAck s n bs f).otp.fuse = s.otp.fuse ∧ (validAck s n bs f).pending = s.pending := by
  simp [validAck, apply_ite State.otp, apply_ite Otp.fuse, apply_ite State.pending, fuse_foldl, pending_foldl]
@[simp] theorem fuse_validAck (s : State) (n : Nat) (bs : List Byte) (f : SentFrame) :
    (validAck s n bs f).otp.fuse = s.otp.fuse := (kept_validAck s n bs f).1
@[simp] theorem pending_validAck (s : State) (n : Nat) (bs : List Byte) (f : SentFrame) :
    (validAck s n bs f).pending = s.pending := (kept_validAck s n bs f).2

theorem kept_cueOpWrite (s : State) (src : Src) (n : Nat) (op : Nat) :
    (cueOpWrite s src n op).otp.fuse = s.otp.fuse ∧ (cueOpWrite s src n op).pending = s.pending := by
  simp [cueOpWrite, apply_ite State.otp, apply_ite State.pending]
@[simp] theorem fuse_cueOpWrite (s : State) (src : Src) (n : Nat) (op : Nat) :
    (cueOpWrite s src n op).otp.fuse = s.otp.fuse := (kept_cueOpWrite s src n op).1
@[simp] theorem pending_cueOpWrite (s : State) (src : Src) (n : Nat) (op : Nat) :
    (cueOpWrite s src n op).pending = s.pending := (kept_cueOpWrite s src n op).2

theorem kept_shpWrite (s : State) (ws : List (Nat × Word × Word)) :
    (shpWrite s ws).otp.fuse = s.otp.fuse ∧ (shpWrite s ws).pending = s.pending := by
  unfold shpWrite; dsimp only; (repeat' split) <;> simp [fuse_foldl, pending_foldl]
@[simp] theorem fuse_shpWrite (s : State) (ws : List (Nat × Word × Word)) :
    (shpWrite s ws).otp.fuse = s.otp.fuse := (kept_shpWrite s ws).1
@[simp] theorem pending_shpWrite (s : State) (ws : List (Nat × Word × Word)) :
    (shpWrite s ws).pending = s.pending := (kept_shpWrite s ws).2

theorem kept_aeApply (s : State) (r : AeRun) (l : List (Nat × Int × Nat)) :
    (aeApply s r l).otp.fuse = s.otp.fuse ∧ (aeApply s r l).pending = s.pending := by
  simp [aeApply, apply_ite State.otp, apply_ite State.pending, fuse_foldl, pending_foldl]
@[simp] theorem fuse_aeApply (s : State) (r : AeRun) (l : List (Nat × Int × Nat)) :
    (aeApply s r l).otp.fuse = s.otp.fuse := (kept_aeApply s r l).1
@[simp] theorem pending_aeApply (s : State) (r : AeRun) (l : List (Nat × Int × Nat)) :
    (aeApply s r l).pending = s.pending := (kept_aeApply s r l).2

theorem kept_aeTiles (s : State) (r : AeRun) (b : Bank) :
    (aeTiles s r b).otp.fuse = s.otp.fuse ∧ (aeTiles s r b).pending = s.pending := by
  simp [aeTiles, apply_ite State.otp, apply_ite State.pending]
@[simp] theorem fuse_aeTiles (s : State) (r : AeRun) (b : Bank) :
    (aeTiles s r b).otp.fuse = s.otp.fuse := (kept_aeTiles s r b).1
@[simp] theorem pending_aeTiles (s : State) (r : AeRun) (b : Bank) :
    (aeTiles s r b).pending = s.pending := (kept_aeTiles s r b).2

theorem kept_aeGlobal (s : State) (r : AeRun) (b : Bank) :
    (aeGlobal s r b).otp.fuse = s.otp.fuse ∧ (aeGlobal s r b).pending = s.pending := by
  unfold aeGlobal; dsimp only; (repeat' split) <;> simp
@[simp] theorem fuse_aeGlobal (s : State) (r : AeRun) (b : Bank) :
    (aeGlobal s r b).otp.fuse = s.otp.fuse := (kept_aeGlobal s r b).1
@[simp] theorem pending_aeGlobal (s : State) (r : AeRun) (b : Bank) :
    (aeGlobal s r b).pending = s.pending := (kept_aeGlobal s r b).2

theorem kept_aeWhite (s : State) (b : Bank) :
    (aeWhite s b).otp.fuse = s.otp.fuse ∧ (aeWhite s b).pending = s.pending := by
  simp [aeWhite, apply_ite State.otp, apply_ite Otp.fuse, apply_ite State.pending]
@[simp] theorem fuse_aeWhite (s : State) (b : Bank) :
    (aeWhite s b).otp.fuse = s.otp.fuse := (kept_aeWhite s b).1
@[simp] theorem pending_aeWhite (s : State) (b : Bank) :
    (aeWhite s b).pending = s.pending := (kept_aeWhite s b).2

theorem kept_aeCtrlWrite (s : State) (v : Word) :
    (aeCtrlWrite s v).otp.fuse = s.otp.fuse ∧ (aeCtrlWrite s v).pending = s.pending := by
  simp [aeCtrlWrite, apply_ite State.otp, apply_ite Otp.fuse, apply_ite State.pending]
@[simp] theorem fuse_aeCtrlWrite (s : State) (v : Word) :
    (aeCtrlWrite s v).otp.fuse = s.otp.fuse := (kept_aeCtrlWrite s v).1
@[simp] theorem pending_aeCtrlWrite (s : State) (v : Word) :
    (aeCtrlWrite s v).pending = s.pending := (kept_aeCtrlWrite s v).2

theorem kept_aeMaskWrite (s : State) (n : Nat) (v : Word) :
    (aeMaskWrite s n v).otp.fuse = s.otp.fuse ∧ (aeMaskWrite s n v).pending = s.pending := by
  simp [aeMaskWrite, apply_ite State.otp, apply_ite State.pending]
@[simp] theorem fuse_aeMaskWrite (s : State) (n : Nat) (v : Word) :
    (aeMaskWrite s n v).otp.fuse = s.otp.fuse := (kept_aeMaskWrite s n v).1
@[simp] theorem pending_aeMaskWrite (s : State) (n : Nat) (v : Word) :
    (aeMaskWrite s n v).pending = s.pending := (kept_aeMaskWrite s n v).2

theorem kept_thermalEdge (s : State) (tj : BitVec 16) :
    (thermalEdge s tj).otp.fuse = s.otp.fuse ∧ (thermalEdge s tj).pending = s.pending := by
  simp [thermalEdge, apply_ite State.otp, apply_ite State.pending]
@[simp] theorem fuse_thermalEdge (s : State) (tj : BitVec 16) :
    (thermalEdge s tj).otp.fuse = s.otp.fuse := (kept_thermalEdge s tj).1
@[simp] theorem pending_thermalEdge (s : State) (tj : BitVec 16) :
    (thermalEdge s tj).pending = s.pending := (kept_thermalEdge s tj).2

theorem kept_stopUnlocked (s : State) (src : Nat) :
    (stopUnlocked s src).otp.fuse = s.otp.fuse ∧ (stopUnlocked s src).pending = s.pending := by
  simp [stopUnlocked, apply_ite State.otp, apply_ite State.pending, fuse_foldl, pending_foldl]
@[simp] theorem fuse_stopUnlocked (s : State) (src : Nat) :
    (stopUnlocked s src).otp.fuse = s.otp.fuse := (kept_stopUnlocked s src).1
@[simp] theorem pending_stopUnlocked (s : State) (src : Nat) :
    (stopUnlocked s src).pending = s.pending := (kept_stopUnlocked s src).2

theorem kept_startOut (s : State) (i : Nat) :
    (startOut s i).otp.fuse = s.otp.fuse ∧ (startOut s i).pending = s.pending := by
  simp [startOut, apply_ite State.otp, apply_ite Otp.fuse, apply_ite State.pending, fuse_foldl, pending_foldl]
@[simp] theorem fuse_startOut (s : State) (i : Nat) :
    (startOut s i).otp.fuse = s.otp.fuse := (kept_startOut s i).1
@[simp] theorem pending_startOut (s : State) (i : Nat) :
    (startOut s i).pending = s.pending := (kept_startOut s i).2

theorem kept_outWrite (s : State) (i : Nat) (w : Nat) (v : Word) :
    (outWrite s i w v).otp.fuse = s.otp.fuse ∧ (outWrite s i w v).pending = s.pending := by
  simp [outWrite, apply_ite State.otp, apply_ite Otp.fuse, apply_ite State.pending]
@[simp] theorem fuse_outWrite (s : State) (i : Nat) (w : Nat) (v : Word) :
    (outWrite s i w v).otp.fuse = s.otp.fuse := (kept_outWrite s i w v).1
@[simp] theorem pending_outWrite (s : State) (i : Nat) (w : Nat) (v : Word) :
    (outWrite s i w v).pending = s.pending := (kept_outWrite s i w v).2

theorem kept_startOuts (s : State) :
    (startOuts s).otp.fuse = s.otp.fuse ∧ (startOuts s).pending = s.pending := by
  simp [startOuts, apply_ite State.otp, apply_ite Otp.fuse, apply_ite State.pending, fuse_foldl, pending_foldl]
@[simp] theorem fuse_startOuts (s : State) :
    (startOuts s).otp.fuse = s.otp.fuse := (kept_startOuts s).1
@[simp] theorem pending_startOuts (s : State) :
    (startOuts s).pending = s.pending := (kept_startOuts s).2

theorem kept_startWaiting (s : State) (src : Nat) :
    (startWaiting s src).otp.fuse = s.otp.fuse ∧ (startWaiting s src).pending = s.pending := by
  simp [startWaiting, apply_ite State.otp, apply_ite Otp.fuse, apply_ite State.pending, fuse_foldl, pending_foldl]
@[simp] theorem fuse_startWaiting (s : State) (src : Nat) :
    (startWaiting s src).otp.fuse = s.otp.fuse := (kept_startWaiting s src).1
@[simp] theorem pending_startWaiting (s : State) (src : Nat) :
    (startWaiting s src).pending = s.pending := (kept_startWaiting s src).2

theorem kept_ldRun (s : State) (l : Pll) (lk : Bool) (errs : List Nat) :
    (ldRun s l lk errs).2.otp.fuse = s.otp.fuse ∧ (ldRun s l lk errs).2.pending = s.pending := by
  simp [ldRun]
@[simp] theorem fuse_ldRun (s : State) (l : Pll) (lk : Bool) (errs : List Nat) :
    (ldRun s l lk errs).2.otp.fuse = s.otp.fuse := (kept_ldRun s l lk errs).1
@[simp] theorem pending_ldRun (s : State) (l : Pll) (lk : Bool) (errs : List Nat) :
    (ldRun s l lk errs).2.pending = s.pending := (kept_ldRun s l lk errs).2

theorem kept_lockC (s : State) :
    (lockC s).otp.fuse = s.otp.fuse ∧ (lockC s).pending = s.pending := by
  simp [lockC]
@[simp] theorem fuse_lockC (s : State) :
    (lockC s).otp.fuse = s.otp.fuse := (kept_lockC s).1
@[simp] theorem pending_lockC (s : State) :
    (lockC s).pending = s.pending := (kept_lockC s).2

theorem kept_lockG (s : State) :
    (lockG s).otp.fuse = s.otp.fuse ∧ (lockG s).pending = s.pending := by
  simp [lockG, apply_ite State.otp, apply_ite Otp.fuse, apply_ite State.pending, fuse_foldl, pending_foldl]
@[simp] theorem fuse_lockG (s : State) :
    (lockG s).otp.fuse = s.otp.fuse := (kept_lockG s).1
@[simp] theorem pending_lockG (s : State) :
    (lockG s).pending = s.pending := (kept_lockG s).2

theorem kept_cPllWords (s : State) :
    (cPllWords s).otp.fuse = s.otp.fuse ∧ (cPllWords s).pending = s.pending := by
  simp [cPllWords]
@[simp] theorem fuse_cPllWords (s : State) :
    (cPllWords s).otp.fuse = s.otp.fuse := (kept_cPllWords s).1
@[simp] theorem pending_cPllWords (s : State) :
    (cPllWords s).pending = s.pending := (kept_cPllWords s).2

theorem kept_cLost (s : State) :
    (cLost s).otp.fuse = s.otp.fuse ∧ (cLost s).pending = s.pending := by
  simp [cLost, apply_ite State.otp, apply_ite Otp.fuse, apply_ite State.pending, fuse_foldl, pending_foldl]
@[simp] theorem fuse_cLost (s : State) :
    (cLost s).otp.fuse = s.otp.fuse := (kept_cLost s).1
@[simp] theorem pending_cLost (s : State) :
    (cLost s).pending = s.pending := (kept_cLost s).2

theorem kept_holdGenlock (s : State) :
    (holdGenlock s).otp.fuse = s.otp.fuse ∧ (holdGenlock s).pending = s.pending := by
  simp [holdGenlock, apply_ite State.otp, apply_ite State.pending]
@[simp] theorem fuse_holdGenlock (s : State) :
    (holdGenlock s).otp.fuse = s.otp.fuse := (kept_holdGenlock s).1
@[simp] theorem pending_holdGenlock (s : State) :
    (holdGenlock s).pending = s.pending := (kept_holdGenlock s).2

theorem kept_gUnlock (s : State) :
    (gUnlock s).otp.fuse = s.otp.fuse ∧ (gUnlock s).pending = s.pending := by
  simp [gUnlock, apply_ite State.otp, apply_ite Otp.fuse, apply_ite State.pending, fuse_foldl, pending_foldl]
@[simp] theorem fuse_gUnlock (s : State) :
    (gUnlock s).otp.fuse = s.otp.fuse := (kept_gUnlock s).1
@[simp] theorem pending_gUnlock (s : State) :
    (gUnlock s).pending = s.pending := (kept_gUnlock s).2

theorem kept_gLost (s : State) :
    (gLost s).otp.fuse = s.otp.fuse ∧ (gLost s).pending = s.pending := by
  simp [gLost, apply_ite State.otp, apply_ite Otp.fuse, apply_ite State.pending, fuse_foldl, pending_foldl]
@[simp] theorem fuse_gLost (s : State) :
    (gLost s).otp.fuse = s.otp.fuse := (kept_gLost s).1
@[simp] theorem pending_gLost (s : State) :
    (gLost s).pending = s.pending := (kept_gLost s).2

theorem kept_gRestart (s : State) :
    (gRestart s).otp.fuse = s.otp.fuse ∧ (gRestart s).pending = s.pending := by
  simp [gRestart, apply_ite State.otp, apply_ite Otp.fuse, apply_ite State.pending]
@[simp] theorem fuse_gRestart (s : State) :
    (gRestart s).otp.fuse = s.otp.fuse := (kept_gRestart s).1
@[simp] theorem pending_gRestart (s : State) :
    (gRestart s).pending = s.pending := (kept_gRestart s).2

theorem kept_gWrite (s : State) (a : Nat) (v : Word) :
    (gWrite s a v).otp.fuse = s.otp.fuse ∧ (gWrite s a v).pending = s.pending := by
  simp [gWrite, apply_ite State.otp, apply_ite Otp.fuse, apply_ite State.pending]
@[simp] theorem fuse_gWrite (s : State) (a : Nat) (v : Word) :
    (gWrite s a v).otp.fuse = s.otp.fuse := (kept_gWrite s a v).1
@[simp] theorem pending_gWrite (s : State) (a : Nat) (v : Word) :
    (gWrite s a v).pending = s.pending := (kept_gWrite s a v).2

theorem kept_ldWrite (s : State) (l : Pll) (v : Word) :
    (ldWrite s l v).otp.fuse = s.otp.fuse ∧ (ldWrite s l v).pending = s.pending := by
  simp [ldWrite]
@[simp] theorem fuse_ldWrite (s : State) (l : Pll) (v : Word) :
    (ldWrite s l v).otp.fuse = s.otp.fuse := (kept_ldWrite s l v).1
@[simp] theorem pending_ldWrite (s : State) (l : Pll) (v : Word) :
    (ldWrite s l v).pending = s.pending := (kept_ldWrite s l v).2

theorem kept_deliverIrq (s : State) :
    (deliverIrq s).otp.fuse = s.otp.fuse ∧ (deliverIrq s).pending = s.pending := by
  simp [deliverIrq, apply_ite State.otp, apply_ite Otp.fuse, apply_ite State.pending, fuse_foldl, pending_foldl]
@[simp] theorem fuse_deliverIrq (s : State) :
    (deliverIrq s).otp.fuse = s.otp.fuse := (kept_deliverIrq s).1
@[simp] theorem pending_deliverIrq (s : State) :
    (deliverIrq s).pending = s.pending := (kept_deliverIrq s).2

theorem kept_endRecords (s : State) :
    (endRecords s).otp.fuse = s.otp.fuse ∧ (endRecords s).pending = s.pending := by
  simp [endRecords, apply_ite State.otp, apply_ite Otp.fuse, apply_ite State.pending, fuse_foldl, pending_foldl]
@[simp] theorem fuse_endRecords (s : State) :
    (endRecords s).otp.fuse = s.otp.fuse := (kept_endRecords s).1
@[simp] theorem pending_endRecords (s : State) :
    (endRecords s).pending = s.pending := (kept_endRecords s).2

theorem kept_tickPulses (s : State) :
    (tickPulses s).otp.fuse = s.otp.fuse ∧ (tickPulses s).pending = s.pending := by
  simp [tickPulses, apply_ite State.otp, apply_ite Otp.fuse, apply_ite State.pending, fuse_foldl, pending_foldl]
@[simp] theorem fuse_tickPulses (s : State) :
    (tickPulses s).otp.fuse = s.otp.fuse := (kept_tickPulses s).1
@[simp] theorem pending_tickPulses (s : State) :
    (tickPulses s).pending = s.pending := (kept_tickPulses s).2

theorem kept_closePulses (s : State) (len : Nat) :
    (closePulses s len).otp.fuse = s.otp.fuse ∧ (closePulses s len).pending = s.pending := by
  simp [closePulses, apply_ite State.otp, apply_ite Otp.fuse, apply_ite State.pending, fuse_foldl, pending_foldl]
@[simp] theorem fuse_closePulses (s : State) (len : Nat) :
    (closePulses s len).otp.fuse = s.otp.fuse := (kept_closePulses s len).1
@[simp] theorem pending_closePulses (s : State) (len : Nat) :
    (closePulses s len).pending = s.pending := (kept_closePulses s len).2

theorem kept_closeTick (s : State) (at_ : Nat) :
    (closeTick s at_).otp.fuse = s.otp.fuse ∧ (closeTick s at_).pending = s.pending := by
  simp [closeTick, apply_ite State.otp, apply_ite Otp.fuse, apply_ite State.pending, fuse_foldl, pending_foldl]
@[simp] theorem fuse_closeTick (s : State) (at_ : Nat) :
    (closeTick s at_).otp.fuse = s.otp.fuse := (kept_closeTick s at_).1
@[simp] theorem pending_closeTick (s : State) (at_ : Nat) :
    (closeTick s at_).pending = s.pending := (kept_closeTick s at_).2

theorem kept_deferAll (s : State) (at_ : Nat) :
    (deferAll s at_).2.otp.fuse = s.otp.fuse ∧ (deferAll s at_).2.pending = s.pending := by
  simp [deferAll]
@[simp] theorem fuse_deferAll (s : State) (at_ : Nat) :
    (deferAll s at_).2.otp.fuse = s.otp.fuse := (kept_deferAll s at_).1
@[simp] theorem pending_deferAll (s : State) (at_ : Nat) :
    (deferAll s at_).2.pending = s.pending := (kept_deferAll s at_).2

theorem kept_sampleTemps (s : State) (env : EdgeEnv) :
    (sampleTemps s env).otp.fuse = s.otp.fuse ∧ (sampleTemps s env).pending = s.pending := by
  unfold sampleTemps
  extract_lets tj max0 mx s1 s2 hot __src s3
  have hs1 : s1.otp.fuse = s.otp.fuse ∧ s1.pending = s.pending := by simp [s1]
  have hs2 : s2.otp.fuse = s1.otp.fuse ∧ s2.pending = s1.pending := by simp [s2]
  have hs3 : s3.otp.fuse = s2.otp.fuse ∧ s3.pending = s2.pending := ⟨rfl, rfl⟩
  rw [fuse_thermalEdge, pending_thermalEdge]
  exact ⟨(hs3.1.trans hs2.1).trans hs1.1, (hs3.2.trans hs2.2).trans hs1.2⟩
@[simp] theorem fuse_sampleTemps (s : State) (env : EdgeEnv) :
    (sampleTemps s env).otp.fuse = s.otp.fuse := (kept_sampleTemps s env).1
@[simp] theorem pending_sampleTemps (s : State) (env : EdgeEnv) :
    (sampleTemps s env).pending = s.pending := (kept_sampleTemps s env).2

theorem kept_raiseFloor (s : State) (f : Nat) :
    (raiseFloor s f).otp.fuse = s.otp.fuse ∧ (raiseFloor s f).pending = s.pending := by
  unfold raiseFloor; dsimp only; (repeat' split) <;> simp
@[simp] theorem fuse_raiseFloor (s : State) (f : Nat) :
    (raiseFloor s f).otp.fuse = s.otp.fuse := (kept_raiseFloor s f).1
@[simp] theorem pending_raiseFloor (s : State) (f : Nat) :
    (raiseFloor s f).pending = s.pending := (kept_raiseFloor s f).2

theorem kept_openPeriod (s : State) (e : Nat) (mode0 : Nat) (first : Bool) :
    (openPeriod s e mode0 first).otp.fuse = s.otp.fuse ∧ (openPeriod s e mode0 first).pending = s.pending := by
  simp [openPeriod, apply_ite State.otp, apply_ite State.pending]
@[simp] theorem fuse_openPeriod (s : State) (e : Nat) (mode0 : Nat) (first : Bool) :
    (openPeriod s e mode0 first).otp.fuse = s.otp.fuse := (kept_openPeriod s e mode0 first).1
@[simp] theorem pending_openPeriod (s : State) (e : Nat) (mode0 : Nat) (first : Bool) :
    (openPeriod s e mode0 first).pending = s.pending := (kept_openPeriod s e mode0 first).2

theorem kept_windowStatus (s : State) (st : Nat) :
    (windowStatus s st).otp.fuse = s.otp.fuse ∧ (windowStatus s st).pending = s.pending := by
  unfold windowStatus
  extract_lets l
  split
  rw [bumpBy_otp, bumpBy_pending, setRegN_otp, setRegN_pending]
  exact ⟨rfl, rfl⟩
@[simp] theorem fuse_windowStatus (s : State) (st : Nat) :
    (windowStatus s st).otp.fuse = s.otp.fuse := (kept_windowStatus s st).1
@[simp] theorem pending_windowStatus (s : State) (st : Nat) :
    (windowStatus s st).pending = s.pending := (kept_windowStatus s st).2

theorem kept_planRegs (s : State) (p : Plan) :
    (planRegs s p).otp.fuse = s.otp.fuse ∧ (planRegs s p).pending = s.pending := by
  unfold planRegs
  extract_lets shed m s1 s2 s3 s4 s5 s6 s7
  have hs1 : s1.otp.fuse = s.otp.fuse ∧ s1.pending = s.pending := by simp [s1]
  have hs2 : s2.otp.fuse = s1.otp.fuse ∧ s2.pending = s1.pending := by simp [s2]
  have hs3 : s3.otp.fuse = s2.otp.fuse ∧ s3.pending = s2.pending := by simp [s3]
  have hs4 : s4.otp.fuse = s3.otp.fuse ∧ s4.pending = s3.pending := by simp [s4]
  have hs5 : s5.otp.fuse = s4.otp.fuse ∧ s5.pending = s4.pending := by simp [s5]
  have hs6 : s6.otp.fuse = s5.otp.fuse ∧ s6.pending = s5.pending := by simp [s6]
  have hs7 : s7.otp.fuse = s6.otp.fuse ∧ s7.pending = s6.pending := by simp [s7]
  have hf : s7.otp.fuse = s.otp.fuse := (((((hs7.1.trans hs6.1).trans hs5.1).trans hs4.1).trans hs3.1).trans hs2.1).trans hs1.1
  have hp : s7.pending = s.pending := (((((hs7.2.trans hs6.2).trans hs5.2).trans hs4.2).trans hs3.2).trans hs2.2).trans hs1.2
  split
  · rw [fuse_refreshWaits, bump_otp, pending_refreshWaits, bump_pending]
    exact ⟨hf, hp⟩
  · exact ⟨hf, hp⟩
@[simp] theorem fuse_planRegs (s : State) (p : Plan) :
    (planRegs s p).otp.fuse = s.otp.fuse := (kept_planRegs s p).1
@[simp] theorem pending_planRegs (s : State) (p : Plan) :
    (planRegs s p).pending = s.pending := (kept_planRegs s p).2

theorem kept_openFrameAt (s : State) (e : Nat) (first : Bool) (synth : Bool) (gl : Bool × Bool × Bool) (defer : Bool × Bool × Bool) (p : Plan) :
    (openFrameAt s e first synth gl defer p).otp.fuse = s.otp.fuse ∧ (openFrameAt s e first synth gl defer p).pending = s.pending := by
  simp [openFrameAt]
@[simp] theorem fuse_openFrameAt (s : State) (e : Nat) (first : Bool) (synth : Bool) (gl : Bool × Bool × Bool) (defer : Bool × Bool × Bool) (p : Plan) :
    (openFrameAt s e first synth gl defer p).otp.fuse = s.otp.fuse := (kept_openFrameAt s e first synth gl defer p).1
@[simp] theorem pending_openFrameAt (s : State) (e : Nat) (first : Bool) (synth : Bool) (gl : Bool × Bool × Bool) (defer : Bool × Bool × Bool) (p : Plan) :
    (openFrameAt s e first synth gl defer p).pending = s.pending := (kept_openFrameAt s e first synth gl defer p).2

theorem kept_startLinks (s : State) :
    (startLinks s).otp.fuse = s.otp.fuse ∧ (startLinks s).pending = s.pending := by
  simp [startLinks, apply_ite State.otp, apply_ite Otp.fuse, apply_ite State.pending, fuse_foldl, pending_foldl]
@[simp] theorem fuse_startLinks (s : State) :
    (startLinks s).otp.fuse = s.otp.fuse := (kept_startLinks s).1
@[simp] theorem pending_startLinks (s : State) :
    (startLinks s).pending = s.pending := (kept_startLinks s).2

theorem kept_watchdogEdge (s : State) (first : Bool) (env : EdgeEnv) :
    (watchdogEdge s first env).otp.fuse = s.otp.fuse ∧ (watchdogEdge s first env).pending = s.pending := by
  simp [watchdogEdge, apply_ite State.otp, apply_ite Otp.fuse, apply_ite State.pending, fuse_foldl, pending_foldl]
@[simp] theorem fuse_watchdogEdge (s : State) (first : Bool) (env : EdgeEnv) :
    (watchdogEdge s first env).otp.fuse = s.otp.fuse := (kept_watchdogEdge s first env).1
@[simp] theorem pending_watchdogEdge (s : State) (first : Bool) (env : EdgeEnv) :
    (watchdogEdge s first env).pending = s.pending := (kept_watchdogEdge s first env).2

theorem kept_windowTick (s : State) (first : Bool) :
    (windowTick s first).otp.fuse = s.otp.fuse ∧ (windowTick s first).pending = s.pending := by
  unfold windowTick; dsimp only; (repeat' split) <;> simp
@[simp] theorem fuse_windowTick (s : State) (first : Bool) :
    (windowTick s first).otp.fuse = s.otp.fuse := (kept_windowTick s first).1
@[simp] theorem pending_windowTick (s : State) (first : Bool) :
    (windowTick s first).pending = s.pending := (kept_windowTick s first).2

theorem kept_beginRun (s : State) :
    (beginRun s).otp.fuse = s.otp.fuse ∧ (beginRun s).pending = s.pending := by
  simp [beginRun, apply_ite State.otp, apply_ite Otp.fuse, apply_ite State.pending, fuse_foldl, pending_foldl]
@[simp] theorem fuse_beginRun (s : State) :
    (beginRun s).otp.fuse = s.otp.fuse := (kept_beginRun s).1
@[simp] theorem pending_beginRun (s : State) :
    (beginRun s).pending = s.pending := (kept_beginRun s).2

theorem kept_edgeEffects (first : Bool) (synth : Bool) (at_ : Nat) (env : EdgeEnv) (s : State) :
    (edgeEffects first synth at_ env s).otp.fuse = s.otp.fuse ∧ (edgeEffects first synth at_ env s).pending = s.pending := by
  simp [edgeEffects, apply_ite State.otp, apply_ite Otp.fuse, apply_ite State.pending, fuse_foldl, pending_foldl]
@[simp] theorem fuse_edgeEffects (first : Bool) (synth : Bool) (at_ : Nat) (env : EdgeEnv) (s : State) :
    (edgeEffects first synth at_ env s).otp.fuse = s.otp.fuse := (kept_edgeEffects first synth at_ env s).1
@[simp] theorem pending_edgeEffects (first : Bool) (synth : Bool) (at_ : Nat) (env : EdgeEnv) (s : State) :
    (edgeEffects first synth at_ env s).pending = s.pending := (kept_edgeEffects first synth at_ env s).2

theorem kept_openTick (first : Bool) (synth : Bool) (at_ : Nat) (env : EdgeEnv) (s : State) :
    (openTick first synth at_ env s).otp.fuse = s.otp.fuse ∧ (openTick first synth at_ env s).pending = s.pending := by
  have h := kept_inCycle (reach s at_) (edgeEffects first synth at_ env) (fun u => kept_edgeEffects _ _ _ _ u)
  exact ⟨h.1.trans (by simp), h.2.trans (by simp)⟩
@[simp] theorem fuse_openTick (first : Bool) (synth : Bool) (at_ : Nat) (env : EdgeEnv) (s : State) :
    (openTick first synth at_ env s).otp.fuse = s.otp.fuse := (kept_openTick first synth at_ env s).1
@[simp] theorem pending_openTick (first : Bool) (synth : Bool) (at_ : Nat) (env : EdgeEnv) (s : State) :
    (openTick first synth at_ env s).pending = s.pending := (kept_openTick first synth at_ env s).2

theorem kept_driftBit (old s : State) (p : Nat × Nat) :
    (driftBit old s p).otp.fuse = s.otp.fuse ∧ (driftBit old s p).pending = s.pending := by
  unfold driftBit; dsimp only; split <;> simp
@[simp] theorem fuse_driftBit (old s : State) (p : Nat × Nat) :
    (driftBit old s p).otp.fuse = s.otp.fuse := (kept_driftBit old s p).1
@[simp] theorem pending_driftBit (old s : State) (p : Nat × Nat) :
    (driftBit old s p).pending = s.pending := (kept_driftBit old s p).2

theorem kept_pulseSupply (s : State) (pump : Bool) (env : Option PulseEnv) :
    (pulseSupply s pump env).2.otp.fuse = s.otp.fuse ∧ (pulseSupply s pump env).2.pending = s.pending := by
  unfold pulseSupply; dsimp only; (repeat' split) <;> simp [fuse_foldl, pending_foldl]
@[simp] theorem fuse_pulseSupply (s : State) (pump : Bool) (env : Option PulseEnv) :
    (pulseSupply s pump env).2.otp.fuse = s.otp.fuse := (kept_pulseSupply s pump env).1
@[simp] theorem pending_pulseSupply (s : State) (pump : Bool) (env : Option PulseEnv) :
    (pulseSupply s pump env).2.pending = s.pending := (kept_pulseSupply s pump env).2

theorem kept_progGo (s : State) (v : Word) (env : Option PulseEnv) :
    (progGo s v env).otp.fuse = s.otp.fuse ∧ (progGo s v env).pending = s.pending := by
  unfold progGo; dsimp only; (repeat' split) <;> simp [fuse_foldl, pending_foldl]
@[simp] theorem fuse_progGo (s : State) (v : Word) (env : Option PulseEnv) :
    (progGo s v env).otp.fuse = s.otp.fuse := (kept_progGo s v env).1
@[simp] theorem pending_progGo (s : State) (v : Word) (env : Option PulseEnv) :
    (progGo s v env).pending = s.pending := (kept_progGo s v env).2

theorem kept_failRng (s : State) :
    (failRng s).otp.fuse = s.otp.fuse ∧ (failRng s).pending = s.pending := by
  simp [failRng, apply_ite State.otp, apply_ite Otp.fuse, apply_ite State.pending, fuse_foldl, pending_foldl]
@[simp] theorem fuse_failRng (s : State) :
    (failRng s).otp.fuse = s.otp.fuse := (kept_failRng s).1
@[simp] theorem pending_failRng (s : State) :
    (failRng s).pending = s.pending := (kept_failRng s).2

theorem kept_gtCycle (s : State) (n : Nat) :
    (gtCycle s n).otp.fuse = s.otp.fuse ∧ (gtCycle s n).pending = s.pending := by
  unfold gtCycle; dsimp only; (repeat' split) <;> simp [fuse_foldl, pending_foldl]
@[simp] theorem fuse_gtCycle (s : State) (n : Nat) :
    (gtCycle s n).otp.fuse = s.otp.fuse := (kept_gtCycle s n).1
@[simp] theorem pending_gtCycle (s : State) (n : Nat) :
    (gtCycle s n).pending = s.pending := (kept_gtCycle s n).2

theorem kept_gtIntervalWrite (s : State) (src : Src) (n : Nat) (v : Word) :
    (gtIntervalWrite s src n v).otp.fuse = s.otp.fuse ∧ (gtIntervalWrite s src n v).pending = s.pending := by
  simp [gtIntervalWrite, apply_ite State.otp, apply_ite State.pending]
@[simp] theorem fuse_gtIntervalWrite (s : State) (src : Src) (n : Nat) (v : Word) :
    (gtIntervalWrite s src n v).otp.fuse = s.otp.fuse := (kept_gtIntervalWrite s src n v).1
@[simp] theorem pending_gtIntervalWrite (s : State) (src : Src) (n : Nat) (v : Word) :
    (gtIntervalWrite s src n v).pending = s.pending := (kept_gtIntervalWrite s src n v).2

theorem kept_gtPendWrite (s : State) (src : Src) (v : Word) :
    (gtPendWrite s src v).otp.fuse = s.otp.fuse ∧ (gtPendWrite s src v).pending = s.pending := by
  simp [gtPendWrite, apply_ite State.otp, apply_ite Otp.fuse, apply_ite State.pending, fuse_foldl, pending_foldl]
@[simp] theorem fuse_gtPendWrite (s : State) (src : Src) (v : Word) :
    (gtPendWrite s src v).otp.fuse = s.otp.fuse := (kept_gtPendWrite s src v).1
@[simp] theorem pending_gtPendWrite (s : State) (src : Src) (v : Word) :
    (gtPendWrite s src v).pending = s.pending := (kept_gtPendWrite s src v).2

theorem kept_tickIntervalWrite (s : State) (v : Word) :
    (tickIntervalWrite s v).otp.fuse = s.otp.fuse ∧ (tickIntervalWrite s v).pending = s.pending := by
  simp [tickIntervalWrite]
@[simp] theorem fuse_tickIntervalWrite (s : State) (v : Word) :
    (tickIntervalWrite s v).otp.fuse = s.otp.fuse := (kept_tickIntervalWrite s v).1
@[simp] theorem pending_tickIntervalWrite (s : State) (v : Word) :
    (tickIntervalWrite s v).pending = s.pending := (kept_tickIntervalWrite s v).2

theorem kept_gtCompareLo (s : State) (src : Src) (n : Nat) (v : Word) :
    (gtCompareLo s src n v).otp.fuse = s.otp.fuse ∧ (gtCompareLo s src n v).pending = s.pending := by
  simp [gtCompareLo, apply_ite State.otp, apply_ite Otp.fuse, apply_ite State.pending, fuse_foldl, pending_foldl]
@[simp] theorem fuse_gtCompareLo (s : State) (src : Src) (n : Nat) (v : Word) :
    (gtCompareLo s src n v).otp.fuse = s.otp.fuse := (kept_gtCompareLo s src n v).1
@[simp] theorem pending_gtCompareLo (s : State) (src : Src) (n : Nat) (v : Word) :
    (gtCompareLo s src n v).pending = s.pending := (kept_gtCompareLo s src n v).2

theorem kept_gtCompareHi (s : State) (src : Src) (n : Nat) (v : Word) :
    (gtCompareHi s src n v).otp.fuse = s.otp.fuse ∧ (gtCompareHi s src n v).pending = s.pending := by
  simp [gtCompareHi, apply_ite State.otp, apply_ite State.pending]
@[simp] theorem fuse_gtCompareHi (s : State) (src : Src) (n : Nat) (v : Word) :
    (gtCompareHi s src n v).otp.fuse = s.otp.fuse := (kept_gtCompareHi s src n v).1
@[simp] theorem pending_gtCompareHi (s : State) (src : Src) (n : Nat) (v : Word) :
    (gtCompareHi s src n v).pending = s.pending := (kept_gtCompareHi s src n v).2

theorem kept_gtUnfire (s : State) (n : Nat) :
    (gtUnfire s n).otp.fuse = s.otp.fuse ∧ (gtUnfire s n).pending = s.pending := by
  unfold gtUnfire; dsimp only; (repeat' split) <;> simp [fuse_foldl, pending_foldl]
@[simp] theorem fuse_gtUnfire (s : State) (n : Nat) :
    (gtUnfire s n).otp.fuse = s.otp.fuse := (kept_gtUnfire s n).1
@[simp] theorem pending_gtUnfire (s : State) (n : Nat) :
    (gtUnfire s n).pending = s.pending := (kept_gtUnfire s n).2

theorem kept_gtControl (s : State) (src : Src) (n : Nat) (v : Word) :
    (gtControl s src n v).otp.fuse = s.otp.fuse ∧ (gtControl s src n v).pending = s.pending := by
  simp [gtControl, apply_ite State.otp, apply_ite Otp.fuse, apply_ite State.pending, fuse_foldl, pending_foldl]
@[simp] theorem fuse_gtControl (s : State) (src : Src) (n : Nat) (v : Word) :
    (gtControl s src n v).otp.fuse = s.otp.fuse := (kept_gtControl s src n v).1
@[simp] theorem pending_gtControl (s : State) (src : Src) (n : Nat) (v : Word) :
    (gtControl s src n v).pending = s.pending := (kept_gtControl s src n v).2

theorem kept_readReg (s : State) (src : Src) (a : Nat) :
    (readReg s src a).2.otp.fuse = s.otp.fuse ∧ (readReg s src a).2.pending = s.pending := by
  unfold readReg; dsimp only; (repeat' split) <;> simp
@[simp] theorem fuse_readReg (s : State) (src : Src) (a : Nat) :
    (readReg s src a).2.otp.fuse = s.otp.fuse := (kept_readReg s src a).1
@[simp] theorem pending_readReg (s : State) (src : Src) (a : Nat) :
    (readReg s src a).2.pending = s.pending := (kept_readReg s src a).2

theorem kept_plainWrite (s : State) (src : Src) (a : Nat) (v : Word) :
    (plainWrite s src a v).otp.fuse = s.otp.fuse ∧ (plainWrite s src a v).pending = s.pending := by
  unfold plainWrite; dsimp only; (repeat' split) <;> simp
@[simp] theorem fuse_plainWrite (s : State) (src : Src) (a : Nat) (v : Word) :
    (plainWrite s src a v).otp.fuse = s.otp.fuse := (kept_plainWrite s src a v).1
@[simp] theorem pending_plainWrite (s : State) (src : Src) (a : Nat) (v : Word) :
    (plainWrite s src a v).pending = s.pending := (kept_plainWrite s src a v).2

theorem kept_copyWrite (s : State) (src : Src) (a : Nat) (v : Word) :
    (copyWrite s src a v).otp.fuse = s.otp.fuse ∧ (copyWrite s src a v).pending = s.pending := by
  unfold copyWrite; dsimp only; (repeat' split) <;> simp
@[simp] theorem fuse_copyWrite (s : State) (src : Src) (a : Nat) (v : Word) :
    (copyWrite s src a v).otp.fuse = s.otp.fuse := (kept_copyWrite s src a v).1
@[simp] theorem pending_copyWrite (s : State) (src : Src) (a : Nat) (v : Word) :
    (copyWrite s src a v).pending = s.pending := (kept_copyWrite s src a v).2

theorem kept_pendClear (s : State) (mask : Nat) :
    (pendClear s mask).otp.fuse = s.otp.fuse ∧ (pendClear s mask).pending = s.pending := by
  simp [pendClear, apply_ite State.otp, apply_ite Otp.fuse, apply_ite State.pending, fuse_foldl, pending_foldl]
@[simp] theorem fuse_pendClear (s : State) (mask : Nat) :
    (pendClear s mask).otp.fuse = s.otp.fuse := (kept_pendClear s mask).1
@[simp] theorem pending_pendClear (s : State) (mask : Nat) :
    (pendClear s mask).pending = s.pending := (kept_pendClear s mask).2

theorem kept_latencyWrite (s : State) (n : Nat) :
    (latencyWrite s n).otp.fuse = s.otp.fuse ∧ (latencyWrite s n).pending = s.pending := by
  simp [latencyWrite]
@[simp] theorem fuse_latencyWrite (s : State) (n : Nat) :
    (latencyWrite s n).otp.fuse = s.otp.fuse := (kept_latencyWrite s n).1
@[simp] theorem pending_latencyWrite (s : State) (n : Nat) :
    (latencyWrite s n).pending = s.pending := (kept_latencyWrite s n).2

theorem kept_arrayWrite (s : State) (src : Src) (a : Nat) (v : Word) :
    (arrayWrite s src a v).otp.fuse = s.otp.fuse ∧ (arrayWrite s src a v).pending = s.pending := by
  unfold arrayWrite
  (repeat' split) <;> simp
@[simp] theorem fuse_arrayWrite (s : State) (src : Src) (a : Nat) (v : Word) :
    (arrayWrite s src a v).otp.fuse = s.otp.fuse := (kept_arrayWrite s src a v).1
@[simp] theorem pending_arrayWrite (s : State) (src : Src) (a : Nat) (v : Word) :
    (arrayWrite s src a v).pending = s.pending := (kept_arrayWrite s src a v).2

theorem kept_writeReg (s : State) (src : Src) (a : Nat) (v : Word) :
    (writeReg s src a v).otp.fuse = s.otp.fuse ∧ (writeReg s src a v).pending = s.pending := by
  unfold writeReg; dsimp only; (repeat' split) <;> simp [fuse_foldl, pending_foldl]
@[simp] theorem fuse_writeReg (s : State) (src : Src) (a : Nat) (v : Word) :
    (writeReg s src a v).otp.fuse = s.otp.fuse := (kept_writeReg s src a v).1
@[simp] theorem pending_writeReg (s : State) (src : Src) (a : Nat) (v : Word) :
    (writeReg s src a v).pending = s.pending := (kept_writeReg s src a v).2

theorem kept_mapRegs (s : State) (m : Mapping) :
    (mapRegs s m).otp.fuse = s.otp.fuse ∧ (mapRegs s m).pending = s.pending := by
  unfold mapRegs
  dsimp only
  rw [setRegN_otp, setRegN_pending]
  exact ⟨fuse_foldl _ (fun _ _ => by rw [setRegN_otp]) _ _, pending_foldl _ (fun _ _ => by rw [setRegN_pending]) _ _⟩
@[simp] theorem fuse_mapRegs (s : State) (m : Mapping) :
    (mapRegs s m).otp.fuse = s.otp.fuse := (kept_mapRegs s m).1
@[simp] theorem pending_mapRegs (s : State) (m : Mapping) :
    (mapRegs s m).pending = s.pending := (kept_mapRegs s m).2

theorem kept_fuseRepairs (s : State) :
    (fuseRepairs s).otp.fuse = s.otp.fuse ∧ (fuseRepairs s).pending = s.pending := by
  simp [fuseRepairs]
@[simp] theorem fuse_fuseRepairs (s : State) :
    (fuseRepairs s).otp.fuse = s.otp.fuse := (kept_fuseRepairs s).1
@[simp] theorem pending_fuseRepairs (s : State) :
    (fuseRepairs s).pending = s.pending := (kept_fuseRepairs s).2

theorem kept_selfTest (s : State) (fails : List ConvFail) :
    (selfTest s fails).otp.fuse = s.otp.fuse ∧ (selfTest s fails).pending = s.pending := by
  unfold selfTest
  dsimp only
  rw [setFld_otp, setFld_pending]
  exact kept_mapRegs _ _
@[simp] theorem fuse_selfTest (s : State) (fails : List ConvFail) :
    (selfTest s fails).otp.fuse = s.otp.fuse := (kept_selfTest s fails).1
@[simp] theorem pending_selfTest (s : State) (fails : List ConvFail) :
    (selfTest s fails).pending = s.pending := (kept_selfTest s fails).2

theorem kept_applyTrim (s : State) (t : TrimResult) :
    (applyTrim s t).otp.fuse = s.otp.fuse ∧ (applyTrim s t).pending = s.pending := by
  simp [applyTrim, apply_ite State.otp, apply_ite Otp.fuse, apply_ite State.pending, fuse_foldl, pending_foldl]
@[simp] theorem fuse_applyTrim (s : State) (t : TrimResult) :
    (applyTrim s t).otp.fuse = s.otp.fuse := (kept_applyTrim s t).1
@[simp] theorem pending_applyTrim (s : State) (t : TrimResult) :
    (applyTrim s t).pending = s.pending := (kept_applyTrim s t).2

theorem kept_startCalibration (s : State) (trims : List TrimResult) (slots : List SlotCap) :
    (startCalibration s trims slots).otp.fuse = s.otp.fuse ∧ (startCalibration s trims slots).pending = s.pending := by
  unfold startCalibration
  extract_lets s1 s2 offs __src s3
  have h1 : s1.otp.fuse = s.otp.fuse ∧ s1.pending = s.pending :=
    ⟨fuse_foldl _ (fun _ _ => fuse_applyTrim _ _) _ _, pending_foldl _ (fun _ _ => pending_applyTrim _ _) _ _⟩
  rw [setFld_otp, setFld_pending]
  exact h1
@[simp] theorem fuse_startCalibration (s : State) (trims : List TrimResult) (slots : List SlotCap) :
    (startCalibration s trims slots).otp.fuse = s.otp.fuse := (kept_startCalibration s trims slots).1
@[simp] theorem pending_startCalibration (s : State) (trims : List TrimResult) (slots : List SlotCap) :
    (startCalibration s trims slots).pending = s.pending := (kept_startCalibration s trims slots).2

theorem kept_applyHoldup (s : State) (b : List Byte) :
    (applyHoldup s b).otp.fuse = s.otp.fuse ∧ (applyHoldup s b).pending = s.pending := by
  unfold applyHoldup
  extract_lets s1 s2 s3
  have hs1 : s1.otp.fuse = s.otp.fuse ∧ s1.pending = s.pending := by simp [s1]
  have hs2 : s2.otp.fuse = s1.otp.fuse ∧ s2.pending = s1.pending := by simp [s2]
  have hs3 : s3.otp.fuse = s2.otp.fuse ∧ s3.pending = s2.pending := by simp [s3]
  rw [setRegN_otp, setRegN_pending]
  exact ⟨(hs3.1.trans hs2.1).trans hs1.1, (hs3.2.trans hs2.2).trans hs1.2⟩
@[simp] theorem fuse_applyHoldup (s : State) (b : List Byte) :
    (applyHoldup s b).otp.fuse = s.otp.fuse := (kept_applyHoldup s b).1
@[simp] theorem pending_applyHoldup (s : State) (b : List Byte) :
    (applyHoldup s b).pending = s.pending := (kept_applyHoldup s b).2

theorem kept_cfgWrite (rom : Bool) (s : State) (a : Nat) (v : Word) :
    (cfgWrite rom s a v).otp.fuse = s.otp.fuse ∧ (cfgWrite rom s a v).pending = s.pending := by
  unfold cfgWrite; dsimp only; (repeat' split) <;> simp
@[simp] theorem fuse_cfgWrite (rom : Bool) (s : State) (a : Nat) (v : Word) :
    (cfgWrite rom s a v).otp.fuse = s.otp.fuse := (kept_cfgWrite rom s a v).1
@[simp] theorem pending_cfgWrite (rom : Bool) (s : State) (a : Nat) (v : Word) :
    (cfgWrite rom s a v).pending = s.pending := (kept_cfgWrite rom s a v).2

theorem kept_loadCue (s : State) (b : List Byte) :
    (loadCue s b).otp.fuse = s.otp.fuse ∧ (loadCue s b).pending = s.pending := by
  simp [loadCue, apply_ite State.otp, apply_ite State.pending]
@[simp] theorem fuse_loadCue (s : State) (b : List Byte) :
    (loadCue s b).otp.fuse = s.otp.fuse := (kept_loadCue s b).1
@[simp] theorem pending_loadCue (s : State) (b : List Byte) :
    (loadCue s b).pending = s.pending := (kept_loadCue s b).2

theorem kept_putSnaps (s : State) (slot n i : Nat) (b : List Byte) :
    (putSnaps s slot n i b).otp.fuse = s.otp.fuse ∧ (putSnaps s slot n i b).pending = s.pending := by
  induction n generalizing s i b with
  | zero => exact ⟨rfl, rfl⟩
  | succ n ih =>
    unfold putSnaps
    split <;> simp [ih]
@[simp] theorem fuse_putSnaps (s : State) (slot n i : Nat) (b : List Byte) :
    (putSnaps s slot n i b).otp.fuse = s.otp.fuse := (kept_putSnaps s slot n i b).1
@[simp] theorem pending_putSnaps (s : State) (slot n i : Nat) (b : List Byte) :
    (putSnaps s slot n i b).pending = s.pending := (kept_putSnaps s slot n i b).2

theorem kept_applyRec (rom : Bool) (s : State) (r : CfgRec) :
    (applyRec rom s r).otp.fuse = s.otp.fuse ∧ (applyRec rom s r).pending = s.pending := by
  unfold applyRec; dsimp only; (repeat' split) <;> simp [fuse_foldl, pending_foldl]
@[simp] theorem fuse_applyRec (rom : Bool) (s : State) (r : CfgRec) :
    (applyRec rom s r).otp.fuse = s.otp.fuse := (kept_applyRec rom s r).1
@[simp] theorem pending_applyRec (rom : Bool) (s : State) (r : CfgRec) :
    (applyRec rom s r).pending = s.pending := (kept_applyRec rom s r).2

theorem kept_loadDefect (acc : State × Option Nat × Nat) (w : Word) :
    (loadDefect acc w).1.otp.fuse = acc.1.otp.fuse ∧ (loadDefect acc w).1.pending = acc.1.pending := by
  unfold loadDefect; dsimp only; (repeat' split) <;> simp
@[simp] theorem fuse_loadDefect (acc : State × Option Nat × Nat) (w : Word) :
    (loadDefect acc w).1.otp.fuse = acc.1.otp.fuse := (kept_loadDefect acc w).1
@[simp] theorem pending_loadDefect (acc : State × Option Nat × Nat) (w : Word) :
    (loadDefect acc w).1.pending = acc.1.pending := (kept_loadDefect acc w).2

theorem kept_loadDefects (s : State) (rs : List CfgRec) :
    (loadDefects s rs).otp.fuse = s.otp.fuse ∧ (loadDefects s rs).pending = s.pending := by
  have f : ∀ (ws : List Word) (acc : State × Option Nat × Nat),
      (ws.foldl loadDefect acc).1.otp.fuse = acc.1.otp.fuse ∧
        (ws.foldl loadDefect acc).1.pending = acc.1.pending := by
    intro ws
    induction ws with
    | nil => exact fun _ => ⟨rfl, rfl⟩
    | cons w t ih => exact fun acc => by simp [ih]
  unfold loadDefects
  simp [f]
@[simp] theorem fuse_loadDefects (s : State) (rs : List CfgRec) :
    (loadDefects s rs).otp.fuse = s.otp.fuse := (kept_loadDefects s rs).1
@[simp] theorem pending_loadDefects (s : State) (rs : List CfgRec) :
    (loadDefects s rs).pending = s.pending := (kept_loadDefects s rs).2

theorem kept_applyRecords (rom : Bool) (s : State) (rs : List CfgRec) :
    (applyRecords rom s rs).otp.fuse = s.otp.fuse ∧ (applyRecords rom s rs).pending = s.pending := by
  have f : ∀ s : State, (rs.foldl (applyRec rom) s).otp.fuse = s.otp.fuse ∧
      (rs.foldl (applyRec rom) s).pending = s.pending := fun s =>
    ⟨fuse_foldl _ (fun _ _ => by simp) _ _, pending_foldl _ (fun _ _ => by simp) _ _⟩
  have g : ∀ (w : State → Nat × Word × Word → Word) (l : List (Nat × Word × Word)) (s : State),
      (l.foldl (fun s q => setReg s q.1 (w s q)) s).otp.fuse = s.otp.fuse ∧
        (l.foldl (fun s q => setReg s q.1 (w s q)) s).pending = s.pending := fun _ _ _ =>
    ⟨fuse_foldl _ (by intro s x; simp only [setReg_otp]) _ _,
      pending_foldl _ (by intro s x; simp only [setReg_pending]) _ _⟩
  unfold applyRecords
  extract_lets s1 s2 s3
  have h2 : s2.otp.fuse = s.otp.fuse ∧ s2.pending = s.pending := by
    simp only [s2]
    split <;> simp [s1, f]
  have h3 : s3.otp.fuse = s.otp.fuse ∧ s3.pending = s.pending := by
    have := g (fun s q => ((s.cur q.1 &&& ~~~q.2.1) ||| (q.2.2 &&& q.2.1))) s2.sys.applying s2
    exact ⟨this.1.trans h2.1, this.2.trans h2.2⟩
  split
  · exact h3
  · simpa using h3
@[simp] theorem fuse_applyRecords (rom : Bool) (s : State) (rs : List CfgRec) :
    (applyRecords rom s rs).otp.fuse = s.otp.fuse := (kept_applyRecords rom s rs).1
@[simp] theorem pending_applyRecords (rom : Bool) (s : State) (rs : List CfgRec) :
    (applyRecords rom s rs).pending = s.pending := (kept_applyRecords rom s rs).2

theorem kept_keepAtStart (s : State) (cause : Nat) :
    (keepAtStart s cause).otp.fuse = s.otp.fuse ∧ (keepAtStart s cause).pending = s.pending := by
  simp [keepAtStart, apply_ite State.otp, apply_ite Otp.fuse, apply_ite State.pending, fuse_foldl, pending_foldl]
@[simp] theorem fuse_keepAtStart (s : State) (cause : Nat) :
    (keepAtStart s cause).otp.fuse = s.otp.fuse := (kept_keepAtStart s cause).1
@[simp] theorem pending_keepAtStart (s : State) (cause : Nat) :
    (keepAtStart s cause).pending = s.pending := (kept_keepAtStart s cause).2

theorem kept_logDiscards (old : State) (s : State) :
    (logDiscards old s).otp.fuse = s.otp.fuse ∧ (logDiscards old s).pending = s.pending := by
  simp [logDiscards, apply_ite State.otp, apply_ite State.pending, fuse_foldl, pending_foldl]
@[simp] theorem fuse_logDiscards (old : State) (s : State) :
    (logDiscards old s).otp.fuse = s.otp.fuse := (kept_logDiscards old s).1
@[simp] theorem pending_logDiscards (old : State) (s : State) :
    (logDiscards old s).pending = s.pending := (kept_logDiscards old s).2

theorem kept_reportMargins (s : State) :
    (reportMargins s).otp.fuse = s.otp.fuse ∧ (reportMargins s).pending = s.pending := by
  simp [reportMargins, fuse_foldl, pending_foldl]
@[simp] theorem fuse_reportMargins (s : State) :
    (reportMargins s).otp.fuse = s.otp.fuse := (kept_reportMargins s).1
@[simp] theorem pending_reportMargins (s : State) :
    (reportMargins s).pending = s.pending := (kept_reportMargins s).2

theorem kept_reportRegions (s : State) :
    (reportRegions s).otp.fuse = s.otp.fuse ∧ (reportRegions s).pending = s.pending := by
  have f : ∀ (g : Nat → Nat) (l : List Nat) (s : State),
      (l.foldl (fun s w => setRegN s (0x020010 + 4 * w) (g w)) s).otp.fuse = s.otp.fuse ∧
        (l.foldl (fun s w => setRegN s (0x020010 + 4 * w) (g w)) s).pending = s.pending := fun g l s =>
    ⟨fuse_foldl _ (fun s x => by rw [setRegN_otp]) l s, pending_foldl _ (fun s x => setRegN_pending _ _ _) l s⟩
  unfold reportRegions
  generalize upto 64 = rs
  generalize upto 8 = ws
  extract_lets st s1 bad s2
  have h1 : s1.otp.fuse = s.otp.fuse ∧ s1.pending = s.pending := f _ ws s
  have h2 : s2.otp.fuse = s1.otp.fuse ∧ s2.pending = s1.pending := by
    rw [setFld_otp, setFld_pending]; exact ⟨rfl, rfl⟩
  constructor
  · rw [fuse_foldl _ (fun s x => by rw [logReg_otp]), h2.1, h1.1]
  · rw [pending_foldl _ (fun s x => logReg_pending _ _ _ _ _ _), h2.2, h1.2]
@[simp] theorem fuse_reportRegions (s : State) :
    (reportRegions s).otp.fuse = s.otp.fuse := (kept_reportRegions s).1
@[simp] theorem pending_reportRegions (s : State) :
    (reportRegions s).pending = s.pending := (kept_reportRegions s).2

theorem kept_clockWords (s : State) :
    (clockWords s).otp.fuse = s.otp.fuse ∧ (clockWords s).pending = s.pending := by
  have g : ∀ (w : Nat → Nat) (v : State → Nat → Nat) (l : List Nat) (s : State),
      (l.foldl (fun s i => setRegN s (w i) (v s i)) s).otp.fuse = s.otp.fuse ∧
        (l.foldl (fun s i => setRegN s (w i) (v s i)) s).pending = s.pending := fun _ _ _ _ =>
    ⟨fuse_foldl _ (by intro s x; simp only [setRegN_otp]) _ _,
      pending_foldl _ (by intro s x; simp only [setRegN_pending]) _ _⟩
  unfold clockWords
  dsimp only
  (repeat' split) <;> simp only [setRegN_otp, setRegN_pending, g, fuse_cPllWords, pending_cPllWords, and_self]
@[simp] theorem fuse_clockWords (s : State) :
    (clockWords s).otp.fuse = s.otp.fuse := (kept_clockWords s).1
@[simp] theorem pending_clockWords (s : State) :
    (clockWords s).pending = s.pending := (kept_clockWords s).2

theorem kept_fuseSense (s : State) (env : StartEnv) :
    (fuseSense s env).otp.fuse = s.otp.fuse ∧ (fuseSense s env).pending = s.pending := by
  unfold fuseSense
  dsimp only
  refine ⟨(fuse_foldl _ (by intro s x; simp only [setRegN_otp]) _ _).trans ?_,
    (pending_foldl _ (by intro s x; simp only [setRegN_pending]) _ _).trans ?_⟩ <;>
    simp [fuse_foldl, pending_foldl]
@[simp] theorem fuse_fuseSense (s : State) (env : StartEnv) :
    (fuseSense s env).otp.fuse = s.otp.fuse := (kept_fuseSense s env).1
@[simp] theorem pending_fuseSense (s : State) (env : StartEnv) :
    (fuseSense s env).pending = s.pending := (kept_fuseSense s env).2

theorem kept_seedDrbg (s : State) (env : StartEnv) :
    (seedDrbg s env).otp.fuse = s.otp.fuse ∧ (seedDrbg s env).pending = s.pending := by
  unfold seedDrbg; dsimp only; (repeat' split) <;> simp [fuse_foldl, pending_foldl]
@[simp] theorem fuse_seedDrbg (s : State) (env : StartEnv) :
    (seedDrbg s env).otp.fuse = s.otp.fuse := (kept_seedDrbg s env).1
@[simp] theorem pending_seedDrbg (s : State) (env : StartEnv) :
    (seedDrbg s env).pending = s.pending := (kept_seedDrbg s env).2

theorem kept_enablePlls (s : State) (env : StartEnv) :
    (enablePlls s env).otp.fuse = s.otp.fuse ∧ (enablePlls s env).pending = s.pending := by
  simp [enablePlls, apply_ite State.otp, apply_ite Otp.fuse, apply_ite State.pending, fuse_foldl, pending_foldl]
@[simp] theorem fuse_enablePlls (s : State) (env : StartEnv) :
    (enablePlls s env).otp.fuse = s.otp.fuse := (kept_enablePlls s env).1
@[simp] theorem pending_enablePlls (s : State) (env : StartEnv) :
    (enablePlls s env).pending = s.pending := (kept_enablePlls s env).2

theorem kept_resetFlash (s : State) :
    (resetFlash s).otp.fuse = s.otp.fuse ∧ (resetFlash s).pending = s.pending := by
  simp [resetFlash, apply_ite State.otp, apply_ite Otp.fuse, apply_ite State.pending, fuse_foldl, pending_foldl]
@[simp] theorem fuse_resetFlash (s : State) :
    (resetFlash s).otp.fuse = s.otp.fuse := (kept_resetFlash s).1
@[simp] theorem pending_resetFlash (s : State) :
    (resetFlash s).pending = s.pending := (kept_resetFlash s).2

theorem kept_discoverFlash (s : State) (env : StartEnv) :
    (discoverFlash s env).otp.fuse = s.otp.fuse ∧ (discoverFlash s env).pending = s.pending := by
  simp [discoverFlash, apply_ite State.otp, apply_ite Otp.fuse, apply_ite State.pending, fuse_foldl, pending_foldl]
@[simp] theorem fuse_discoverFlash (s : State) (env : StartEnv) :
    (discoverFlash s env).otp.fuse = s.otp.fuse := (kept_discoverFlash s env).1
@[simp] theorem pending_discoverFlash (s : State) (env : StartEnv) :
    (discoverFlash s env).pending = s.pending := (kept_discoverFlash s env).2

theorem kept_chooseBank (s : State) :
    (chooseBank s).2.otp.fuse = s.otp.fuse ∧ (chooseBank s).2.pending = s.pending := by
  unfold chooseBank
  split
  · exact ⟨rfl, rfl⟩
  · extract_lets __src s1
    have h1 : s1.otp.fuse = s.otp.fuse ∧ s1.pending = s.pending := ⟨rfl, rfl⟩
    refine kept_ite2 h1 (kept_ite2 ?_ ?_)
    · split <;> rename_i h <;> have a := kept_of_snd (kept_writeBootRec _ _) h <;>
        exact ⟨a.1.trans h1.1, a.2.trans h1.2⟩
    · have a := kept_writeBootRec s1 (BootRec.new ‹BootRec›.prevBank false true ‹BootRec›.prevBank
        (headerVersion s1 ‹BootRec›.prevBank))
      exact ⟨a.1.trans h1.1, a.2.trans h1.2⟩
@[simp] theorem fuse_chooseBank (s : State) :
    (chooseBank s).2.otp.fuse = s.otp.fuse := (kept_chooseBank s).1
@[simp] theorem pending_chooseBank (s : State) :
    (chooseBank s).2.pending = s.pending := (kept_chooseBank s).2

theorem kept_rebuildUpdate (s : State) :
    (rebuildUpdate s).otp.fuse = s.otp.fuse ∧ (rebuildUpdate s).pending = s.pending := by
  unfold rebuildUpdate; dsimp only; (repeat' split) <;> simp [fuse_foldl, pending_foldl]
@[simp] theorem fuse_rebuildUpdate (s : State) :
    (rebuildUpdate s).otp.fuse = s.otp.fuse := (kept_rebuildUpdate s).1
@[simp] theorem pending_rebuildUpdate (s : State) :
    (rebuildUpdate s).pending = s.pending := (kept_rebuildUpdate s).2

theorem kept_relog (s : State) (f : Nat → Option LogEntry) :
    (relog s f).otp.fuse = s.otp.fuse ∧ (relog s f).pending = s.pending := by
  exact ⟨rfl, rfl⟩
@[simp] theorem fuse_relog (s : State) (f : Nat → Option LogEntry) :
    (relog s f).otp.fuse = s.otp.fuse := (kept_relog s f).1
@[simp] theorem pending_relog (s : State) (f : Nat → Option LogEntry) :
    (relog s f).pending = s.pending := (kept_relog s f).2

theorem kept_findArchive (s : State) (cold : Bool) :
    (findArchive s cold).otp.fuse = s.otp.fuse ∧ (findArchive s cold).pending = s.pending := by
  unfold findArchive; dsimp only; (repeat' split) <;> simp [fuse_foldl, pending_foldl]
@[simp] theorem fuse_findArchive (s : State) (cold : Bool) :
    (findArchive s cold).otp.fuse = s.otp.fuse := (kept_findArchive s cold).1
@[simp] theorem pending_findArchive (s : State) (cold : Bool) :
    (findArchive s cold).pending = s.pending := (kept_findArchive s cold).2

theorem kept_pendReset (s : State) :
    (pendReset s).otp.fuse = s.otp.fuse ∧ (pendReset s).pending = s.pending := by
  simp [pendReset]
@[simp] theorem fuse_pendReset (s : State) :
    (pendReset s).otp.fuse = s.otp.fuse := (kept_pendReset s).1
@[simp] theorem pending_pendReset (s : State) :
    (pendReset s).pending = s.pending := (kept_pendReset s).2

theorem kept_finishStart (s : State) (env : StartEnv) (t : Nat) (limit : Nat) :
    (finishStart s env t limit).otp.fuse = s.otp.fuse ∧ (finishStart s env t limit).pending = s.pending := by
  simp [finishStart, apply_ite State.otp, apply_ite Otp.fuse, apply_ite State.pending, fuse_foldl, pending_foldl]
@[simp] theorem fuse_finishStart (s : State) (env : StartEnv) (t : Nat) (limit : Nat) :
    (finishStart s env t limit).otp.fuse = s.otp.fuse := (kept_finishStart s env t limit).1
@[simp] theorem pending_finishStart (s : State) (env : StartEnv) (t : Nat) (limit : Nat) :
    (finishStart s env t limit).pending = s.pending := (kept_finishStart s env t limit).2

theorem kept_noBank (s : State) :
    (noBank s).otp.fuse = s.otp.fuse ∧ (noBank s).pending = s.pending := by
  simp [noBank, apply_ite State.otp, apply_ite Otp.fuse, apply_ite State.pending, fuse_foldl, pending_foldl]
@[simp] theorem fuse_noBank (s : State) :
    (noBank s).otp.fuse = s.otp.fuse := (kept_noBank s).1
@[simp] theorem pending_noBank (s : State) :
    (noBank s).pending = s.pending := (kept_noBank s).2

theorem kept_loadBank (s : State) :
    (loadBank s).otp.fuse = s.otp.fuse ∧ (loadBank s).pending = s.pending := by
  simp [loadBank, apply_ite State.otp, apply_ite Otp.fuse, apply_ite State.pending, fuse_foldl, pending_foldl]
@[simp] theorem fuse_loadBank (s : State) :
    (loadBank s).otp.fuse = s.otp.fuse := (kept_loadBank s).1
@[simp] theorem pending_loadBank (s : State) :
    (loadBank s).pending = s.pending := (kept_loadBank s).2

theorem kept_lateSteps (s : State) (env : StartEnv) (rom0 : Bool) (rs : List CfgRec) :
    (lateSteps s env rom0 rs).otp.fuse = s.otp.fuse ∧ (lateSteps s env rom0 rs).pending = s.pending := by
  unfold lateSteps
  extract_lets bank auth first other rom c1 s1 s2 c2 s3 s4 s5 env' c3 s6 c4 s7 s8 s9
  have h2 : s2.otp.fuse = s.otp.fuse ∧ s2.pending = s.pending := by
    simp only [s2]
    split <;> simp [s1]
  have h5 : s5.otp.fuse = s.otp.fuse ∧ s5.pending = s.pending := by
    simp only [s5]
    split
    · simp [s4, s3, h2]
    · exact h2
  have h6 : s6.otp.fuse = s.otp.fuse ∧ s6.pending = s.pending := by
    simp only [s6]
    split <;> simp [h5]
  have h7 : s7.otp.fuse = s.otp.fuse ∧ s7.pending = s.pending := by
    simp only [s7]
    split <;> simp [h6]
  have h8 : s8.otp.fuse = s.otp.fuse ∧ s8.pending = s.pending := by simp [s8, h7]
  have h9 : s9.otp.fuse = s.otp.fuse ∧ s9.pending = s.pending := by
    simp only [s9]
    split <;> simp [h8]
  dsimp only
  (repeat' split) <;> simp [h8, h9]
@[simp] theorem fuse_lateSteps (s : State) (env : StartEnv) (rom0 : Bool) (rs : List CfgRec) :
    (lateSteps s env rom0 rs).otp.fuse = s.otp.fuse := (kept_lateSteps s env rom0 rs).1
@[simp] theorem pending_lateSteps (s : State) (env : StartEnv) (rom0 : Bool) (rs : List CfgRec) :
    (lateSteps s env rom0 rs).pending = s.pending := (kept_lateSteps s env rom0 rs).2

theorem kept_withRecord (s : State) (env : StartEnv) :
    (withRecord s env).otp.fuse = s.otp.fuse ∧ (withRecord s env).pending = s.pending := by
  exact kept_withSense _ _ _ fun u => by
    split
    rename_i e
    have a := kept_of_snd (kept_chooseBank u) e
    simpa using a
@[simp] theorem fuse_withRecord (s : State) (env : StartEnv) :
    (withRecord s env).otp.fuse = s.otp.fuse := (kept_withRecord s env).1
@[simp] theorem pending_withRecord (s : State) (env : StartEnv) :
    (withRecord s env).pending = s.pending := (kept_withRecord s env).2

theorem kept_bootSteps (s : State) (env : StartEnv) (rom0 : Bool) :
    (bootSteps s env rom0).otp.fuse = s.otp.fuse ∧ (bootSteps s env rom0).pending = s.pending := by
  unfold bootSteps; dsimp only; (repeat' split) <;> simp [fuse_foldl, pending_foldl]
@[simp] theorem fuse_bootSteps (s : State) (env : StartEnv) (rom0 : Bool) :
    (bootSteps s env rom0).otp.fuse = s.otp.fuse := (kept_bootSteps s env rom0).1
@[simp] theorem pending_bootSteps (s : State) (env : StartEnv) (rom0 : Bool) :
    (bootSteps s env rom0).pending = s.pending := (kept_bootSteps s env rom0).2

theorem kept_refuseDebug (s : State) :
    (refuseDebug s).otp.fuse = s.otp.fuse ∧ (refuseDebug s).pending = s.pending := by
  simp [refuseDebug]
@[simp] theorem fuse_refuseDebug (s : State) :
    (refuseDebug s).otp.fuse = s.otp.fuse := (kept_refuseDebug s).1
@[simp] theorem pending_refuseDebug (s : State) :
    (refuseDebug s).pending = s.pending := (kept_refuseDebug s).2

theorem kept_debugStep (s : State) (env : StartEnv) :
    (debugStep s env).otp.fuse = s.otp.fuse ∧ (debugStep s env).pending = s.pending := by
  simp [debugStep, apply_ite State.otp, apply_ite Otp.fuse, apply_ite State.pending]
@[simp] theorem fuse_debugStep (s : State) (env : StartEnv) :
    (debugStep s env).otp.fuse = s.otp.fuse := (kept_debugStep s env).1
@[simp] theorem pending_debugStep (s : State) (env : StartEnv) :
    (debugStep s env).pending = s.pending := (kept_debugStep s env).2

theorem kept_clockStep (s : State) (env : StartEnv) :
    (clockStep s env).otp.fuse = s.otp.fuse ∧ (clockStep s env).pending = s.pending := by
  simp [clockStep, apply_ite State.otp, apply_ite Otp.fuse, apply_ite State.pending, fuse_foldl, pending_foldl]
@[simp] theorem fuse_clockStep (s : State) (env : StartEnv) :
    (clockStep s env).otp.fuse = s.otp.fuse := (kept_clockStep s env).1
@[simp] theorem pending_clockStep (s : State) (env : StartEnv) :
    (clockStep s env).pending = s.pending := (kept_clockStep s env).2

theorem kept_holdReset (s : State) (pin : ResetPin) :
    (holdReset s pin).otp.fuse = s.otp.fuse ∧ (holdReset s pin).pending = s.pending := by
  simp [holdReset]
@[simp] theorem fuse_holdReset (s : State) (pin : ResetPin) :
    (holdReset s pin).otp.fuse = s.otp.fuse := (kept_holdReset s pin).1
@[simp] theorem pending_holdReset (s : State) (pin : ResetPin) :
    (holdReset s pin).pending = s.pending := (kept_holdReset s pin).2

theorem kept_startSteps (f : State → State) (s : State)
    (h : ∀ u, (f u).otp.fuse = u.otp.fuse ∧ (f u).pending = u.pending) :
    (startSteps f s).otp.fuse = s.otp.fuse ∧ (startSteps f s).pending = s.pending :=
  h { s with log := { s.log with inStart := true, cycle := 0 } }

theorem kept_runStart (s : State) (env : StartEnv) (cause : Nat) :
    (runStart s env cause).otp.fuse = s.otp.fuse ∧ (runStart s env cause).pending = s.pending := by
  unfold runStart
  extract_lets z
  have h := kept_startSteps (fun z => clockStep (seedDrbg (fuseSense (logDiscards s z) env) env) env) z
    (fun u => by simp)
  have hz : z.otp.fuse = s.otp.fuse ∧ z.pending = s.pending := by simp [z]
  split
  · simp
  · exact ⟨h.1.trans hz.1, h.2.trans hz.2⟩
@[simp] theorem fuse_runStart (s : State) (env : StartEnv) (cause : Nat) :
    (runStart s env cause).otp.fuse = s.otp.fuse := (kept_runStart s env cause).1
@[simp] theorem pending_runStart (s : State) (env : StartEnv) (cause : Nat) :
    (runStart s env cause).pending = s.pending := (kept_runStart s env cause).2

theorem kept_afterWait (s : State) (env : StartEnv) (rom : Bool) :
    (afterWait s env rom).otp.fuse = s.otp.fuse ∧ (afterWait s env rom).pending = s.pending := by
  exact kept_startSteps (fun s => bootSteps s env rom) _ (fun u => by simp)
@[simp] theorem fuse_afterWait (s : State) (env : StartEnv) (rom : Bool) :
    (afterWait s env rom).otp.fuse = s.otp.fuse := (kept_afterWait s env rom).1
@[simp] theorem pending_afterWait (s : State) (env : StartEnv) (rom : Bool) :
    (afterWait s env rom).pending = s.pending := (kept_afterWait s env rom).2

theorem kept_openPulse (s : State) (l : List OpenPulse) (i : Nat) :
    (openPulse s l i).2.otp.fuse = s.otp.fuse ∧ (openPulse s l i).2.pending = s.pending := by
  unfold openPulse; dsimp only; (repeat' split) <;> simp [fuse_foldl, pending_foldl]
@[simp] theorem fuse_openPulse (s : State) (l : List OpenPulse) (i : Nat) :
    (openPulse s l i).2.otp.fuse = s.otp.fuse := (kept_openPulse s l i).1
@[simp] theorem pending_openPulse (s : State) (l : List OpenPulse) (i : Nat) :
    (openPulse s l i).2.pending = s.pending := (kept_openPulse s l i).2

theorem kept_openEnd (env : StartEnv) (acc : Bool × State) :
    (openEnd env acc).otp.fuse = acc.2.otp.fuse ∧ (openEnd env acc).pending = acc.2.pending := by
  unfold openEnd
  split <;> simp

theorem kept_mgbStart (s : State) :
    (mgbStart s).otp.fuse = s.otp.fuse ∧ (mgbStart s).pending = s.pending := by
  simp [mgbStart, apply_ite State.otp, apply_ite Otp.fuse, apply_ite State.pending, fuse_foldl, pending_foldl]
@[simp] theorem fuse_mgbStart (s : State) :
    (mgbStart s).otp.fuse = s.otp.fuse := (kept_mgbStart s).1
@[simp] theorem pending_mgbStart (s : State) :
    (mgbStart s).pending = s.pending := (kept_mgbStart s).2

theorem kept_setPtr (s : State) (p : Nat) :
    (setPtr s p).otp.fuse = s.otp.fuse ∧ (setPtr s p).pending = s.pending := by
  simp [setPtr]
@[simp] theorem fuse_setPtr (s : State) (p : Nat) :
    (setPtr s p).otp.fuse = s.otp.fuse := (kept_setPtr s p).1
@[simp] theorem pending_setPtr (s : State) (p : Nat) :
    (setPtr s p).pending = s.pending := (kept_setPtr s p).2

theorem kept_sendBytes (cut : Bool) (fuel n : Nat) (s : State) :
    (sendBytes cut fuel n s).2.otp.fuse = s.otp.fuse ∧ (sendBytes cut fuel n s).2.pending = s.pending := by
  induction fuel generalizing n s with
  | zero => exact ⟨rfl, rfl⟩
  | succ f ih =>
    unfold sendBytes
    split
    · exact ⟨rfl, rfl⟩
    · dsimp only
      split <;> simp [ih]
@[simp] theorem fuse_sendBytes (cut : Bool) (fuel n : Nat) (s : State) :
    (sendBytes cut fuel n s).2.otp.fuse = s.otp.fuse := (kept_sendBytes cut fuel n s).1
@[simp] theorem pending_sendBytes (cut : Bool) (fuel n : Nat) (s : State) :
    (sendBytes cut fuel n s).2.pending = s.pending := (kept_sendBytes cut fuel n s).2

theorem kept_mgbRead (s : State) (n : Nat) (c : Clocked) :
    (mgbRead s n c).otp.fuse = s.otp.fuse ∧ (mgbRead s n c).pending = s.pending := by
  simp [mgbRead, apply_ite State.otp, apply_ite Otp.fuse, apply_ite State.pending, fuse_foldl, pending_foldl]
@[simp] theorem fuse_mgbRead (s : State) (n : Nat) (c : Clocked) :
    (mgbRead s n c).otp.fuse = s.otp.fuse := (kept_mgbRead s n c).1
@[simp] theorem pending_mgbRead (s : State) (n : Nat) (c : Clocked) :
    (mgbRead s n c).pending = s.pending := (kept_mgbRead s n c).2

theorem kept_sendTimedOut (s : State) (c : Clocked) :
    (sendTimedOut s c).otp.fuse = s.otp.fuse ∧ (sendTimedOut s c).pending = s.pending := by
  simp [sendTimedOut, apply_ite State.otp, apply_ite Otp.fuse, apply_ite State.pending, fuse_foldl, pending_foldl]
@[simp] theorem fuse_sendTimedOut (s : State) (c : Clocked) :
    (sendTimedOut s c).otp.fuse = s.otp.fuse := (kept_sendTimedOut s c).1
@[simp] theorem pending_sendTimedOut (s : State) (c : Clocked) :
    (sendTimedOut s c).pending = s.pending := (kept_sendTimedOut s c).2

theorem kept_busAbort (s : State) :
    (busAbort s).otp.fuse = s.otp.fuse ∧ (busAbort s).pending = s.pending := by
  exact ⟨rfl, rfl⟩
@[simp] theorem fuse_busAbort (s : State) :
    (busAbort s).otp.fuse = s.otp.fuse := (kept_busAbort s).1
@[simp] theorem pending_busAbort (s : State) :
    (busAbort s).pending = s.pending := (kept_busAbort s).2

theorem kept_barkAttempt (s : State) (code : Nat) (n : Nat) (r : BarkResult) :
    (barkAttempt s code n r).otp.fuse = s.otp.fuse ∧ (barkAttempt s code n r).pending = s.pending := by
  unfold barkAttempt; dsimp only; (repeat' split) <;> simp
@[simp] theorem fuse_barkAttempt (s : State) (code : Nat) (n : Nat) (r : BarkResult) :
    (barkAttempt s code n r).otp.fuse = s.otp.fuse := (kept_barkAttempt s code n r).1
@[simp] theorem pending_barkAttempt (s : State) (code : Nat) (n : Nat) (r : BarkResult) :
    (barkAttempt s code n r).pending = s.pending := (kept_barkAttempt s code n r).2

theorem kept_badReq (s : State) (h : RxHdr) (type : Nat) (status : Nat) :
    (badReq s h type status).otp.fuse = s.otp.fuse ∧ (badReq s h type status).pending = s.pending := by
  simp [badReq]
@[simp] theorem fuse_badReq (s : State) (h : RxHdr) (type : Nat) (status : Nat) :
    (badReq s h type status).otp.fuse = s.otp.fuse := (kept_badReq s h type status).1
@[simp] theorem pending_badReq (s : State) (h : RxHdr) (type : Nat) (status : Nat) :
    (badReq s h type status).pending = s.pending := (kept_badReq s h type status).2

theorem kept_regRdResp (s : State) (h : RxHdr) (addr : Nat) (count : Nat) (status : Nat) (ws : List Word) :
    (regRdResp s h addr count status ws).otp.fuse = s.otp.fuse ∧ (regRdResp s h addr count status ws).pending = s.pending := by
  simp [regRdResp]
@[simp] theorem fuse_regRdResp (s : State) (h : RxHdr) (addr : Nat) (count : Nat) (status : Nat) (ws : List Word) :
    (regRdResp s h addr count status ws).otp.fuse = s.otp.fuse := (kept_regRdResp s h addr count status ws).1
@[simp] theorem pending_regRdResp (s : State) (h : RxHdr) (addr : Nat) (count : Nat) (status : Nat) (ws : List Word) :
    (regRdResp s h addr count status ws).pending = s.pending := (kept_regRdResp s h addr count status ws).2

theorem kept_readWords (n a : Nat) (s : State) :
    (readWords n a s).2.otp.fuse = s.otp.fuse ∧ (readWords n a s).2.pending = s.pending := by
  induction n generalizing a s with
  | zero => exact ⟨rfl, rfl⟩
  | succ n ih => simp [readWords, ih]
@[simp] theorem fuse_readWords (n a : Nat) (s : State) :
    (readWords n a s).2.otp.fuse = s.otp.fuse := (kept_readWords n a s).1
@[simp] theorem pending_readWords (n a : Nat) (s : State) :
    (readWords n a s).2.pending = s.pending := (kept_readWords n a s).2

theorem kept_doRegRd (s : State) (h : RxHdr) (addr : Nat) (count : Nat) :
    (doRegRd s h addr count).otp.fuse = s.otp.fuse ∧ (doRegRd s h addr count).pending = s.pending := by
  unfold doRegRd; dsimp only; (repeat' split) <;> simp
@[simp] theorem fuse_doRegRd (s : State) (h : RxHdr) (addr : Nat) (count : Nat) :
    (doRegRd s h addr count).otp.fuse = s.otp.fuse := (kept_doRegRd s h addr count).1
@[simp] theorem pending_doRegRd (s : State) (h : RxHdr) (addr : Nat) (count : Nat) :
    (doRegRd s h addr count).pending = s.pending := (kept_doRegRd s h addr count).2

theorem kept_bulkPart (s : State) (link : Nat) (tag : Nat) (addr : Nat) (status : Nat) (last : Bool) (data : List Byte) :
    (bulkPart s link tag addr status last data).otp.fuse = s.otp.fuse ∧ (bulkPart s link tag addr status last data).pending = s.pending := by
  simp [bulkPart]
@[simp] theorem fuse_bulkPart (s : State) (link : Nat) (tag : Nat) (addr : Nat) (status : Nat) (last : Bool) (data : List Byte) :
    (bulkPart s link tag addr status last data).otp.fuse = s.otp.fuse := (kept_bulkPart s link tag addr status last data).1
@[simp] theorem pending_bulkPart (s : State) (link : Nat) (tag : Nat) (addr : Nat) (status : Nat) (last : Bool) (data : List Byte) :
    (bulkPart s link tag addr status last data).pending = s.pending := (kept_bulkPart s link tag addr status last data).2

theorem kept_doBulkRd (s : State) (h : RxHdr) (addr : Nat) (bytes : Nat) :
    (doBulkRd s h addr bytes).otp.fuse = s.otp.fuse ∧ (doBulkRd s h addr bytes).pending = s.pending := by
  unfold doBulkRd; dsimp only; (repeat' split) <;> simp
@[simp] theorem fuse_doBulkRd (s : State) (h : RxHdr) (addr : Nat) (bytes : Nat) :
    (doBulkRd s h addr bytes).otp.fuse = s.otp.fuse := (kept_doBulkRd s h addr bytes).1
@[simp] theorem pending_doBulkRd (s : State) (h : RxHdr) (addr : Nat) (bytes : Nat) :
    (doBulkRd s h addr bytes).pending = s.pending := (kept_doBulkRd s h addr bytes).2

theorem kept_writeAlbums (n a : Nat) (data : List Byte) (r : Option Nat) (s : State) :
    (writeAlbums n a data r s).2.otp.fuse = s.otp.fuse ∧ (writeAlbums n a data r s).2.pending = s.pending := by
  induction n generalizing a data r s with
  | zero => exact ⟨rfl, rfl⟩
  | succ n ih =>
    unfold writeAlbums
    refine kept_ite2 ⟨rfl, rfl⟩ ?_
    extract_lets o slot hf i old new x __src
    refine kept_ite2 (ih _ _ _ _) (kept_ite2 ?_ ?_)
    · have h := ih (a + 32) (data.drop 32) (some slot) (if r = some slot then s else bump s 0x0B00A0)
      have q : (if r = some slot then s else bump s 0x0B00A0).otp.fuse = s.otp.fuse ∧
          (if r = some slot then s else bump s 0x0B00A0).pending = s.pending := by
        split <;> simp
      exact ⟨h.1.trans q.1, h.2.trans q.2⟩
    · have h := ih (a + 32) (data.drop 32) r (setSnap s slot i { x with flags := x.flags % 4 + 4 })
      simp only [setSnap_otp, setSnap_pending] at h
      exact h
@[simp] theorem fuse_writeAlbums (n a : Nat) (data : List Byte) (r : Option Nat) (s : State) :
    (writeAlbums n a data r s).2.otp.fuse = s.otp.fuse := (kept_writeAlbums n a data r s).1
@[simp] theorem pending_writeAlbums (n a : Nat) (data : List Byte) (r : Option Nat) (s : State) :
    (writeAlbums n a data r s).2.pending = s.pending := (kept_writeAlbums n a data r s).2

theorem kept_doBulkWr (s : State) (h : RxHdr) (addr : Nat) (bytes : Nat) (data : List Byte) :
    (doBulkWr s h addr bytes data).otp.fuse = s.otp.fuse ∧ (doBulkWr s h addr bytes data).pending = s.pending := by
  unfold doBulkWr; dsimp only; (repeat' split) <;> simp
@[simp] theorem fuse_doBulkWr (s : State) (h : RxHdr) (addr : Nat) (bytes : Nat) (data : List Byte) :
    (doBulkWr s h addr bytes data).otp.fuse = s.otp.fuse := (kept_doBulkWr s h addr bytes data).1
@[simp] theorem pending_doBulkWr (s : State) (h : RxHdr) (addr : Nat) (bytes : Nat) (data : List Byte) :
    (doBulkWr s h addr bytes data).pending = s.pending := (kept_doBulkWr s h addr bytes data).2

@[simp] theorem fuse_doQueued (s : State) (h : RxHdr) (type body : Nat) (f : State → State) (hf : ∀ s, (f s).otp.fuse = s.otp.fuse) :
    (doQueued s h type body f).otp.fuse = s.otp.fuse := by
  unfold doQueued
  split <;> simp [hf]
@[simp] theorem pending_doQueued (s : State) (h : RxHdr) (type body : Nat) (f : State → State) (hf : ∀ s, (f s).pending = s.pending) :
    (doQueued s h type body f).pending = s.pending := by
  unfold doQueued
  split <;> simp [hf]

theorem kept_freeUnits (s : State) (i : Instr) (h : RxHdr) :
    (freeUnits s i h).otp.fuse = s.otp.fuse ∧ (freeUnits s i h).pending = s.pending := by
  simp [freeUnits, apply_ite State.otp, apply_ite Otp.fuse, apply_ite State.pending]
@[simp] theorem fuse_freeUnits (s : State) (i : Instr) (h : RxHdr) :
    (freeUnits s i h).otp.fuse = s.otp.fuse := (kept_freeUnits s i h).1
@[simp] theorem pending_freeUnits (s : State) (i : Instr) (h : RxHdr) :
    (freeUnits s i h).pending = s.pending := (kept_freeUnits s i h).2

theorem kept_sendNak (s : State) (l : Nat) (again : Bool) :
    (sendNak s l again).otp.fuse = s.otp.fuse ∧ (sendNak s l again).pending = s.pending := by
  simp [sendNak, apply_ite State.otp, apply_ite Otp.fuse, apply_ite State.pending]
@[simp] theorem fuse_sendNak (s : State) (l : Nat) (again : Bool) :
    (sendNak s l again).otp.fuse = s.otp.fuse := (kept_sendNak s l again).1
@[simp] theorem pending_sendNak (s : State) (l : Nat) (again : Bool) :
    (sendNak s l again).pending = s.pending := (kept_sendNak s l again).2

theorem grown_blow (s : State) (b lvl : Nat) : Grown s (blow s b lvl) where
  pending := rfl
  wf := fun h => wf_mput _ _ _ _ h
  mono := fun i => by
    by_cases h : i = b
    · subst h
      simp only [fuseLevel, blow, mget_mput_same]
      omega
    · simp only [fuseLevel, blow, mget_mput_other _ _ _ _ _ h]
      exact Nat.le_refl _
  top := fun h i => by
    by_cases e : i = b
    · subst e
      have := h i
      simp only [fuseLevel, blow, mget_mput_same] at *
      omega
    · simp only [fuseLevel, blow, mget_mput_other _ _ _ _ _ e]
      exact h i

theorem grown_pulseEnd (s : State) (b : Nat) (pump : Bool) (r : PulseResult) : Grown s (pulseEnd s b pump r) := by
  cases r with
  | aborted v lvl =>
    unfold pulseEnd
    dsimp only
    generalize (if v then 5 else if pump then 7 else 6) = n
    exact Grown.trans (t := { s with otp := { s.otp with progBusy := false, progResult := 5, progReason := n } })
      (Grown.of_kept ⟨rfl, rfl⟩) (grown_blow _ b lvl)
  | done lvl =>
    unfold pulseEnd
    dsimp only
    generalize (if fuseLevel (blow s b lvl) b = 3 then 1 else if fuseLevel (blow s b lvl) b = 0 then 3 else 2) = n
    split <;> exact (grown_blow s b lvl).trans (Grown.of_kept ⟨rfl, rfl⟩)

theorem grown_openFuse (l : List OpenPulse) (acc : Bool × State) (q : Nat × Nat) :
    Grown acc.2 (openFuse l acc q).2 := by
  obtain ⟨ok, s⟩ := acc
  unfold openFuse
  dsimp only
  split
  · exact Grown.refl _
  · have h0 := kept_openPulse s l q.2
    generalize openPulse s l q.2 = r at h0 ⊢
    obtain ⟨p, t⟩ := r
    have h : Grown s t := Grown.of_kept h0
    dsimp only
    split
    · exact h.trans (grown_pulseEnd _ _ _ _)
    · exact h.trans (Grown.of_kept ⟨rfl, rfl⟩)

theorem grown_openFuses (p : List OpenPulse) (l : List (Nat × Nat)) (acc : Bool × State) :
    Grown acc.2 (l.foldl (openFuse p) acc).2 := by
  induction l generalizing acc with
  | nil => exact Grown.refl _
  | cons q t ih => exact (grown_openFuse p acc q).trans (ih _)

theorem grown_debugGo (s : State) (pulses : List OpenPulse) : Grown s (debugGo s pulses) := by
  unfold debugGo
  split
  · split
    · refine Grown.trans ?_ ((grown_openFuses pulses openingBits.zipIdx (true, _)).trans
        (Grown.of_kept (kept_openEnd _ _)))
      exact Grown.of_kept ⟨rfl, rfl⟩
    · refine Grown.of_kept ⟨?_, ?_⟩ <;> simp
  · exact Grown.refl _

theorem grown_regWrite (s : State) (src : Src) (a : Nat) (v : Word) : Grown s (regWrite s src a v) := by
  unfold regWrite
  extract_lets s1
  have h1 : Grown s s1 := Grown.of_kept (kept_writeReg _ _ _ _)
  split
  · exact h1.trans (grown_debugGo _ _)
  · exact h1

theorem grown_whenAwake (s : State) (f : State → State) (h : Grown s (f s)) : Grown s (whenAwake s f) := by
  unfold whenAwake
  split
  · exact h
  · exact h
  · exact Grown.refl _

theorem grown_whenReg (s : State) (f : State → State) (h : Grown s (f s)) : Grown s (whenReg s f) := by
  unfold whenReg
  split
  · exact h
  · exact h
  · exact h
  · exact Grown.refl _

theorem grown_writeGroups (n : Nat) (bs : List Byte) (s : State) : Grown s (writeGroups n bs s) := by
  induction n generalizing bs s with
  | zero => exact Grown.refl _
  | succ n ih =>
    unfold writeGroups
    split
    · exact Grown.refl _
    · exact Grown.of_kept ⟨by simp, by simp⟩
    · exact Grown.of_kept ⟨by simp, by simp⟩
    · exact Grown.of_kept ⟨by simp, by simp⟩
    · extract_lets p s1
      refine (grown_regWrite _ _ _ _ : Grown s s1).trans (grown_whenReg _ _ ?_)
      exact (Grown.of_kept (kept_setPtr _ _)).trans (ih _ _)

theorem grown_doRegWr (s : State) (h : RxHdr) (addr count : Nat) (words : List Word) :
    Grown s (doRegWr s h addr count words) := by
  have f : ∀ (l : List (Word × Nat)) (s : State), Grown s (l.foldl (fun s (q : Word × Nat) =>
      whenAwake s fun s => regWrite s .nlk (addr + 4 * q.2) q.1) s) := by
    intro l
    induction l with
    | nil => exact fun s => Grown.refl _
    | cons q t ih => exact fun s => (grown_whenAwake _ _ (grown_regWrite _ _ _ _)).trans (ih _)
  unfold doRegWr
  split
  · exact (f _ s).trans (grown_whenAwake _ _ (Grown.of_kept ⟨by simp, by simp⟩))
  · exact Grown.of_kept ⟨by simp, by simp⟩

theorem grown_doReq (s : State) (i : Instr) : Grown s (doReq s i) := by
  unfold doReq
  split
  · exact Grown.of_kept ⟨by simp, by simp⟩
  · exact grown_doRegWr _ _ _ _ _
  all_goals refine Grown.of_kept ?_
  · constructor <;> simp
  · constructor <;> simp
  · split
    · constructor <;> simp
    · exact kept_withSense _ _ _ (fun u => kept_blockArrives u _)
  · constructor <;> simp
  · constructor <;> simp
  · constructor <;> simp
  · split <;> constructor <;> simp
  · constructor <;> simp
  · constructor <;> simp

theorem grown_pump (n q : Nat) (s : State) : Grown s (pump n q s) := by
  induction n generalizing s with
  | zero => exact Grown.refl _
  | succ n ih =>
    unfold pump
    extract_lets x
    split
    · extract_lets m s1 rest __src
      split
      · have h1 : Grown s s1 := Grown.of_kept ⟨by simp [s1], by simp [s1]⟩
        exact (h1.trans (Grown.of_kept ⟨by simp, by simp⟩)).trans (ih _)
      · exact Grown.refl _
    · split
      · exact Grown.refl _
      · split
        · exact Grown.trans (Grown.of_kept ⟨by simp, by simp⟩) (ih _)
        · split
          · extract_lets s1 s2
            have h1 : Grown s s1 := Grown.of_kept ⟨by simp [s1], by simp [s1]⟩
            have h2 : Grown s1 s2 := by
              simp only [s2]
              split
              · exact Grown.of_kept ⟨by simp, by simp⟩
              · exact grown_doReq _ _
            split
            · exact (h1.trans h2).trans (ih s2)
            · exact h1.trans h2
          · exact Grown.refl _

theorem grown_pumpAll (s : State) (q : Nat) : Grown s (pumpAll s q) := grown_pump _ _ _

theorem grown_pumpLinks (s : State) : Grown s (pumpLinks s) := (grown_pumpAll s 0).trans (grown_pumpAll _ 1)

theorem grown_receive (i : Instr) (h : RxHdr) (s : State) : Grown s (receive i h s) := by
  unfold receive
  split
  · extract_lets q x big s1 __src s2
    split
    · exact Grown.of_kept ⟨by simp, by simp⟩
    · split
      · exact Grown.of_kept ⟨by simp, by simp⟩
      · split
        · exact Grown.of_kept ⟨by simp, by simp⟩
        · have h1 : Grown s s1 := by
            simp only [s1]
            split
            · exact Grown.of_kept ⟨by simp, by simp⟩
            · exact Grown.refl _
          have h2 : Grown s1 s2 := Grown.of_kept ⟨rfl, rfl⟩
          split
          · exact Grown.of_kept ⟨by simp, by simp⟩
          · exact ((h1.trans h2).trans (Grown.of_kept ⟨by simp, by simp⟩)).trans (grown_pumpAll _ _)
  · exact Grown.refl _

theorem kept_bulkFault (s : State) (ofs : Nat) :
    (bulkFault s ofs).otp.fuse = s.otp.fuse ∧ (bulkFault s ofs).pending = s.pending := by
  simp [bulkFault]
@[simp] theorem fuse_bulkFault (s : State) (ofs : Nat) :
    (bulkFault s ofs).otp.fuse = s.otp.fuse := (kept_bulkFault s ofs).1
@[simp] theorem pending_bulkFault (s : State) (ofs : Nat) :
    (bulkFault s ofs).pending = s.pending := (kept_bulkFault s ofs).2

theorem kept_loseSnap (s : State) (slot : Nat) (i : Nat) :
    (loseSnap s slot i).otp.fuse = s.otp.fuse ∧ (loseSnap s slot i).pending = s.pending := by
  simp [loseSnap, apply_ite State.otp, apply_ite Otp.fuse, apply_ite State.pending, fuse_foldl, pending_foldl]
@[simp] theorem fuse_loseSnap (s : State) (slot : Nat) (i : Nat) :
    (loseSnap s slot i).otp.fuse = s.otp.fuse := (kept_loseSnap s slot i).1
@[simp] theorem pending_loseSnap (s : State) (slot : Nat) (i : Nat) :
    (loseSnap s slot i).pending = s.pending := (kept_loseSnap s slot i).2

theorem kept_markCut (s : State) (key : Nat) (frame : Nat) :
    (markCut s key frame).otp.fuse = s.otp.fuse ∧ (markCut s key frame).pending = s.pending := by
  simp [markCut, apply_ite State.otp, apply_ite Otp.fuse, apply_ite State.pending, fuse_foldl, pending_foldl]
@[simp] theorem fuse_markCut (s : State) (key : Nat) (frame : Nat) :
    (markCut s key frame).otp.fuse = s.otp.fuse := (kept_markCut s key frame).1
@[simp] theorem pending_markCut (s : State) (key : Nat) (frame : Nat) :
    (markCut s key frame).pending = s.pending := (kept_markCut s key frame).2

theorem kept_losePacket (s : State) (pos : Nat) :
    (losePacket s pos).otp.fuse = s.otp.fuse ∧ (losePacket s pos).pending = s.pending := by
  unfold losePacket; dsimp only; (repeat' split) <;> simp [fuse_foldl, pending_foldl]
@[simp] theorem fuse_losePacket (s : State) (pos : Nat) :
    (losePacket s pos).otp.fuse = s.otp.fuse := (kept_losePacket s pos).1
@[simp] theorem pending_losePacket (s : State) (pos : Nat) :
    (losePacket s pos).pending = s.pending := (kept_losePacket s pos).2

theorem kept_loseCollar (s : State) (slot : Nat) :
    (loseCollar s slot).otp.fuse = s.otp.fuse ∧ (loseCollar s slot).pending = s.pending := by
  unfold loseCollar; dsimp only; (repeat' split) <;> simp
@[simp] theorem fuse_loseCollar (s : State) (slot : Nat) :
    (loseCollar s slot).otp.fuse = s.otp.fuse := (kept_loseCollar s slot).1
@[simp] theorem pending_loseCollar (s : State) (slot : Nat) :
    (loseCollar s slot).pending = s.pending := (kept_loseCollar s slot).2

theorem kept_loseBurst (s : State) (t : Nat) :
    (loseBurst s t).otp.fuse = s.otp.fuse ∧ (loseBurst s t).pending = s.pending := by
  simp [loseBurst, apply_ite State.otp, apply_ite State.pending]
@[simp] theorem fuse_loseBurst (s : State) (t : Nat) :
    (loseBurst s t).otp.fuse = s.otp.fuse := (kept_loseBurst s t).1
@[simp] theorem pending_loseBurst (s : State) (t : Nat) :
    (loseBurst s t).pending = s.pending := (kept_loseBurst s t).2

theorem kept_freshRetrain (s : State) (l : Nat) :
    (freshRetrain s l).otp.fuse = s.otp.fuse ∧ (freshRetrain s l).pending = s.pending := by
  simp [freshRetrain]
@[simp] theorem fuse_freshRetrain (s : State) (l : Nat) :
    (freshRetrain s l).otp.fuse = s.otp.fuse := (kept_freshRetrain s l).1
@[simp] theorem pending_freshRetrain (s : State) (l : Nat) :
    (freshRetrain s l).pending = s.pending := (kept_freshRetrain s l).2

theorem kept_loseCue (s : State) (n : Nat) (cseq : Nat) :
    (loseCue s n cseq).otp.fuse = s.otp.fuse ∧ (loseCue s n cseq).pending = s.pending := by
  simp [loseCue]
@[simp] theorem fuse_loseCue (s : State) (n : Nat) (cseq : Nat) :
    (loseCue s n cseq).otp.fuse = s.otp.fuse := (kept_loseCue s n cseq).1
@[simp] theorem pending_loseCue (s : State) (n : Nat) (cseq : Nat) :
    (loseCue s n cseq).pending = s.pending := (kept_loseCue s n cseq).2

theorem kept_loseStat (s : State) (b : Nat) (tile : Option Nat) :
    (loseStat s b tile).otp.fuse = s.otp.fuse ∧ (loseStat s b tile).pending = s.pending := by
  unfold loseStat; dsimp only; (repeat' split) <;> simp [fuse_foldl, pending_foldl]
@[simp] theorem fuse_loseStat (s : State) (b : Nat) (tile : Option Nat) :
    (loseStat s b tile).otp.fuse = s.otp.fuse := (kept_loseStat s b tile).1
@[simp] theorem pending_loseStat (s : State) (b : Nat) (tile : Option Nat) :
    (loseStat s b tile).pending = s.pending := (kept_loseStat s b tile).2

theorem kept_uncorrectable (s : State) (loc : UeLoc) :
    (uncorrectable s loc).otp.fuse = s.otp.fuse ∧ (uncorrectable s loc).pending = s.pending := by
  unfold uncorrectable; dsimp only; (repeat' split) <;> simp [fuse_foldl, pending_foldl]
@[simp] theorem fuse_uncorrectable (s : State) (loc : UeLoc) :
    (uncorrectable s loc).otp.fuse = s.otp.fuse := (kept_uncorrectable s loc).1
@[simp] theorem pending_uncorrectable (s : State) (loc : UeLoc) :
    (uncorrectable s loc).pending = s.pending := (kept_uncorrectable s loc).2

end Sys2Proof.Laws
end

