-- ==== Sys2Proof/Laws/Edge.lean ====
section
/-!
SUPPORT. What the operations of a tick edge leave alone between the commit and the open tick: the
committed registers, the settings ID, the timebase, the phase and the tier.  One lemma per operation.
-/

namespace Sys2Proof.Laws

open Sys2Proof.Machine

theorem edge_fold_act {α : Type} (f : State → α → State) (h : ∀ s x, (f s x).regs.act = s.regs.act)
    (l : List α) (s : State) : (l.foldl f s).regs.act = s.regs.act := by
  induction l generalizing s with
  | nil => rfl
  | cons x t ih => exact (ih (f s x)).trans (h s x)

theorem edge_fold_prev {α : Type} (f : State → α → State) (h : ∀ s x, (f s x).regs.prev = s.regs.prev)
    (l : List α) (s : State) : (l.foldl f s).regs.prev = s.regs.prev := by
  induction l generalizing s with
  | nil => rfl
  | cons x t ih => exact (ih (f s x)).trans (h s x)

theorem edge_fold_settingsId {α : Type} (f : State → α → State) (h : ∀ s x, (f s x).regs.settingsId = s.regs.settingsId)
    (l : List α) (s : State) : (l.foldl f s).regs.settingsId = s.regs.settingsId := by
  induction l generalizing s with
  | nil => rfl
  | cons x t ih => exact (ih (f s x)).trans (h s x)

theorem edge_fold_time {α : Type} (f : State → α → State) (h : ∀ s x, (f s x).time = s.time)
    (l : List α) (s : State) : (l.foldl f s).time = s.time := by
  induction l generalizing s with
  | nil => rfl
  | cons x t ih => exact (ih (f s x)).trans (h s x)

theorem edge_fold_phase {α : Type} (f : State → α → State) (h : ∀ s x, (f s x).sys.phase = s.sys.phase)
    (l : List α) (s : State) : (l.foldl f s).sys.phase = s.sys.phase := by
  induction l generalizing s with
  | nil => rfl
  | cons x t ih => exact (ih (f s x)).trans (h s x)

theorem edge_fold_tier {α : Type} (f : State → α → State) (h : ∀ s x, (f s x).sys.tier = s.sys.tier)
    (l : List α) (s : State) : (l.foldl f s).sys.tier = s.sys.tier := by
  induction l generalizing s with
  | nil => rfl
  | cons x t ih => exact (ih (f s x)).trans (h s x)


theorem edge_setReg (s : State) (a : Nat) (w : Word) :
    (setReg s a w).regs.act = s.regs.act ∧
    (setReg s a w).regs.prev = s.regs.prev ∧
    (setReg s a w).regs.settingsId = s.regs.settingsId ∧
    (setReg s a w).time = s.time ∧
    (setReg s a w).sys.phase = s.sys.phase ∧
    (setReg s a w).sys.tier = s.sys.tier := by
  exact ⟨rfl, rfl, rfl, rfl, rfl, rfl⟩
@[simp] theorem edge_settingsId_setReg (s : State) (a : Nat) (w : Word) : (setReg s a w).regs.settingsId = s.regs.settingsId :=
  (edge_setReg s a w).2.2.1
@[simp] theorem edge_phase_setReg (s : State) (a : Nat) (w : Word) : (setReg s a w).sys.phase = s.sys.phase :=
  (edge_setReg s a w).2.2.2.2.1
@[simp] theorem edge_tier_setReg (s : State) (a : Nat) (w : Word) : (setReg s a w).sys.tier = s.sys.tier :=
  (edge_setReg s a w).2.2.2.2.2

theorem edge_setRegN (s : State) (a v : Nat) :
    (setRegN s a v).regs.act = s.regs.act ∧
    (setRegN s a v).regs.prev = s.regs.prev ∧
    (setRegN s a v).regs.settingsId = s.regs.settingsId ∧
    (setRegN s a v).time = s.time ∧
    (setRegN s a v).sys.phase = s.sys.phase ∧
    (setRegN s a v).sys.tier = s.sys.tier := by
  exact ⟨rfl, rfl, rfl, rfl, rfl, rfl⟩
@[simp] theorem edge_act_setRegN (s : State) (a v : Nat) : (setRegN s a v).regs.act = s.regs.act :=
  (edge_setRegN s a v).1
@[simp] theorem edge_prev_setRegN (s : State) (a v : Nat) : (setRegN s a v).regs.prev = s.regs.prev :=
  (edge_setRegN s a v).2.1
@[simp] theorem edge_settingsId_setRegN (s : State) (a v : Nat) : (setRegN s a v).regs.settingsId = s.regs.settingsId :=
  (edge_setRegN s a v).2.2.1
@[simp] theorem edge_phase_setRegN (s : State) (a v : Nat) : (setRegN s a v).sys.phase = s.sys.phase :=
  (edge_setRegN s a v).2.2.2.2.1
@[simp] theorem edge_tier_setRegN (s : State) (a v : Nat) : (setRegN s a v).sys.tier = s.sys.tier :=
  (edge_setRegN s a v).2.2.2.2.2

theorem edge_setFld (s : State) (a lo n v : Nat) :
    (setFld s a lo n v).regs.act = s.regs.act ∧
    (setFld s a lo n v).regs.prev = s.regs.prev ∧
    (setFld s a lo n v).regs.settingsId = s.regs.settingsId ∧
    (setFld s a lo n v).time = s.time ∧
    (setFld s a lo n v).sys.phase = s.sys.phase ∧
    (setFld s a lo n v).sys.tier = s.sys.tier := by
  exact ⟨rfl, rfl, rfl, rfl, rfl, rfl⟩
@[simp] theorem edge_act_setFld (s : State) (a lo n v : Nat) : (setFld s a lo n v).regs.act = s.regs.act :=
  (edge_setFld s a lo n v).1
@[simp] theorem edge_prev_setFld (s : State) (a lo n v : Nat) : (setFld s a lo n v).regs.prev = s.regs.prev :=
  (edge_setFld s a lo n v).2.1
@[simp] theorem edge_settingsId_setFld (s : State) (a lo n v : Nat) : (setFld s a lo n v).regs.settingsId = s.regs.settingsId :=
  (edge_setFld s a lo n v).2.2.1
@[simp] theorem edge_phase_setFld (s : State) (a lo n v : Nat) : (setFld s a lo n v).sys.phase = s.sys.phase :=
  (edge_setFld s a lo n v).2.2.2.2.1
@[simp] theorem edge_tier_setFld (s : State) (a lo n v : Nat) : (setFld s a lo n v).sys.tier = s.sys.tier :=
  (edge_setFld s a lo n v).2.2.2.2.2

theorem edge_bumpBy (s : State) (a n : Nat) :
    (bumpBy s a n).regs.act = s.regs.act ∧
    (bumpBy s a n).regs.prev = s.regs.prev ∧
    (bumpBy s a n).regs.settingsId = s.regs.settingsId ∧
    (bumpBy s a n).time = s.time ∧
    (bumpBy s a n).sys.phase = s.sys.phase ∧
    (bumpBy s a n).sys.tier = s.sys.tier := by
  exact ⟨rfl, rfl, rfl, rfl, rfl, rfl⟩
@[simp] theorem edge_act_bumpBy (s : State) (a n : Nat) : (bumpBy s a n).regs.act = s.regs.act :=
  (edge_bumpBy s a n).1
@[simp] theorem edge_prev_bumpBy (s : State) (a n : Nat) : (bumpBy s a n).regs.prev = s.regs.prev :=
  (edge_bumpBy s a n).2.1
@[simp] theorem edge_settingsId_bumpBy (s : State) (a n : Nat) : (bumpBy s a n).regs.settingsId = s.regs.settingsId :=
  (edge_bumpBy s a n).2.2.1
@[simp] theorem edge_phase_bumpBy (s : State) (a n : Nat) : (bumpBy s a n).sys.phase = s.sys.phase :=
  (edge_bumpBy s a n).2.2.2.2.1
@[simp] theorem edge_tier_bumpBy (s : State) (a n : Nat) : (bumpBy s a n).sys.tier = s.sys.tier :=
  (edge_bumpBy s a n).2.2.2.2.2

theorem edge_bump (s : State) (a : Nat) :
    (bump s a).regs.act = s.regs.act ∧
    (bump s a).regs.prev = s.regs.prev ∧
    (bump s a).regs.settingsId = s.regs.settingsId ∧
    (bump s a).time = s.time ∧
    (bump s a).sys.phase = s.sys.phase ∧
    (bump s a).sys.tier = s.sys.tier := by
  exact ⟨rfl, rfl, rfl, rfl, rfl, rfl⟩
@[simp] theorem edge_settingsId_bump (s : State) (a : Nat) : (bump s a).regs.settingsId = s.regs.settingsId :=
  (edge_bump s a).2.2.1
@[simp] theorem edge_phase_bump (s : State) (a : Nat) : (bump s a).sys.phase = s.sys.phase :=
  (edge_bump s a).2.2.2.2.1
@[simp] theorem edge_tier_bump (s : State) (a : Nat) : (bump s a).sys.tier = s.sys.tier :=
  (edge_bump s a).2.2.2.2.2

theorem edge_enqueue (s : State) (p : Pkt) :
    (enqueue s p).regs.act = s.regs.act ∧
    (enqueue s p).regs.prev = s.regs.prev ∧
    (enqueue s p).regs.settingsId = s.regs.settingsId ∧
    (enqueue s p).time = s.time ∧
    (enqueue s p).sys.phase = s.sys.phase ∧
    (enqueue s p).sys.tier = s.sys.tier := by
  exact ⟨rfl, rfl, rfl, rfl, rfl, rfl⟩
@[simp] theorem edge_act_enqueue (s : State) (p : Pkt) : (enqueue s p).regs.act = s.regs.act :=
  (edge_enqueue s p).1
@[simp] theorem edge_prev_enqueue (s : State) (p : Pkt) : (enqueue s p).regs.prev = s.regs.prev :=
  (edge_enqueue s p).2.1
@[simp] theorem edge_settingsId_enqueue (s : State) (p : Pkt) : (enqueue s p).regs.settingsId = s.regs.settingsId :=
  (edge_enqueue s p).2.2.1
@[simp] theorem edge_phase_enqueue (s : State) (p : Pkt) : (enqueue s p).sys.phase = s.sys.phase :=
  (edge_enqueue s p).2.2.2.2.1
@[simp] theorem edge_tier_enqueue (s : State) (p : Pkt) : (enqueue s p).sys.tier = s.sys.tier :=
  (edge_enqueue s p).2.2.2.2.2

theorem edge_setStreamFrame (s : State) (i : Nat) (f : StreamFrame) :
    (setStreamFrame s i f).regs.act = s.regs.act ∧
    (setStreamFrame s i f).regs.prev = s.regs.prev ∧
    (setStreamFrame s i f).regs.settingsId = s.regs.settingsId ∧
    (setStreamFrame s i f).time = s.time ∧
    (setStreamFrame s i f).sys.phase = s.sys.phase ∧
    (setStreamFrame s i f).sys.tier = s.sys.tier := by
  exact ⟨rfl, rfl, rfl, rfl, rfl, rfl⟩
@[simp] theorem edge_act_setStreamFrame (s : State) (i : Nat) (f : StreamFrame) : (setStreamFrame s i f).regs.act = s.regs.act :=
  (edge_setStreamFrame s i f).1
@[simp] theorem edge_prev_setStreamFrame (s : State) (i : Nat) (f : StreamFrame) : (setStreamFrame s i f).regs.prev = s.regs.prev :=
  (edge_setStreamFrame s i f).2.1
@[simp] theorem edge_settingsId_setStreamFrame (s : State) (i : Nat) (f : StreamFrame) : (setStreamFrame s i f).regs.settingsId = s.regs.settingsId :=
  (edge_setStreamFrame s i f).2.2.1
@[simp] theorem edge_phase_setStreamFrame (s : State) (i : Nat) (f : StreamFrame) : (setStreamFrame s i f).sys.phase = s.sys.phase :=
  (edge_setStreamFrame s i f).2.2.2.2.1
@[simp] theorem edge_tier_setStreamFrame (s : State) (i : Nat) (f : StreamFrame) : (setStreamFrame s i f).sys.tier = s.sys.tier :=
  (edge_setStreamFrame s i f).2.2.2.2.2

theorem edge_pushTail (s : State) (key : Nat) (last : Bool) :
    (pushTail s key last).regs.act = s.regs.act ∧
    (pushTail s key last).regs.prev = s.regs.prev ∧
    (pushTail s key last).regs.settingsId = s.regs.settingsId ∧
    (pushTail s key last).time = s.time ∧
    (pushTail s key last).sys.phase = s.sys.phase ∧
    (pushTail s key last).sys.tier = s.sys.tier := by
  refine ⟨?_, ?_, ?_, ?_, ?_, ?_⟩ <;>
    (unfold pushTail; dsimp only; (repeat' split) <;> simp)
@[simp] theorem edge_act_pushTail (s : State) (key : Nat) (last : Bool) : (pushTail s key last).regs.act = s.regs.act :=
  (edge_pushTail s key last).1
@[simp] theorem edge_prev_pushTail (s : State) (key : Nat) (last : Bool) : (pushTail s key last).regs.prev = s.regs.prev :=
  (edge_pushTail s key last).2.1
@[simp] theorem edge_settingsId_pushTail (s : State) (key : Nat) (last : Bool) : (pushTail s key last).regs.settingsId = s.regs.settingsId :=
  (edge_pushTail s key last).2.2.1
@[simp] theorem edge_phase_pushTail (s : State) (key : Nat) (last : Bool) : (pushTail s key last).sys.phase = s.sys.phase :=
  (edge_pushTail s key last).2.2.2.2.1
@[simp] theorem edge_tier_pushTail (s : State) (key : Nat) (last : Bool) : (pushTail s key last).sys.tier = s.sys.tier :=
  (edge_pushTail s key last).2.2.2.2.2

theorem edge_endFrameOf (s : State) (key stream frame num state : Nat) :
    (endFrameOf s key stream frame num state).regs.act = s.regs.act ∧
    (endFrameOf s key stream frame num state).regs.prev = s.regs.prev ∧
    (endFrameOf s key stream frame num state).regs.settingsId = s.regs.settingsId ∧
    (endFrameOf s key stream frame num state).time = s.time ∧
    (endFrameOf s key stream frame num state).sys.phase = s.sys.phase ∧
    (endFrameOf s key stream frame num state).sys.tier = s.sys.tier := by
  refine ⟨?_, ?_, ?_, ?_, ?_, ?_⟩ <;> simp [endFrameOf]
@[simp] theorem edge_act_endFrameOf (s : State) (key stream frame num state : Nat) : (endFrameOf s key stream frame num state).regs.act = s.regs.act :=
  (edge_endFrameOf s key stream frame num state).1
@[simp] theorem edge_prev_endFrameOf (s : State) (key stream frame num state : Nat) : (endFrameOf s key stream frame num state).regs.prev = s.regs.prev :=
  (edge_endFrameOf s key stream frame num state).2.1
@[simp] theorem edge_settingsId_endFrameOf (s : State) (key stream frame num state : Nat) : (endFrameOf s key stream frame num state).regs.settingsId = s.regs.settingsId :=
  (edge_endFrameOf s key stream frame num state).2.2.1
@[simp] theorem edge_phase_endFrameOf (s : State) (key stream frame num state : Nat) : (endFrameOf s key stream frame num state).sys.phase = s.sys.phase :=
  (edge_endFrameOf s key stream frame num state).2.2.2.2.1
@[simp] theorem edge_tier_endFrameOf (s : State) (key stream frame num state : Nat) : (endFrameOf s key stream frame num state).sys.tier = s.sys.tier :=
  (edge_endFrameOf s key stream frame num state).2.2.2.2.2

theorem edge_endMeta (s : State) (stream : Nat) (frame : Nat) :
    (endMeta s stream frame).regs.act = s.regs.act ∧
    (endMeta s stream frame).regs.prev = s.regs.prev ∧
    (endMeta s stream frame).regs.settingsId = s.regs.settingsId ∧
    (endMeta s stream frame).time = s.time ∧
    (endMeta s stream frame).sys.phase = s.sys.phase ∧
    (endMeta s stream frame).sys.tier = s.sys.tier := by
  refine ⟨?_, ?_, ?_, ?_, ?_, ?_⟩ <;>
    (simp [endMeta, apply_ite State.regs, apply_ite Regs.act, apply_ite Regs.prev, apply_ite Regs.settingsId, apply_ite State.time, apply_ite State.sys])
@[simp] theorem edge_act_endMeta (s : State) (stream : Nat) (frame : Nat) : (endMeta s stream frame).regs.act = s.regs.act :=
  (edge_endMeta s stream frame).1
@[simp] theorem edge_prev_endMeta (s : State) (stream : Nat) (frame : Nat) : (endMeta s stream frame).regs.prev = s.regs.prev :=
  (edge_endMeta s stream frame).2.1
@[simp] theorem edge_settingsId_endMeta (s : State) (stream : Nat) (frame : Nat) : (endMeta s stream frame).regs.settingsId = s.regs.settingsId :=
  (edge_endMeta s stream frame).2.2.1
@[simp] theorem edge_phase_endMeta (s : State) (stream : Nat) (frame : Nat) : (endMeta s stream frame).sys.phase = s.sys.phase :=
  (edge_endMeta s stream frame).2.2.2.2.1
@[simp] theorem edge_tier_endMeta (s : State) (stream : Nat) (frame : Nat) : (endMeta s stream frame).sys.tier = s.sys.tier :=
  (edge_endMeta s stream frame).2.2.2.2.2

theorem edge_queueRecord (s : State) (stream frame sub : Nat) (bytes : List Byte) (eof : Bool) :
    (queueRecord s stream frame sub bytes eof).regs.act = s.regs.act ∧
    (queueRecord s stream frame sub bytes eof).regs.prev = s.regs.prev ∧
    (queueRecord s stream frame sub bytes eof).regs.settingsId = s.regs.settingsId ∧
    (queueRecord s stream frame sub bytes eof).time = s.time ∧
    (queueRecord s stream frame sub bytes eof).sys.phase = s.sys.phase ∧
    (queueRecord s stream frame sub bytes eof).sys.tier = s.sys.tier := by
  refine ⟨?_, ?_, ?_, ?_, ?_, ?_⟩ <;> (unfold queueRecord; dsimp only; (repeat' split) <;> simp)
@[simp] theorem edge_act_queueRecord (s : State) (stream frame sub : Nat) (bytes : List Byte) (eof : Bool) : (queueRecord s stream frame sub bytes eof).regs.act = s.regs.act :=
  (edge_queueRecord s stream frame sub bytes eof).1
@[simp] theorem edge_prev_queueRecord (s : State) (stream frame sub : Nat) (bytes : List Byte) (eof : Bool) : (queueRecord s stream frame sub bytes eof).regs.prev = s.regs.prev :=
  (edge_queueRecord s stream frame sub bytes eof).2.1
@[simp] theorem edge_settingsId_queueRecord (s : State) (stream frame sub : Nat) (bytes : List Byte) (eof : Bool) : (queueRecord s stream frame sub bytes eof).regs.settingsId = s.regs.settingsId :=
  (edge_queueRecord s stream frame sub bytes eof).2.2.1
@[simp] theorem edge_phase_queueRecord (s : State) (stream frame sub : Nat) (bytes : List Byte) (eof : Bool) : (queueRecord s stream frame sub bytes eof).sys.phase = s.sys.phase :=
  (edge_queueRecord s stream frame sub bytes eof).2.2.2.2.1
@[simp] theorem edge_tier_queueRecord (s : State) (stream frame sub : Nat) (bytes : List Byte) (eof : Bool) : (queueRecord s stream frame sub bytes eof).sys.tier = s.sys.tier :=
  (edge_queueRecord s stream frame sub bytes eof).2.2.2.2.2

theorem edge_barkEvent (s : State) (code : Nat) :
    (barkEvent s code).regs.act = s.regs.act ∧
    (barkEvent s code).regs.prev = s.regs.prev ∧
    (barkEvent s code).regs.settingsId = s.regs.settingsId ∧
    (barkEvent s code).time = s.time ∧
    (barkEvent s code).sys.phase = s.sys.phase ∧
    (barkEvent s code).sys.tier = s.sys.tier := by
  exact ⟨rfl, rfl, rfl, rfl, rfl, rfl⟩
@[simp] theorem edge_act_barkEvent (s : State) (code : Nat) : (barkEvent s code).regs.act = s.regs.act :=
  (edge_barkEvent s code).1
@[simp] theorem edge_prev_barkEvent (s : State) (code : Nat) : (barkEvent s code).regs.prev = s.regs.prev :=
  (edge_barkEvent s code).2.1
@[simp] theorem edge_settingsId_barkEvent (s : State) (code : Nat) : (barkEvent s code).regs.settingsId = s.regs.settingsId :=
  (edge_barkEvent s code).2.2.1
@[simp] theorem edge_phase_barkEvent (s : State) (code : Nat) : (barkEvent s code).sys.phase = s.sys.phase :=
  (edge_barkEvent s code).2.2.2.2.1
@[simp] theorem edge_tier_barkEvent (s : State) (code : Nat) : (barkEvent s code).sys.tier = s.sys.tier :=
  (edge_barkEvent s code).2.2.2.2.2

theorem edge_logWrite (s : State) (x : LogEntry) :
    (logWrite s x).regs.act = s.regs.act ∧
    (logWrite s x).regs.prev = s.regs.prev ∧
    (logWrite s x).regs.settingsId = s.regs.settingsId ∧
    (logWrite s x).time = s.time ∧
    (logWrite s x).sys.phase = s.sys.phase ∧
    (logWrite s x).sys.tier = s.sys.tier := by
  have h : (logWrite s x).regs.act = s.regs.act ∧ (logWrite s x).regs.prev = s.regs.prev ∧
      (logWrite s x).regs.settingsId = s.regs.settingsId := by
    unfold logWrite
    simp only
    split <;> split <;> exact ⟨rfl, rfl, rfl⟩
  exact ⟨h.1, h.2.1, h.2.2, logWrite_time _ _, by rw [logWrite_sys], by rw [logWrite_sys]⟩
@[simp] theorem edge_act_logWrite (s : State) (x : LogEntry) : (logWrite s x).regs.act = s.regs.act :=
  (edge_logWrite s x).1
@[simp] theorem edge_prev_logWrite (s : State) (x : LogEntry) : (logWrite s x).regs.prev = s.regs.prev :=
  (edge_logWrite s x).2.1
@[simp] theorem edge_settingsId_logWrite (s : State) (x : LogEntry) : (logWrite s x).regs.settingsId = s.regs.settingsId :=
  (edge_logWrite s x).2.2.1
@[simp] theorem edge_phase_logWrite (s : State) (x : LogEntry) : (logWrite s x).sys.phase = s.sys.phase :=
  (edge_logWrite s x).2.2.2.2.1
@[simp] theorem edge_tier_logWrite (s : State) (x : LogEntry) : (logWrite s x).sys.tier = s.sys.tier :=
  (edge_logWrite s x).2.2.2.2.2

/-- What a tick edge leaves alone between the commit and the open tick is as it was. -/
def EdgeKept (s t : State) : Prop :=
  t.regs.act = s.regs.act ∧ t.regs.prev = s.regs.prev ∧ t.regs.settingsId = s.regs.settingsId ∧
    t.time = s.time ∧ t.sys.phase = s.sys.phase ∧ t.sys.tier = s.sys.tier

theorem EdgeKept.trans {s t u : State} (h : EdgeKept s t) (g : EdgeKept t u) : EdgeKept s u :=
  ⟨g.1.trans h.1, g.2.1.trans h.2.1, g.2.2.1.trans h.2.2.1, g.2.2.2.1.trans h.2.2.2.1,
    g.2.2.2.2.1.trans h.2.2.2.2.1, g.2.2.2.2.2.trans h.2.2.2.2.2⟩

theorem EdgeKept.ite {p : Prop} [Decidable p] {s t u : State} (h : EdgeKept s t) (g : EdgeKept s u) :
    EdgeKept s (if p then t else u) := by
  split
  · exact h
  · exact g

theorem EdgeKept.queue {s t : State} (h : EdgeKept s t) (k f n : Nat) (bs : List Byte) (e : Bool) :
    EdgeKept s (queueRecord t k f n bs e) :=
  h.trans (by simp [EdgeKept])

theorem EdgeKept.bark {s t : State} (h : EdgeKept s t) (p : Prop) [Decidable p] (c : Nat) :
    EdgeKept s (if p then barkEvent t c else t) :=
  .ite (h.trans (by simp [EdgeKept])) h

theorem edge_logItem (s : State) (i : LogItem) : EdgeKept s (logItem s i) := by
  unfold logItem
  extract_lets sec cnts code n log2 s2 e es s4
  have h2 : EdgeKept s s2 := ⟨rfl, rfl, rfl, rfl, rfl, rfl⟩
  have h3 := EdgeKept.queue (h2.trans (edge_logWrite s2 e)) 10 e.frame 0 e.bytes false
  have h4 : EdgeKept s s4 := h3.trans (by simp [s4, EdgeKept])
  exact .ite (.bark h4 _ _) ⟨rfl, rfl, rfl, rfl, rfl, rfl⟩

theorem edge_logEvent (s : State) (b k v : Nat) (u : Bool) (x y z : Nat) :
    EdgeKept s (logEvent s b k v u x y z) := by
  have mark : EdgeKept s (if u then { s with sys := { s.sys with uncorr := true } } else s) :=
    .ite ⟨rfl, rfl, rfl, rfl, rfl, rfl⟩ ⟨rfl, rfl, rfl, rfl, rfl, rfl⟩
  unfold logEvent
  extract_lets i s1 s2
  have h2 : EdgeKept s s2 := mark
  split
  · exact h2.trans ⟨rfl, rfl, rfl, rfl, rfl, rfl⟩
  · exact h2.trans (edge_logItem _ _)
@[simp] theorem edge_act_logEvent (s : State) (b k v : Nat) (u : Bool) (x y z : Nat) : (logEvent s b k v u x y z).regs.act = s.regs.act :=
  (edge_logEvent s b k v u x y z).1
@[simp] theorem edge_prev_logEvent (s : State) (b k v : Nat) (u : Bool) (x y z : Nat) : (logEvent s b k v u x y z).regs.prev = s.regs.prev :=
  (edge_logEvent s b k v u x y z).2.1
@[simp] theorem edge_settingsId_logEvent (s : State) (b k v : Nat) (u : Bool) (x y z : Nat) : (logEvent s b k v u x y z).regs.settingsId = s.regs.settingsId :=
  (edge_logEvent s b k v u x y z).2.2.1
@[simp] theorem edge_phase_logEvent (s : State) (b k v : Nat) (u : Bool) (x y z : Nat) : (logEvent s b k v u x y z).sys.phase = s.sys.phase :=
  (edge_logEvent s b k v u x y z).2.2.2.2.1
@[simp] theorem edge_tier_logEvent (s : State) (b k v : Nat) (u : Bool) (x y z : Nat) : (logEvent s b k v u x y z).sys.tier = s.sys.tier :=
  (edge_logEvent s b k v u x y z).2.2.2.2.2

theorem edge_logReg (s : State) (k v a x y : Nat) :
    (logReg s k v a x y).regs.act = s.regs.act ∧
    (logReg s k v a x y).regs.prev = s.regs.prev ∧
    (logReg s k v a x y).regs.settingsId = s.regs.settingsId ∧
    (logReg s k v a x y).time = s.time ∧
    (logReg s k v a x y).sys.phase = s.sys.phase ∧
    (logReg s k v a x y).sys.tier = s.sys.tier := by
  exact edge_logEvent s _ k v false a x y
@[simp] theorem edge_act_logReg (s : State) (k v a x y : Nat) : (logReg s k v a x y).regs.act = s.regs.act :=
  (edge_logReg s k v a x y).1
@[simp] theorem edge_prev_logReg (s : State) (k v a x y : Nat) : (logReg s k v a x y).regs.prev = s.regs.prev :=
  (edge_logReg s k v a x y).2.1
@[simp] theorem edge_settingsId_logReg (s : State) (k v a x y : Nat) : (logReg s k v a x y).regs.settingsId = s.regs.settingsId :=
  (edge_logReg s k v a x y).2.2.1
@[simp] theorem edge_phase_logReg (s : State) (k v a x y : Nat) : (logReg s k v a x y).sys.phase = s.sys.phase :=
  (edge_logReg s k v a x y).2.2.2.2.1
@[simp] theorem edge_tier_logReg (s : State) (k v a x y : Nat) : (logReg s k v a x y).sys.tier = s.sys.tier :=
  (edge_logReg s k v a x y).2.2.2.2.2

theorem edge_setOut (s : State) (i : Nat) (o : ClkOut) :
    (setOut s i o).regs.act = s.regs.act ∧
    (setOut s i o).regs.prev = s.regs.prev ∧
    (setOut s i o).regs.settingsId = s.regs.settingsId ∧
    (setOut s i o).time = s.time ∧
    (setOut s i o).sys.phase = s.sys.phase ∧
    (setOut s i o).sys.tier = s.sys.tier := by
  refine ⟨?_, ?_, ?_, ?_, ?_, ?_⟩ <;>
    (simp [setOut])
@[simp] theorem edge_act_setOut (s : State) (i : Nat) (o : ClkOut) : (setOut s i o).regs.act = s.regs.act :=
  (edge_setOut s i o).1
@[simp] theorem edge_prev_setOut (s : State) (i : Nat) (o : ClkOut) : (setOut s i o).regs.prev = s.regs.prev :=
  (edge_setOut s i o).2.1
@[simp] theorem edge_settingsId_setOut (s : State) (i : Nat) (o : ClkOut) : (setOut s i o).regs.settingsId = s.regs.settingsId :=
  (edge_setOut s i o).2.2.1
@[simp] theorem edge_time_setOut (s : State) (i : Nat) (o : ClkOut) : (setOut s i o).time = s.time :=
  (edge_setOut s i o).2.2.2.1
@[simp] theorem edge_phase_setOut (s : State) (i : Nat) (o : ClkOut) : (setOut s i o).sys.phase = s.sys.phase :=
  (edge_setOut s i o).2.2.2.2.1
@[simp] theorem edge_tier_setOut (s : State) (i : Nat) (o : ClkOut) : (setOut s i o).sys.tier = s.sys.tier :=
  (edge_setOut s i o).2.2.2.2.2

theorem edge_deferOne (at_ : Nat) (s : State) (src : Src) :
    (deferOne at_ s src).2.regs.act = s.regs.act ∧
    (deferOne at_ s src).2.regs.prev = s.regs.prev ∧
    (deferOne at_ s src).2.regs.settingsId = s.regs.settingsId ∧
    (deferOne at_ s src).2.time = s.time ∧
    (deferOne at_ s src).2.sys.phase = s.sys.phase ∧
    (deferOne at_ s src).2.sys.tier = s.sys.tier := by
  unfold deferOne
  (repeat' split) <;> cases src <;> exact ⟨rfl, rfl, rfl, rfl, rfl, rfl⟩
@[simp] theorem edge_act_deferOne (at_ : Nat) (s : State) (src : Src) : (deferOne at_ s src).2.regs.act = s.regs.act :=
  (edge_deferOne at_ s src).1
@[simp] theorem edge_prev_deferOne (at_ : Nat) (s : State) (src : Src) : (deferOne at_ s src).2.regs.prev = s.regs.prev :=
  (edge_deferOne at_ s src).2.1
@[simp] theorem edge_settingsId_deferOne (at_ : Nat) (s : State) (src : Src) : (deferOne at_ s src).2.regs.settingsId = s.regs.settingsId :=
  (edge_deferOne at_ s src).2.2.1
@[simp] theorem edge_time_deferOne (at_ : Nat) (s : State) (src : Src) : (deferOne at_ s src).2.time = s.time :=
  (edge_deferOne at_ s src).2.2.2.1
@[simp] theorem edge_phase_deferOne (at_ : Nat) (s : State) (src : Src) : (deferOne at_ s src).2.sys.phase = s.sys.phase :=
  (edge_deferOne at_ s src).2.2.2.2.1
@[simp] theorem edge_tier_deferOne (at_ : Nat) (s : State) (src : Src) : (deferOne at_ s src).2.sys.tier = s.sys.tier :=
  (edge_deferOne at_ s src).2.2.2.2.2

theorem edge_stampTc (s : State) (e : Nat) :
    (stampTc s e).regs.act = s.regs.act ∧
    (stampTc s e).regs.prev = s.regs.prev ∧
    (stampTc s e).regs.settingsId = s.regs.settingsId ∧
    (stampTc s e).time = s.time ∧
    (stampTc s e).sys.phase = s.sys.phase ∧
    (stampTc s e).sys.tier = s.sys.tier := by
  refine ⟨?_, ?_, ?_, ?_, ?_, ?_⟩ <;>
    (simp [stampTc])
@[simp] theorem edge_act_stampTc (s : State) (e : Nat) : (stampTc s e).regs.act = s.regs.act :=
  (edge_stampTc s e).1
@[simp] theorem edge_prev_stampTc (s : State) (e : Nat) : (stampTc s e).regs.prev = s.regs.prev :=
  (edge_stampTc s e).2.1
@[simp] theorem edge_settingsId_stampTc (s : State) (e : Nat) : (stampTc s e).regs.settingsId = s.regs.settingsId :=
  (edge_stampTc s e).2.2.1
@[simp] theorem edge_time_stampTc (s : State) (e : Nat) : (stampTc s e).time = s.time :=
  (edge_stampTc s e).2.2.2.1
@[simp] theorem edge_phase_stampTc (s : State) (e : Nat) : (stampTc s e).sys.phase = s.sys.phase :=
  (edge_stampTc s e).2.2.2.2.1
@[simp] theorem edge_tier_stampTc (s : State) (e : Nat) : (stampTc s e).sys.tier = s.sys.tier :=
  (edge_stampTc s e).2.2.2.2.2

theorem edge_refreshWaits (s : State) :
    (refreshWaits s).regs.act = s.regs.act ∧
    (refreshWaits s).regs.prev = s.regs.prev ∧
    (refreshWaits s).regs.settingsId = s.regs.settingsId ∧
    (refreshWaits s).time = s.time ∧
    (refreshWaits s).sys.phase = s.sys.phase ∧
    (refreshWaits s).sys.tier = s.sys.tier := by
  refine ⟨?_, ?_, ?_, ?_, ?_, ?_⟩ <;>
    (simp [refreshWaits])
@[simp] theorem edge_act_refreshWaits (s : State) : (refreshWaits s).regs.act = s.regs.act :=
  (edge_refreshWaits s).1
@[simp] theorem edge_prev_refreshWaits (s : State) : (refreshWaits s).regs.prev = s.regs.prev :=
  (edge_refreshWaits s).2.1
@[simp] theorem edge_settingsId_refreshWaits (s : State) : (refreshWaits s).regs.settingsId = s.regs.settingsId :=
  (edge_refreshWaits s).2.2.1
@[simp] theorem edge_time_refreshWaits (s : State) : (refreshWaits s).time = s.time :=
  (edge_refreshWaits s).2.2.2.1
@[simp] theorem edge_phase_refreshWaits (s : State) : (refreshWaits s).sys.phase = s.sys.phase :=
  (edge_refreshWaits s).2.2.2.2.1
@[simp] theorem edge_tier_refreshWaits (s : State) : (refreshWaits s).sys.tier = s.sys.tier :=
  (edge_refreshWaits s).2.2.2.2.2

theorem edge_refreshEdge (s : State) :
    (refreshEdge s).regs.act = s.regs.act ∧
    (refreshEdge s).regs.prev = s.regs.prev ∧
    (refreshEdge s).regs.settingsId = s.regs.settingsId ∧
    (refreshEdge s).time = s.time ∧
    (refreshEdge s).sys.phase = s.sys.phase ∧
    (refreshEdge s).sys.tier = s.sys.tier := by
  refine ⟨?_, ?_, ?_, ?_, ?_, ?_⟩ <;>
    (unfold refreshEdge; dsimp only; (repeat' split) <;> simp)
@[simp] theorem edge_act_refreshEdge (s : State) : (refreshEdge s).regs.act = s.regs.act :=
  (edge_refreshEdge s).1
@[simp] theorem edge_prev_refreshEdge (s : State) : (refreshEdge s).regs.prev = s.regs.prev :=
  (edge_refreshEdge s).2.1
@[simp] theorem edge_settingsId_refreshEdge (s : State) : (refreshEdge s).regs.settingsId = s.regs.settingsId :=
  (edge_refreshEdge s).2.2.1
@[simp] theorem edge_time_refreshEdge (s : State) : (refreshEdge s).time = s.time :=
  (edge_refreshEdge s).2.2.2.1
@[simp] theorem edge_phase_refreshEdge (s : State) : (refreshEdge s).sys.phase = s.sys.phase :=
  (edge_refreshEdge s).2.2.2.2.1
@[simp] theorem edge_tier_refreshEdge (s : State) : (refreshEdge s).sys.tier = s.sys.tier :=
  (edge_refreshEdge s).2.2.2.2.2

theorem edge_setBank (s : State) (i : Nat) (b : Bank) :
    (setBank s i b).regs.act = s.regs.act ∧
    (setBank s i b).regs.prev = s.regs.prev ∧
    (setBank s i b).regs.settingsId = s.regs.settingsId ∧
    (setBank s i b).time = s.time ∧
    (setBank s i b).sys.phase = s.sys.phase ∧
    (setBank s i b).sys.tier = s.sys.tier := by
  exact ⟨rfl, rfl, rfl, rfl, rfl, rfl⟩
@[simp] theorem edge_act_setBank (s : State) (i : Nat) (b : Bank) : (setBank s i b).regs.act = s.regs.act :=
  (edge_setBank s i b).1
@[simp] theorem edge_prev_setBank (s : State) (i : Nat) (b : Bank) : (setBank s i b).regs.prev = s.regs.prev :=
  (edge_setBank s i b).2.1
@[simp] theorem edge_settingsId_setBank (s : State) (i : Nat) (b : Bank) : (setBank s i b).regs.settingsId = s.regs.settingsId :=
  (edge_setBank s i b).2.2.1
@[simp] theorem edge_phase_setBank (s : State) (i : Nat) (b : Bank) : (setBank s i b).sys.phase = s.sys.phase :=
  (edge_setBank s i b).2.2.2.2.1
@[simp] theorem edge_tier_setBank (s : State) (i : Nat) (b : Bank) : (setBank s i b).sys.tier = s.sys.tier :=
  (edge_setBank s i b).2.2.2.2.2

theorem edge_openBank (s : State) :
    (openBank s).regs.act = s.regs.act ∧
    (openBank s).regs.prev = s.regs.prev ∧
    (openBank s).regs.settingsId = s.regs.settingsId ∧
    (openBank s).time = s.time ∧
    (openBank s).sys.phase = s.sys.phase ∧
    (openBank s).sys.tier = s.sys.tier := by
  refine ⟨?_, ?_, ?_, ?_, ?_, ?_⟩ <;>
    (simp [openBank])
@[simp] theorem edge_act_openBank (s : State) : (openBank s).regs.act = s.regs.act :=
  (edge_openBank s).1
@[simp] theorem edge_prev_openBank (s : State) : (openBank s).regs.prev = s.regs.prev :=
  (edge_openBank s).2.1
@[simp] theorem edge_settingsId_openBank (s : State) : (openBank s).regs.settingsId = s.regs.settingsId :=
  (edge_openBank s).2.2.1
@[simp] theorem edge_time_openBank (s : State) : (openBank s).time = s.time :=
  (edge_openBank s).2.2.2.1
@[simp] theorem edge_phase_openBank (s : State) : (openBank s).sys.phase = s.sys.phase :=
  (edge_openBank s).2.2.2.2.1
@[simp] theorem edge_tier_openBank (s : State) : (openBank s).sys.tier = s.sys.tier :=
  (edge_openBank s).2.2.2.2.2

theorem edge_endStats (s : State) (k : Nat) :
    (endStats s k).regs.act = s.regs.act ∧
    (endStats s k).regs.prev = s.regs.prev ∧
    (endStats s k).regs.settingsId = s.regs.settingsId ∧
    (endStats s k).time = s.time ∧
    (endStats s k).sys.phase = s.sys.phase ∧
    (endStats s k).sys.tier = s.sys.tier := by
  refine ⟨?_, ?_, ?_, ?_, ?_, ?_⟩ <;>
    (simp [endStats, apply_ite State.regs, apply_ite Regs.act, apply_ite Regs.prev, apply_ite Regs.settingsId, apply_ite State.time, apply_ite State.sys])
@[simp] theorem edge_act_endStats (s : State) (k : Nat) : (endStats s k).regs.act = s.regs.act :=
  (edge_endStats s k).1
@[simp] theorem edge_prev_endStats (s : State) (k : Nat) : (endStats s k).regs.prev = s.regs.prev :=
  (edge_endStats s k).2.1
@[simp] theorem edge_settingsId_endStats (s : State) (k : Nat) : (endStats s k).regs.settingsId = s.regs.settingsId :=
  (edge_endStats s k).2.2.1
@[simp] theorem edge_time_endStats (s : State) (k : Nat) : (endStats s k).time = s.time :=
  (edge_endStats s k).2.2.2.1
@[simp] theorem edge_phase_endStats (s : State) (k : Nat) : (endStats s k).sys.phase = s.sys.phase :=
  (edge_endStats s k).2.2.2.2.1
@[simp] theorem edge_tier_endStats (s : State) (k : Nat) : (endStats s k).sys.tier = s.sys.tier :=
  (edge_endStats s k).2.2.2.2.2

theorem edge_endMissing (s : State) (b : Nat) :
    (endMissing s b).regs.act = s.regs.act ∧
    (endMissing s b).regs.prev = s.regs.prev ∧
    (endMissing s b).regs.settingsId = s.regs.settingsId ∧
    (endMissing s b).time = s.time ∧
    (endMissing s b).sys.phase = s.sys.phase ∧
    (endMissing s b).sys.tier = s.sys.tier := by
  refine ⟨?_, ?_, ?_, ?_, ?_, ?_⟩ <;>
    (simp [endMissing, apply_ite State.regs, apply_ite Regs.act, apply_ite Regs.prev, apply_ite Regs.settingsId, apply_ite State.time, apply_ite State.sys, apply_ite Sys.phase, apply_ite Sys.tier])
@[simp] theorem edge_act_endMissing (s : State) (b : Nat) : (endMissing s b).regs.act = s.regs.act :=
  (edge_endMissing s b).1
@[simp] theorem edge_prev_endMissing (s : State) (b : Nat) : (endMissing s b).regs.prev = s.regs.prev :=
  (edge_endMissing s b).2.1
@[simp] theorem edge_settingsId_endMissing (s : State) (b : Nat) : (endMissing s b).regs.settingsId = s.regs.settingsId :=
  (edge_endMissing s b).2.2.1
@[simp] theorem edge_time_endMissing (s : State) (b : Nat) : (endMissing s b).time = s.time :=
  (edge_endMissing s b).2.2.2.1
@[simp] theorem edge_phase_endMissing (s : State) (b : Nat) : (endMissing s b).sys.phase = s.sys.phase :=
  (edge_endMissing s b).2.2.2.2.1
@[simp] theorem edge_tier_endMissing (s : State) (b : Nat) : (endMissing s b).sys.tier = s.sys.tier :=
  (edge_endMissing s b).2.2.2.2.2

theorem edge_auxEdge (s : State) :
    (auxEdge s).regs.act = s.regs.act ∧
    (auxEdge s).regs.prev = s.regs.prev ∧
    (auxEdge s).regs.settingsId = s.regs.settingsId ∧
    (auxEdge s).time = s.time ∧
    (auxEdge s).sys.phase = s.sys.phase ∧
    (auxEdge s).sys.tier = s.sys.tier := by
  refine ⟨?_, ?_, ?_, ?_, ?_, ?_⟩ <;>
    (simp [auxEdge])
@[simp] theorem edge_act_auxEdge (s : State) : (auxEdge s).regs.act = s.regs.act :=
  (edge_auxEdge s).1
@[simp] theorem edge_prev_auxEdge (s : State) : (auxEdge s).regs.prev = s.regs.prev :=
  (edge_auxEdge s).2.1
@[simp] theorem edge_settingsId_auxEdge (s : State) : (auxEdge s).regs.settingsId = s.regs.settingsId :=
  (edge_auxEdge s).2.2.1
@[simp] theorem edge_time_auxEdge (s : State) : (auxEdge s).time = s.time :=
  (edge_auxEdge s).2.2.2.1
@[simp] theorem edge_phase_auxEdge (s : State) : (auxEdge s).sys.phase = s.sys.phase :=
  (edge_auxEdge s).2.2.2.2.1
@[simp] theorem edge_tier_auxEdge (s : State) : (auxEdge s).sys.tier = s.sys.tier :=
  (edge_auxEdge s).2.2.2.2.2

theorem edge_auxCommit (s : State) :
    (auxCommit s).regs.act = s.regs.act ∧
    (auxCommit s).regs.prev = s.regs.prev ∧
    (auxCommit s).regs.settingsId = s.regs.settingsId ∧
    (auxCommit s).time = s.time ∧
    (auxCommit s).sys.phase = s.sys.phase ∧
    (auxCommit s).sys.tier = s.sys.tier := by
  refine ⟨?_, ?_, ?_, ?_, ?_, ?_⟩ <;>
    (simp [auxCommit, apply_ite State.regs, apply_ite Regs.act, apply_ite Regs.prev, apply_ite Regs.settingsId, apply_ite State.time, apply_ite State.sys, apply_ite Sys.phase, apply_ite Sys.tier])
@[simp] theorem edge_act_auxCommit (s : State) : (auxCommit s).regs.act = s.regs.act :=
  (edge_auxCommit s).1
@[simp] theorem edge_prev_auxCommit (s : State) : (auxCommit s).regs.prev = s.regs.prev :=
  (edge_auxCommit s).2.1
@[simp] theorem edge_settingsId_auxCommit (s : State) : (auxCommit s).regs.settingsId = s.regs.settingsId :=
  (edge_auxCommit s).2.2.1
@[simp] theorem edge_time_auxCommit (s : State) : (auxCommit s).time = s.time :=
  (edge_auxCommit s).2.2.2.1
@[simp] theorem edge_phase_auxCommit (s : State) : (auxCommit s).sys.phase = s.sys.phase :=
  (edge_auxCommit s).2.2.2.2.1
@[simp] theorem edge_tier_auxCommit (s : State) : (auxCommit s).sys.tier = s.sys.tier :=
  (edge_auxCommit s).2.2.2.2.2

theorem edge_setPyr (s : State) (src b : Nat) (p : Pyr) :
    (setPyr s src b p).regs.act = s.regs.act ∧
    (setPyr s src b p).regs.prev = s.regs.prev ∧
    (setPyr s src b p).regs.settingsId = s.regs.settingsId ∧
    (setPyr s src b p).time = s.time ∧
    (setPyr s src b p).sys.phase = s.sys.phase ∧
    (setPyr s src b p).sys.tier = s.sys.tier := by
  exact ⟨rfl, rfl, rfl, rfl, rfl, rfl⟩
@[simp] theorem edge_act_setPyr (s : State) (src b : Nat) (p : Pyr) : (setPyr s src b p).regs.act = s.regs.act :=
  (edge_setPyr s src b p).1
@[simp] theorem edge_prev_setPyr (s : State) (src b : Nat) (p : Pyr) : (setPyr s src b p).regs.prev = s.regs.prev :=
  (edge_setPyr s src b p).2.1
@[simp] theorem edge_settingsId_setPyr (s : State) (src b : Nat) (p : Pyr) : (setPyr s src b p).regs.settingsId = s.regs.settingsId :=
  (edge_setPyr s src b p).2.2.1
@[simp] theorem edge_time_setPyr (s : State) (src b : Nat) (p : Pyr) : (setPyr s src b p).time = s.time :=
  (edge_setPyr s src b p).2.2.2.1
@[simp] theorem edge_phase_setPyr (s : State) (src b : Nat) (p : Pyr) : (setPyr s src b p).sys.phase = s.sys.phase :=
  (edge_setPyr s src b p).2.2.2.2.1
@[simp] theorem edge_tier_setPyr (s : State) (src b : Nat) (p : Pyr) : (setPyr s src b p).sys.tier = s.sys.tier :=
  (edge_setPyr s src b p).2.2.2.2.2

theorem edge_setCurPyr (s : State) (src : Nat) (p : Pyr) :
    (setCurPyr s src p).regs.act = s.regs.act ∧
    (setCurPyr s src p).regs.prev = s.regs.prev ∧
    (setCurPyr s src p).regs.settingsId = s.regs.settingsId ∧
    (setCurPyr s src p).time = s.time ∧
    (setCurPyr s src p).sys.phase = s.sys.phase ∧
    (setCurPyr s src p).sys.tier = s.sys.tier := by
  refine ⟨?_, ?_, ?_, ?_, ?_, ?_⟩ <;>
    (simp [setCurPyr])
@[simp] theorem edge_act_setCurPyr (s : State) (src : Nat) (p : Pyr) : (setCurPyr s src p).regs.act = s.regs.act :=
  (edge_setCurPyr s src p).1
@[simp] theorem edge_prev_setCurPyr (s : State) (src : Nat) (p : Pyr) : (setCurPyr s src p).regs.prev = s.regs.prev :=
  (edge_setCurPyr s src p).2.1
@[simp] theorem edge_settingsId_setCurPyr (s : State) (src : Nat) (p : Pyr) : (setCurPyr s src p).regs.settingsId = s.regs.settingsId :=
  (edge_setCurPyr s src p).2.2.1
@[simp] theorem edge_time_setCurPyr (s : State) (src : Nat) (p : Pyr) : (setCurPyr s src p).time = s.time :=
  (edge_setCurPyr s src p).2.2.2.1
@[simp] theorem edge_phase_setCurPyr (s : State) (src : Nat) (p : Pyr) : (setCurPyr s src p).sys.phase = s.sys.phase :=
  (edge_setCurPyr s src p).2.2.2.2.1
@[simp] theorem edge_tier_setCurPyr (s : State) (src : Nat) (p : Pyr) : (setCurPyr s src p).sys.tier = s.sys.tier :=
  (edge_setCurPyr s src p).2.2.2.2.2

theorem edge_keepInsts (s : State) :
    (keepInsts s).regs.act = s.regs.act ∧
    (keepInsts s).regs.prev = s.regs.prev ∧
    (keepInsts s).regs.settingsId = s.regs.settingsId ∧
    (keepInsts s).time = s.time ∧
    (keepInsts s).sys.phase = s.sys.phase ∧
    (keepInsts s).sys.tier = s.sys.tier := by
  refine ⟨?_, ?_, ?_, ?_, ?_, ?_⟩ <;>
    (simp [keepInsts, apply_ite State.regs, apply_ite Regs.act, apply_ite Regs.prev, apply_ite Regs.settingsId, apply_ite State.time, apply_ite State.sys, apply_ite Sys.phase, apply_ite Sys.tier])
@[simp] theorem edge_act_keepInsts (s : State) : (keepInsts s).regs.act = s.regs.act :=
  (edge_keepInsts s).1
@[simp] theorem edge_prev_keepInsts (s : State) : (keepInsts s).regs.prev = s.regs.prev :=
  (edge_keepInsts s).2.1
@[simp] theorem edge_settingsId_keepInsts (s : State) : (keepInsts s).regs.settingsId = s.regs.settingsId :=
  (edge_keepInsts s).2.2.1
@[simp] theorem edge_time_keepInsts (s : State) : (keepInsts s).time = s.time :=
  (edge_keepInsts s).2.2.2.1
@[simp] theorem edge_phase_keepInsts (s : State) : (keepInsts s).sys.phase = s.sys.phase :=
  (edge_keepInsts s).2.2.2.2.1
@[simp] theorem edge_tier_keepInsts (s : State) : (keepInsts s).sys.tier = s.sys.tier :=
  (edge_keepInsts s).2.2.2.2.2

theorem edge_exchange (s : State) (src : Nat) (buf : Nat) (p : Pyr) :
    (exchange s src buf p).regs.act = s.regs.act ∧
    (exchange s src buf p).regs.prev = s.regs.prev ∧
    (exchange s src buf p).regs.settingsId = s.regs.settingsId ∧
    (exchange s src buf p).time = s.time ∧
    (exchange s src buf p).sys.phase = s.sys.phase ∧
    (exchange s src buf p).sys.tier = s.sys.tier := by
  refine ⟨?_, ?_, ?_, ?_, ?_, ?_⟩ <;>
    (simp [exchange])
@[simp] theorem edge_act_exchange (s : State) (src : Nat) (buf : Nat) (p : Pyr) : (exchange s src buf p).regs.act = s.regs.act :=
  (edge_exchange s src buf p).1
@[simp] theorem edge_prev_exchange (s : State) (src : Nat) (buf : Nat) (p : Pyr) : (exchange s src buf p).regs.prev = s.regs.prev :=
  (edge_exchange s src buf p).2.1
@[simp] theorem edge_settingsId_exchange (s : State) (src : Nat) (buf : Nat) (p : Pyr) : (exchange s src buf p).regs.settingsId = s.regs.settingsId :=
  (edge_exchange s src buf p).2.2.1
@[simp] theorem edge_time_exchange (s : State) (src : Nat) (buf : Nat) (p : Pyr) : (exchange s src buf p).time = s.time :=
  (edge_exchange s src buf p).2.2.2.1
@[simp] theorem edge_phase_exchange (s : State) (src : Nat) (buf : Nat) (p : Pyr) : (exchange s src buf p).sys.phase = s.sys.phase :=
  (edge_exchange s src buf p).2.2.2.2.1
@[simp] theorem edge_tier_exchange (s : State) (src : Nat) (buf : Nat) (p : Pyr) : (exchange s src buf p).sys.tier = s.sys.tier :=
  (edge_exchange s src buf p).2.2.2.2.2

theorem edge_buildAux (s : State) (src : Nat) (r : Nat) :
    (buildAux s src r).regs.act = s.regs.act ∧
    (buildAux s src r).regs.prev = s.regs.prev ∧
    (buildAux s src r).regs.settingsId = s.regs.settingsId ∧
    (buildAux s src r).time = s.time ∧
    (buildAux s src r).sys.phase = s.sys.phase ∧
    (buildAux s src r).sys.tier = s.sys.tier := by
  refine ⟨?_, ?_, ?_, ?_, ?_, ?_⟩ <;>
    (unfold buildAux; dsimp only; (repeat' split) <;> simp)
@[simp] theorem edge_act_buildAux (s : State) (src : Nat) (r : Nat) : (buildAux s src r).regs.act = s.regs.act :=
  (edge_buildAux s src r).1
@[simp] theorem edge_prev_buildAux (s : State) (src : Nat) (r : Nat) : (buildAux s src r).regs.prev = s.regs.prev :=
  (edge_buildAux s src r).2.1
@[simp] theorem edge_settingsId_buildAux (s : State) (src : Nat) (r : Nat) : (buildAux s src r).regs.settingsId = s.regs.settingsId :=
  (edge_buildAux s src r).2.2.1
@[simp] theorem edge_time_buildAux (s : State) (src : Nat) (r : Nat) : (buildAux s src r).time = s.time :=
  (edge_buildAux s src r).2.2.2.1
@[simp] theorem edge_phase_buildAux (s : State) (src : Nat) (r : Nat) : (buildAux s src r).sys.phase = s.sys.phase :=
  (edge_buildAux s src r).2.2.2.2.1
@[simp] theorem edge_tier_buildAux (s : State) (src : Nat) (r : Nat) : (buildAux s src r).sys.tier = s.sys.tier :=
  (edge_buildAux s src r).2.2.2.2.2

theorem edge_openPyramids (s : State) :
    (openPyramids s).regs.act = s.regs.act ∧
    (openPyramids s).regs.prev = s.regs.prev ∧
    (openPyramids s).regs.settingsId = s.regs.settingsId ∧
    (openPyramids s).time = s.time ∧
    (openPyramids s).sys.phase = s.sys.phase ∧
    (openPyramids s).sys.tier = s.sys.tier := by
  unfold openPyramids
  dsimp only [List.foldl]
  (repeat' split) <;> simp
@[simp] theorem edge_act_openPyramids (s : State) : (openPyramids s).regs.act = s.regs.act :=
  (edge_openPyramids s).1
@[simp] theorem edge_prev_openPyramids (s : State) : (openPyramids s).regs.prev = s.regs.prev :=
  (edge_openPyramids s).2.1
@[simp] theorem edge_settingsId_openPyramids (s : State) : (openPyramids s).regs.settingsId = s.regs.settingsId :=
  (edge_openPyramids s).2.2.1
@[simp] theorem edge_time_openPyramids (s : State) : (openPyramids s).time = s.time :=
  (edge_openPyramids s).2.2.2.1
@[simp] theorem edge_phase_openPyramids (s : State) : (openPyramids s).sys.phase = s.sys.phase :=
  (edge_openPyramids s).2.2.2.2.1
@[simp] theorem edge_tier_openPyramids (s : State) : (openPyramids s).sys.tier = s.sys.tier :=
  (edge_openPyramids s).2.2.2.2.2

theorem edge_scentPut (s : State) (slot : Nat) (snap : Nat) (d : Nat) (b : Nat) :
    (scentPut s slot snap d b).regs.act = s.regs.act ∧
    (scentPut s slot snap d b).regs.prev = s.regs.prev ∧
    (scentPut s slot snap d b).regs.settingsId = s.regs.settingsId ∧
    (scentPut s slot snap d b).time = s.time ∧
    (scentPut s slot snap d b).sys.phase = s.sys.phase ∧
    (scentPut s slot snap d b).sys.tier = s.sys.tier := by
  refine ⟨?_, ?_, ?_, ?_, ?_, ?_⟩ <;>
    (simp [scentPut, apply_ite State.regs, apply_ite Regs.act, apply_ite Regs.prev, apply_ite Regs.settingsId, apply_ite State.time, apply_ite State.sys])
@[simp] theorem edge_act_scentPut (s : State) (slot : Nat) (snap : Nat) (d : Nat) (b : Nat) : (scentPut s slot snap d b).regs.act = s.regs.act :=
  (edge_scentPut s slot snap d b).1
@[simp] theorem edge_prev_scentPut (s : State) (slot : Nat) (snap : Nat) (d : Nat) (b : Nat) : (scentPut s slot snap d b).regs.prev = s.regs.prev :=
  (edge_scentPut s slot snap d b).2.1
@[simp] theorem edge_settingsId_scentPut (s : State) (slot : Nat) (snap : Nat) (d : Nat) (b : Nat) : (scentPut s slot snap d b).regs.settingsId = s.regs.settingsId :=
  (edge_scentPut s slot snap d b).2.2.1
@[simp] theorem edge_time_scentPut (s : State) (slot : Nat) (snap : Nat) (d : Nat) (b : Nat) : (scentPut s slot snap d b).time = s.time :=
  (edge_scentPut s slot snap d b).2.2.2.1
@[simp] theorem edge_phase_scentPut (s : State) (slot : Nat) (snap : Nat) (d : Nat) (b : Nat) : (scentPut s slot snap d b).sys.phase = s.sys.phase :=
  (edge_scentPut s slot snap d b).2.2.2.2.1
@[simp] theorem edge_tier_scentPut (s : State) (slot : Nat) (snap : Nat) (d : Nat) (b : Nat) : (scentPut s slot snap d b).sys.tier = s.sys.tier :=
  (edge_scentPut s slot snap d b).2.2.2.2.2

theorem edge_scentInsert (s : State) (slot : Nat) (snap : Nat) (d : Nat) :
    (scentInsert s slot snap d).regs.act = s.regs.act ∧
    (scentInsert s slot snap d).regs.prev = s.regs.prev ∧
    (scentInsert s slot snap d).regs.settingsId = s.regs.settingsId ∧
    (scentInsert s slot snap d).time = s.time ∧
    (scentInsert s slot snap d).sys.phase = s.sys.phase ∧
    (scentInsert s slot snap d).sys.tier = s.sys.tier := by
  refine ⟨?_, ?_, ?_, ?_, ?_, ?_⟩ <;>
    (simp [scentInsert, edge_fold_act, edge_fold_prev, edge_fold_settingsId, edge_fold_time, edge_fold_phase, edge_fold_tier])
@[simp] theorem edge_act_scentInsert (s : State) (slot : Nat) (snap : Nat) (d : Nat) : (scentInsert s slot snap d).regs.act = s.regs.act :=
  (edge_scentInsert s slot snap d).1
@[simp] theorem edge_prev_scentInsert (s : State) (slot : Nat) (snap : Nat) (d : Nat) : (scentInsert s slot snap d).regs.prev = s.regs.prev :=
  (edge_scentInsert s slot snap d).2.1
@[simp] theorem edge_settingsId_scentInsert (s : State) (slot : Nat) (snap : Nat) (d : Nat) : (scentInsert s slot snap d).regs.settingsId = s.regs.settingsId :=
  (edge_scentInsert s slot snap d).2.2.1
@[simp] theorem edge_time_scentInsert (s : State) (slot : Nat) (snap : Nat) (d : Nat) : (scentInsert s slot snap d).time = s.time :=
  (edge_scentInsert s slot snap d).2.2.2.1
@[simp] theorem edge_phase_scentInsert (s : State) (slot : Nat) (snap : Nat) (d : Nat) : (scentInsert s slot snap d).sys.phase = s.sys.phase :=
  (edge_scentInsert s slot snap d).2.2.2.2.1
@[simp] theorem edge_tier_scentInsert (s : State) (slot : Nat) (snap : Nat) (d : Nat) : (scentInsert s slot snap d).sys.tier = s.sys.tier :=
  (edge_scentInsert s slot snap d).2.2.2.2.2

theorem edge_scentDelete (s : State) (gone : ScentEntry → Bool) :
    (scentDelete s gone).regs.act = s.regs.act ∧
    (scentDelete s gone).regs.prev = s.regs.prev ∧
    (scentDelete s gone).regs.settingsId = s.regs.settingsId ∧
    (scentDelete s gone).time = s.time ∧
    (scentDelete s gone).sys.phase = s.sys.phase ∧
    (scentDelete s gone).sys.tier = s.sys.tier := by
  refine ⟨?_, ?_, ?_, ?_, ?_, ?_⟩ <;>
    (simp [scentDelete])
@[simp] theorem edge_act_scentDelete (s : State) (gone : ScentEntry → Bool) : (scentDelete s gone).regs.act = s.regs.act :=
  (edge_scentDelete s gone).1
@[simp] theorem edge_prev_scentDelete (s : State) (gone : ScentEntry → Bool) : (scentDelete s gone).regs.prev = s.regs.prev :=
  (edge_scentDelete s gone).2.1
@[simp] theorem edge_settingsId_scentDelete (s : State) (gone : ScentEntry → Bool) : (scentDelete s gone).regs.settingsId = s.regs.settingsId :=
  (edge_scentDelete s gone).2.2.1
@[simp] theorem edge_time_scentDelete (s : State) (gone : ScentEntry → Bool) : (scentDelete s gone).time = s.time :=
  (edge_scentDelete s gone).2.2.2.1
@[simp] theorem edge_phase_scentDelete (s : State) (gone : ScentEntry → Bool) : (scentDelete s gone).sys.phase = s.sys.phase :=
  (edge_scentDelete s gone).2.2.2.2.1
@[simp] theorem edge_tier_scentDelete (s : State) (gone : ScentEntry → Bool) : (scentDelete s gone).sys.tier = s.sys.tier :=
  (edge_scentDelete s gone).2.2.2.2.2

theorem edge_setSlot (s : State) (i : Nat) (t : Track) :
    (setSlot s i t).regs.act = s.regs.act ∧
    (setSlot s i t).regs.prev = s.regs.prev ∧
    (setSlot s i t).regs.settingsId = s.regs.settingsId ∧
    (setSlot s i t).time = s.time ∧
    (setSlot s i t).sys.phase = s.sys.phase ∧
    (setSlot s i t).sys.tier = s.sys.tier := by
  exact ⟨rfl, rfl, rfl, rfl, rfl, rfl⟩
@[simp] theorem edge_act_setSlot (s : State) (i : Nat) (t : Track) : (setSlot s i t).regs.act = s.regs.act :=
  (edge_setSlot s i t).1
@[simp] theorem edge_prev_setSlot (s : State) (i : Nat) (t : Track) : (setSlot s i t).regs.prev = s.regs.prev :=
  (edge_setSlot s i t).2.1
@[simp] theorem edge_settingsId_setSlot (s : State) (i : Nat) (t : Track) : (setSlot s i t).regs.settingsId = s.regs.settingsId :=
  (edge_setSlot s i t).2.2.1
@[simp] theorem edge_phase_setSlot (s : State) (i : Nat) (t : Track) : (setSlot s i t).sys.phase = s.sys.phase :=
  (edge_setSlot s i t).2.2.2.2.1
@[simp] theorem edge_tier_setSlot (s : State) (i : Nat) (t : Track) : (setSlot s i t).sys.tier = s.sys.tier :=
  (edge_setSlot s i t).2.2.2.2.2


theorem edge_clearAlbum (s : State) (slot : Nat) :
    (clearAlbum s slot).regs.act = s.regs.act ∧
    (clearAlbum s slot).regs.prev = s.regs.prev ∧
    (clearAlbum s slot).regs.settingsId = s.regs.settingsId ∧
    (clearAlbum s slot).time = s.time ∧
    (clearAlbum s slot).sys.phase = s.sys.phase ∧
    (clearAlbum s slot).sys.tier = s.sys.tier := by
  refine ⟨?_, ?_, ?_, ?_, ?_, ?_⟩ <;>
    (simp [clearAlbum])
@[simp] theorem edge_act_clearAlbum (s : State) (slot : Nat) : (clearAlbum s slot).regs.act = s.regs.act :=
  (edge_clearAlbum s slot).1
@[simp] theorem edge_prev_clearAlbum (s : State) (slot : Nat) : (clearAlbum s slot).regs.prev = s.regs.prev :=
  (edge_clearAlbum s slot).2.1
@[simp] theorem edge_settingsId_clearAlbum (s : State) (slot : Nat) : (clearAlbum s slot).regs.settingsId = s.regs.settingsId :=
  (edge_clearAlbum s slot).2.2.1
@[simp] theorem edge_time_clearAlbum (s : State) (slot : Nat) : (clearAlbum s slot).time = s.time :=
  (edge_clearAlbum s slot).2.2.2.1
@[simp] theorem edge_phase_clearAlbum (s : State) (slot : Nat) : (clearAlbum s slot).sys.phase = s.sys.phase :=
  (edge_clearAlbum s slot).2.2.2.2.1
@[simp] theorem edge_tier_clearAlbum (s : State) (slot : Nat) : (clearAlbum s slot).sys.tier = s.sys.tier :=
  (edge_clearAlbum s slot).2.2.2.2.2

theorem edge_endTrack (s : State) (i : Nat) :
    (endTrack s i).regs.act = s.regs.act ∧
    (endTrack s i).regs.prev = s.regs.prev ∧
    (endTrack s i).regs.settingsId = s.regs.settingsId ∧
    (endTrack s i).time = s.time ∧
    (endTrack s i).sys.phase = s.sys.phase ∧
    (endTrack s i).sys.tier = s.sys.tier := by
  refine ⟨?_, ?_, ?_, ?_, ?_, ?_⟩ <;>
    (simp [endTrack, apply_ite State.regs, apply_ite Regs.act, apply_ite Regs.prev, apply_ite Regs.settingsId, apply_ite State.time, apply_ite State.sys, apply_ite Sys.phase, apply_ite Sys.tier, edge_fold_act, edge_fold_prev, edge_fold_settingsId, edge_fold_time, edge_fold_phase, edge_fold_tier])
@[simp] theorem edge_act_endTrack (s : State) (i : Nat) : (endTrack s i).regs.act = s.regs.act :=
  (edge_endTrack s i).1
@[simp] theorem edge_prev_endTrack (s : State) (i : Nat) : (endTrack s i).regs.prev = s.regs.prev :=
  (edge_endTrack s i).2.1
@[simp] theorem edge_settingsId_endTrack (s : State) (i : Nat) : (endTrack s i).regs.settingsId = s.regs.settingsId :=
  (edge_endTrack s i).2.2.1
@[simp] theorem edge_time_endTrack (s : State) (i : Nat) : (endTrack s i).time = s.time :=
  (edge_endTrack s i).2.2.2.1
@[simp] theorem edge_phase_endTrack (s : State) (i : Nat) : (endTrack s i).sys.phase = s.sys.phase :=
  (edge_endTrack s i).2.2.2.2.1
@[simp] theorem edge_tier_endTrack (s : State) (i : Nat) : (endTrack s i).sys.tier = s.sys.tier :=
  (edge_endTrack s i).2.2.2.2.2

theorem edge_freeSlot (s : State) (i : Nat) :
    (freeSlot s i).regs.act = s.regs.act ∧
    (freeSlot s i).regs.prev = s.regs.prev ∧
    (freeSlot s i).regs.settingsId = s.regs.settingsId ∧
    (freeSlot s i).time = s.time ∧
    (freeSlot s i).sys.phase = s.sys.phase ∧
    (freeSlot s i).sys.tier = s.sys.tier := by
  refine ⟨?_, ?_, ?_, ?_, ?_, ?_⟩ <;>
    (simp [freeSlot, apply_ite State.regs, apply_ite Regs.act, apply_ite Regs.prev, apply_ite Regs.settingsId, apply_ite State.time, apply_ite State.sys, apply_ite Sys.phase, apply_ite Sys.tier])
@[simp] theorem edge_act_freeSlot (s : State) (i : Nat) : (freeSlot s i).regs.act = s.regs.act :=
  (edge_freeSlot s i).1
@[simp] theorem edge_prev_freeSlot (s : State) (i : Nat) : (freeSlot s i).regs.prev = s.regs.prev :=
  (edge_freeSlot s i).2.1
@[simp] theorem edge_settingsId_freeSlot (s : State) (i : Nat) : (freeSlot s i).regs.settingsId = s.regs.settingsId :=
  (edge_freeSlot s i).2.2.1
@[simp] theorem edge_time_freeSlot (s : State) (i : Nat) : (freeSlot s i).time = s.time :=
  (edge_freeSlot s i).2.2.2.1
@[simp] theorem edge_phase_freeSlot (s : State) (i : Nat) : (freeSlot s i).sys.phase = s.sys.phase :=
  (edge_freeSlot s i).2.2.2.2.1
@[simp] theorem edge_tier_freeSlot (s : State) (i : Nat) : (freeSlot s i).sys.tier = s.sys.tier :=
  (edge_freeSlot s i).2.2.2.2.2

theorem edge_birth (s : State) (i : Nat) (t : Track) :
    (birth s i t).regs.act = s.regs.act ∧
    (birth s i t).regs.prev = s.regs.prev ∧
    (birth s i t).regs.settingsId = s.regs.settingsId ∧
    (birth s i t).time = s.time ∧
    (birth s i t).sys.phase = s.sys.phase ∧
    (birth s i t).sys.tier = s.sys.tier := by
  refine ⟨?_, ?_, ?_, ?_, ?_, ?_⟩ <;>
    (simp [birth])
@[simp] theorem edge_act_birth (s : State) (i : Nat) (t : Track) : (birth s i t).regs.act = s.regs.act :=
  (edge_birth s i t).1
@[simp] theorem edge_prev_birth (s : State) (i : Nat) (t : Track) : (birth s i t).regs.prev = s.regs.prev :=
  (edge_birth s i t).2.1
@[simp] theorem edge_settingsId_birth (s : State) (i : Nat) (t : Track) : (birth s i t).regs.settingsId = s.regs.settingsId :=
  (edge_birth s i t).2.2.1
@[simp] theorem edge_time_birth (s : State) (i : Nat) (t : Track) : (birth s i t).time = s.time :=
  (edge_birth s i t).2.2.2.1
@[simp] theorem edge_phase_birth (s : State) (i : Nat) (t : Track) : (birth s i t).sys.phase = s.sys.phase :=
  (edge_birth s i t).2.2.2.2.1
@[simp] theorem edge_tier_birth (s : State) (i : Nat) (t : Track) : (birth s i t).sys.tier = s.sys.tier :=
  (edge_birth s i t).2.2.2.2.2

theorem edge_birthAlbum (s : State) (i : Nat) (keep : Bool) :
    (birthAlbum s i keep).regs.act = s.regs.act ∧
    (birthAlbum s i keep).regs.prev = s.regs.prev ∧
    (birthAlbum s i keep).regs.settingsId = s.regs.settingsId ∧
    (birthAlbum s i keep).time = s.time ∧
    (birthAlbum s i keep).sys.phase = s.sys.phase ∧
    (birthAlbum s i keep).sys.tier = s.sys.tier := by
  refine ⟨?_, ?_, ?_, ?_, ?_, ?_⟩ <;>
    (simp [birthAlbum, apply_ite State.regs, apply_ite Regs.act, apply_ite Regs.prev, apply_ite Regs.settingsId, apply_ite State.time, apply_ite State.sys, apply_ite Sys.phase, apply_ite Sys.tier, edge_fold_act, edge_fold_prev, edge_fold_settingsId, edge_fold_time, edge_fold_phase, edge_fold_tier])
@[simp] theorem edge_act_birthAlbum (s : State) (i : Nat) (keep : Bool) : (birthAlbum s i keep).regs.act = s.regs.act :=
  (edge_birthAlbum s i keep).1
@[simp] theorem edge_prev_birthAlbum (s : State) (i : Nat) (keep : Bool) : (birthAlbum s i keep).regs.prev = s.regs.prev :=
  (edge_birthAlbum s i keep).2.1
@[simp] theorem edge_settingsId_birthAlbum (s : State) (i : Nat) (keep : Bool) : (birthAlbum s i keep).regs.settingsId = s.regs.settingsId :=
  (edge_birthAlbum s i keep).2.2.1
@[simp] theorem edge_time_birthAlbum (s : State) (i : Nat) (keep : Bool) : (birthAlbum s i keep).time = s.time :=
  (edge_birthAlbum s i keep).2.2.2.1
@[simp] theorem edge_phase_birthAlbum (s : State) (i : Nat) (keep : Bool) : (birthAlbum s i keep).sys.phase = s.sys.phase :=
  (edge_birthAlbum s i keep).2.2.2.2.1
@[simp] theorem edge_tier_birthAlbum (s : State) (i : Nat) (keep : Bool) : (birthAlbum s i keep).sys.tier = s.sys.tier :=
  (edge_birthAlbum s i keep).2.2.2.2.2

theorem edge_refuseSeed (s : State) (arg1 : Nat) (reason : Nat) :
    (refuseSeed s arg1 reason).regs.act = s.regs.act ∧
    (refuseSeed s arg1 reason).regs.prev = s.regs.prev ∧
    (refuseSeed s arg1 reason).regs.settingsId = s.regs.settingsId ∧
    (refuseSeed s arg1 reason).time = s.time ∧
    (refuseSeed s arg1 reason).sys.phase = s.sys.phase ∧
    (refuseSeed s arg1 reason).sys.tier = s.sys.tier := by
  refine ⟨?_, ?_, ?_, ?_, ?_, ?_⟩ <;>
    (simp [refuseSeed])
@[simp] theorem edge_act_refuseSeed (s : State) (arg1 : Nat) (reason : Nat) : (refuseSeed s arg1 reason).regs.act = s.regs.act :=
  (edge_refuseSeed s arg1 reason).1
@[simp] theorem edge_prev_refuseSeed (s : State) (arg1 : Nat) (reason : Nat) : (refuseSeed s arg1 reason).regs.prev = s.regs.prev :=
  (edge_refuseSeed s arg1 reason).2.1
@[simp] theorem edge_settingsId_refuseSeed (s : State) (arg1 : Nat) (reason : Nat) : (refuseSeed s arg1 reason).regs.settingsId = s.regs.settingsId :=
  (edge_refuseSeed s arg1 reason).2.2.1
@[simp] theorem edge_time_refuseSeed (s : State) (arg1 : Nat) (reason : Nat) : (refuseSeed s arg1 reason).time = s.time :=
  (edge_refuseSeed s arg1 reason).2.2.2.1
@[simp] theorem edge_phase_refuseSeed (s : State) (arg1 : Nat) (reason : Nat) : (refuseSeed s arg1 reason).sys.phase = s.sys.phase :=
  (edge_refuseSeed s arg1 reason).2.2.2.2.1
@[simp] theorem edge_tier_refuseSeed (s : State) (arg1 : Nat) (reason : Nat) : (refuseSeed s arg1 reason).sys.tier = s.sys.tier :=
  (edge_refuseSeed s arg1 reason).2.2.2.2.2

theorem edge_reSeed (s : State) (i : Nat) (d : Seed) :
    (reSeed s i d).regs.act = s.regs.act ∧
    (reSeed s i d).regs.prev = s.regs.prev ∧
    (reSeed s i d).regs.settingsId = s.regs.settingsId ∧
    (reSeed s i d).time = s.time ∧
    (reSeed s i d).sys.phase = s.sys.phase ∧
    (reSeed s i d).sys.tier = s.sys.tier := by
  refine ⟨?_, ?_, ?_, ?_, ?_, ?_⟩ <;>
    (simp [reSeed])
@[simp] theorem edge_act_reSeed (s : State) (i : Nat) (d : Seed) : (reSeed s i d).regs.act = s.regs.act :=
  (edge_reSeed s i d).1
@[simp] theorem edge_prev_reSeed (s : State) (i : Nat) (d : Seed) : (reSeed s i d).regs.prev = s.regs.prev :=
  (edge_reSeed s i d).2.1
@[simp] theorem edge_settingsId_reSeed (s : State) (i : Nat) (d : Seed) : (reSeed s i d).regs.settingsId = s.regs.settingsId :=
  (edge_reSeed s i d).2.2.1
@[simp] theorem edge_time_reSeed (s : State) (i : Nat) (d : Seed) : (reSeed s i d).time = s.time :=
  (edge_reSeed s i d).2.2.2.1
@[simp] theorem edge_phase_reSeed (s : State) (i : Nat) (d : Seed) : (reSeed s i d).sys.phase = s.sys.phase :=
  (edge_reSeed s i d).2.2.2.2.1
@[simp] theorem edge_tier_reSeed (s : State) (i : Nat) (d : Seed) : (reSeed s i d).sys.tier = s.sys.tier :=
  (edge_reSeed s i d).2.2.2.2.2

theorem edge_applySeed (s : State) (d : Seed) (origin : Nat) :
    (applySeed s d origin).regs.act = s.regs.act ∧
    (applySeed s d origin).regs.prev = s.regs.prev ∧
    (applySeed s d origin).regs.settingsId = s.regs.settingsId ∧
    (applySeed s d origin).time = s.time ∧
    (applySeed s d origin).sys.phase = s.sys.phase ∧
    (applySeed s d origin).sys.tier = s.sys.tier := by
  refine ⟨?_, ?_, ?_, ?_, ?_, ?_⟩ <;>
    (unfold applySeed; dsimp only; (repeat' split) <;> simp)
@[simp] theorem edge_act_applySeed (s : State) (d : Seed) (origin : Nat) : (applySeed s d origin).regs.act = s.regs.act :=
  (edge_applySeed s d origin).1
@[simp] theorem edge_prev_applySeed (s : State) (d : Seed) (origin : Nat) : (applySeed s d origin).regs.prev = s.regs.prev :=
  (edge_applySeed s d origin).2.1
@[simp] theorem edge_settingsId_applySeed (s : State) (d : Seed) (origin : Nat) : (applySeed s d origin).regs.settingsId = s.regs.settingsId :=
  (edge_applySeed s d origin).2.2.1
@[simp] theorem edge_time_applySeed (s : State) (d : Seed) (origin : Nat) : (applySeed s d origin).time = s.time :=
  (edge_applySeed s d origin).2.2.2.1
@[simp] theorem edge_phase_applySeed (s : State) (d : Seed) (origin : Nat) : (applySeed s d origin).sys.phase = s.sys.phase :=
  (edge_applySeed s d origin).2.2.2.2.1
@[simp] theorem edge_tier_applySeed (s : State) (d : Seed) (origin : Nat) : (applySeed s d origin).sys.tier = s.sys.tier :=
  (edge_applySeed s d origin).2.2.2.2.2

theorem edge_applyCmd (s : State) (c : KenCmd) :
    (applyCmd s c).regs.act = s.regs.act ∧
    (applyCmd s c).regs.prev = s.regs.prev ∧
    (applyCmd s c).regs.settingsId = s.regs.settingsId ∧
    (applyCmd s c).time = s.time ∧
    (applyCmd s c).sys.phase = s.sys.phase ∧
    (applyCmd s c).sys.tier = s.sys.tier := by
  have w : ∀ (i : Nat) (f : Nat → State), (∀ j, ((f j).regs.act = s.regs.act ∧ (f j).regs.prev = s.regs.prev ∧
      (f j).regs.settingsId = s.regs.settingsId ∧ (f j).time = s.time ∧ (f j).sys.phase = s.sys.phase ∧
      (f j).sys.tier = s.sys.tier)) → ((withHandle s i f).regs.act = s.regs.act ∧
      (withHandle s i f).regs.prev = s.regs.prev ∧ (withHandle s i f).regs.settingsId = s.regs.settingsId ∧
      (withHandle s i f).time = s.time ∧ (withHandle s i f).sys.phase = s.sys.phase ∧
      (withHandle s i f).sys.tier = s.sys.tier) := by
    intro i f h
    unfold withHandle
    split
    · exact h _
    · exact edge_bump _ _
  cases c
  · exact edge_applySeed _ _ _
  · exact w _ _ fun j => edge_freeSlot _ _
  · exact w _ _ fun j => edge_freeSlot _ _
  · exact w _ _ fun j => by
      split
      · exact edge_setSlot _ _ _
      · exact edge_refuseSeed _ _ _
  · exact w _ _ fun j => by
      split
      · exact edge_setSlot _ _ _
      · exact edge_refuseSeed _ _ _
  · exact ⟨rfl, rfl, rfl, rfl, rfl, rfl⟩
@[simp] theorem edge_act_applyCmd (s : State) (c : KenCmd) : (applyCmd s c).regs.act = s.regs.act :=
  (edge_applyCmd s c).1
@[simp] theorem edge_prev_applyCmd (s : State) (c : KenCmd) : (applyCmd s c).regs.prev = s.regs.prev :=
  (edge_applyCmd s c).2.1
@[simp] theorem edge_settingsId_applyCmd (s : State) (c : KenCmd) : (applyCmd s c).regs.settingsId = s.regs.settingsId :=
  (edge_applyCmd s c).2.2.1
@[simp] theorem edge_time_applyCmd (s : State) (c : KenCmd) : (applyCmd s c).time = s.time :=
  (edge_applyCmd s c).2.2.2.1
@[simp] theorem edge_phase_applyCmd (s : State) (c : KenCmd) : (applyCmd s c).sys.phase = s.sys.phase :=
  (edge_applyCmd s c).2.2.2.2.1
@[simp] theorem edge_tier_applyCmd (s : State) (c : KenCmd) : (applyCmd s c).sys.tier = s.sys.tier :=
  (edge_applyCmd s c).2.2.2.2.2

theorem edge_cueWork (s : State) (go : List Nat) :
    (cueWork s go).regs.act = s.regs.act ∧
    (cueWork s go).regs.prev = s.regs.prev ∧
    (cueWork s go).regs.settingsId = s.regs.settingsId ∧
    (cueWork s go).time = s.time ∧
    (cueWork s go).sys.phase = s.sys.phase ∧
    (cueWork s go).sys.tier = s.sys.tier := by
  refine ⟨?_, ?_, ?_, ?_, ?_, ?_⟩ <;>
    (simp [cueWork, edge_fold_act, edge_fold_prev, edge_fold_settingsId, edge_fold_time, edge_fold_phase, edge_fold_tier])
@[simp] theorem edge_act_cueWork (s : State) (go : List Nat) : (cueWork s go).regs.act = s.regs.act :=
  (edge_cueWork s go).1
@[simp] theorem edge_prev_cueWork (s : State) (go : List Nat) : (cueWork s go).regs.prev = s.regs.prev :=
  (edge_cueWork s go).2.1
@[simp] theorem edge_settingsId_cueWork (s : State) (go : List Nat) : (cueWork s go).regs.settingsId = s.regs.settingsId :=
  (edge_cueWork s go).2.2.1
@[simp] theorem edge_time_cueWork (s : State) (go : List Nat) : (cueWork s go).time = s.time :=
  (edge_cueWork s go).2.2.2.1
@[simp] theorem edge_phase_cueWork (s : State) (go : List Nat) : (cueWork s go).sys.phase = s.sys.phase :=
  (edge_cueWork s go).2.2.2.2.1
@[simp] theorem edge_tier_cueWork (s : State) (go : List Nat) : (cueWork s go).sys.tier = s.sys.tier :=
  (edge_cueWork s go).2.2.2.2.2

theorem edge_beaconWork (l : List (Nat × Beacon)) (n : Nat) (s : State) :
    (beaconWork l n s).regs.act = s.regs.act ∧
    (beaconWork l n s).regs.prev = s.regs.prev ∧
    (beaconWork l n s).regs.settingsId = s.regs.settingsId ∧
    (beaconWork l n s).time = s.time ∧
    (beaconWork l n s).sys.phase = s.sys.phase ∧
    (beaconWork l n s).sys.tier = s.sys.tier := by
  induction l generalizing n s with
  | nil => exact ⟨rfl, rfl, rfl, rfl, rfl, rfl⟩
  | cons q t ih =>
    unfold beaconWork
    split
    · exact ⟨rfl, rfl, rfl, rfl, rfl, rfl⟩
    · split
      · exact ih n s
      · split <;> simp [ih]
@[simp] theorem edge_act_beaconWork (l : List (Nat × Beacon)) (n : Nat) (s : State) : (beaconWork l n s).regs.act = s.regs.act :=
  (edge_beaconWork l n s).1
@[simp] theorem edge_prev_beaconWork (l : List (Nat × Beacon)) (n : Nat) (s : State) : (beaconWork l n s).regs.prev = s.regs.prev :=
  (edge_beaconWork l n s).2.1
@[simp] theorem edge_settingsId_beaconWork (l : List (Nat × Beacon)) (n : Nat) (s : State) : (beaconWork l n s).regs.settingsId = s.regs.settingsId :=
  (edge_beaconWork l n s).2.2.1
@[simp] theorem edge_time_beaconWork (l : List (Nat × Beacon)) (n : Nat) (s : State) : (beaconWork l n s).time = s.time :=
  (edge_beaconWork l n s).2.2.2.1
@[simp] theorem edge_phase_beaconWork (l : List (Nat × Beacon)) (n : Nat) (s : State) : (beaconWork l n s).sys.phase = s.sys.phase :=
  (edge_beaconWork l n s).2.2.2.2.1
@[simp] theorem edge_tier_beaconWork (l : List (Nat × Beacon)) (n : Nat) (s : State) : (beaconWork l n s).sys.tier = s.sys.tier :=
  (edge_beaconWork l n s).2.2.2.2.2

theorem edge_featureWork (l : List Proposal) (s : State) :
    (featureWork l s).regs.act = s.regs.act ∧
    (featureWork l s).regs.prev = s.regs.prev ∧
    (featureWork l s).regs.settingsId = s.regs.settingsId ∧
    (featureWork l s).time = s.time ∧
    (featureWork l s).sys.phase = s.sys.phase ∧
    (featureWork l s).sys.tier = s.sys.tier := by
  induction l generalizing s with
  | nil => exact ⟨rfl, rfl, rfl, rfl, rfl, rfl⟩
  | cons q t ih =>
    unfold featureWork
    split
    · exact ih s
    · split <;> simp [ih]
@[simp] theorem edge_act_featureWork (l : List Proposal) (s : State) : (featureWork l s).regs.act = s.regs.act :=
  (edge_featureWork l s).1
@[simp] theorem edge_prev_featureWork (l : List Proposal) (s : State) : (featureWork l s).regs.prev = s.regs.prev :=
  (edge_featureWork l s).2.1
@[simp] theorem edge_settingsId_featureWork (l : List Proposal) (s : State) : (featureWork l s).regs.settingsId = s.regs.settingsId :=
  (edge_featureWork l s).2.2.1
@[simp] theorem edge_time_featureWork (l : List Proposal) (s : State) : (featureWork l s).time = s.time :=
  (edge_featureWork l s).2.2.2.1
@[simp] theorem edge_phase_featureWork (l : List Proposal) (s : State) : (featureWork l s).sys.phase = s.sys.phase :=
  (edge_featureWork l s).2.2.2.2.1
@[simp] theorem edge_tier_featureWork (l : List Proposal) (s : State) : (featureWork l s).sys.tier = s.sys.tier :=
  (edge_featureWork l s).2.2.2.2.2

theorem edge_scentRemove (s : State) (slot snap : Nat) :
    (scentRemove s slot snap).regs.act = s.regs.act ∧
    (scentRemove s slot snap).regs.prev = s.regs.prev ∧
    (scentRemove s slot snap).regs.settingsId = s.regs.settingsId ∧
    (scentRemove s slot snap).time = s.time ∧
    (scentRemove s slot snap).sys.phase = s.sys.phase ∧
    (scentRemove s slot snap).sys.tier = s.sys.tier := by
  refine ⟨?_, ?_, ?_, ?_, ?_, ?_⟩ <;>
    (simp [scentRemove, apply_ite State.regs, apply_ite Regs.act, apply_ite Regs.prev, apply_ite Regs.settingsId, apply_ite State.time, apply_ite State.sys, apply_ite Sys.phase, apply_ite Sys.tier, edge_fold_act, edge_fold_prev, edge_fold_settingsId, edge_fold_time, edge_fold_phase, edge_fold_tier])
@[simp] theorem edge_act_scentRemove (s : State) (slot snap : Nat) : (scentRemove s slot snap).regs.act = s.regs.act :=
  (edge_scentRemove s slot snap).1
@[simp] theorem edge_prev_scentRemove (s : State) (slot snap : Nat) : (scentRemove s slot snap).regs.prev = s.regs.prev :=
  (edge_scentRemove s slot snap).2.1
@[simp] theorem edge_settingsId_scentRemove (s : State) (slot snap : Nat) : (scentRemove s slot snap).regs.settingsId = s.regs.settingsId :=
  (edge_scentRemove s slot snap).2.2.1
@[simp] theorem edge_time_scentRemove (s : State) (slot snap : Nat) : (scentRemove s slot snap).time = s.time :=
  (edge_scentRemove s slot snap).2.2.2.1
@[simp] theorem edge_phase_scentRemove (s : State) (slot snap : Nat) : (scentRemove s slot snap).sys.phase = s.sys.phase :=
  (edge_scentRemove s slot snap).2.2.2.2.1
@[simp] theorem edge_tier_scentRemove (s : State) (slot snap : Nat) : (scentRemove s slot snap).sys.tier = s.sys.tier :=
  (edge_scentRemove s slot snap).2.2.2.2.2

theorem edge_removeLost (s : State) :
    (removeLost s).regs.act = s.regs.act ∧
    (removeLost s).regs.prev = s.regs.prev ∧
    (removeLost s).regs.settingsId = s.regs.settingsId ∧
    (removeLost s).time = s.time ∧
    (removeLost s).sys.phase = s.sys.phase ∧
    (removeLost s).sys.tier = s.sys.tier := by
  refine ⟨?_, ?_, ?_, ?_, ?_, ?_⟩ <;>
    (simp [removeLost, apply_ite State.regs, apply_ite Regs.act, apply_ite Regs.prev, apply_ite Regs.settingsId, apply_ite State.time, apply_ite State.sys, apply_ite Sys.phase, apply_ite Sys.tier, edge_fold_act, edge_fold_prev, edge_fold_settingsId, edge_fold_time, edge_fold_phase, edge_fold_tier])
@[simp] theorem edge_act_removeLost (s : State) : (removeLost s).regs.act = s.regs.act :=
  (edge_removeLost s).1
@[simp] theorem edge_prev_removeLost (s : State) : (removeLost s).regs.prev = s.regs.prev :=
  (edge_removeLost s).2.1
@[simp] theorem edge_settingsId_removeLost (s : State) : (removeLost s).regs.settingsId = s.regs.settingsId :=
  (edge_removeLost s).2.2.1
@[simp] theorem edge_time_removeLost (s : State) : (removeLost s).time = s.time :=
  (edge_removeLost s).2.2.2.1
@[simp] theorem edge_phase_removeLost (s : State) : (removeLost s).sys.phase = s.sys.phase :=
  (edge_removeLost s).2.2.2.2.1
@[simp] theorem edge_tier_removeLost (s : State) : (removeLost s).sys.tier = s.sys.tier :=
  (edge_removeLost s).2.2.2.2.2

theorem edge_kennelEdge (s : State) :
    (kennelEdge s).regs.act = s.regs.act ∧
    (kennelEdge s).regs.prev = s.regs.prev ∧
    (kennelEdge s).regs.settingsId = s.regs.settingsId ∧
    (kennelEdge s).time = s.time ∧
    (kennelEdge s).sys.phase = s.sys.phase ∧
    (kennelEdge s).sys.tier = s.sys.tier := by
  refine ⟨?_, ?_, ?_, ?_, ?_, ?_⟩ <;>
    (simp [kennelEdge, apply_ite State.regs, apply_ite Regs.act, apply_ite Regs.prev, apply_ite Regs.settingsId, apply_ite State.time, apply_ite State.sys, apply_ite Sys.phase, apply_ite Sys.tier, edge_fold_act, edge_fold_prev, edge_fold_settingsId, edge_fold_time, edge_fold_phase, edge_fold_tier])
@[simp] theorem edge_act_kennelEdge (s : State) : (kennelEdge s).regs.act = s.regs.act :=
  (edge_kennelEdge s).1
@[simp] theorem edge_prev_kennelEdge (s : State) : (kennelEdge s).regs.prev = s.regs.prev :=
  (edge_kennelEdge s).2.1
@[simp] theorem edge_settingsId_kennelEdge (s : State) : (kennelEdge s).regs.settingsId = s.regs.settingsId :=
  (edge_kennelEdge s).2.2.1
@[simp] theorem edge_time_kennelEdge (s : State) : (kennelEdge s).time = s.time :=
  (edge_kennelEdge s).2.2.2.1
@[simp] theorem edge_phase_kennelEdge (s : State) : (kennelEdge s).sys.phase = s.sys.phase :=
  (edge_kennelEdge s).2.2.2.2.1
@[simp] theorem edge_tier_kennelEdge (s : State) : (kennelEdge s).sys.tier = s.sys.tier :=
  (edge_kennelEdge s).2.2.2.2.2

theorem edge_ptrEdge (s : State) :
    (ptrEdge s).regs.act = s.regs.act ∧
    (ptrEdge s).regs.prev = s.regs.prev ∧
    (ptrEdge s).regs.settingsId = s.regs.settingsId ∧
    (ptrEdge s).time = s.time ∧
    (ptrEdge s).sys.phase = s.sys.phase ∧
    (ptrEdge s).sys.tier = s.sys.tier := by
  refine ⟨?_, ?_, ?_, ?_, ?_, ?_⟩ <;>
    (simp [ptrEdge, apply_ite State.regs, apply_ite Regs.act, apply_ite Regs.prev, apply_ite Regs.settingsId, apply_ite State.time, apply_ite State.sys])
@[simp] theorem edge_act_ptrEdge (s : State) : (ptrEdge s).regs.act = s.regs.act :=
  (edge_ptrEdge s).1
@[simp] theorem edge_prev_ptrEdge (s : State) : (ptrEdge s).regs.prev = s.regs.prev :=
  (edge_ptrEdge s).2.1
@[simp] theorem edge_settingsId_ptrEdge (s : State) : (ptrEdge s).regs.settingsId = s.regs.settingsId :=
  (edge_ptrEdge s).2.2.1
@[simp] theorem edge_time_ptrEdge (s : State) : (ptrEdge s).time = s.time :=
  (edge_ptrEdge s).2.2.2.1
@[simp] theorem edge_phase_ptrEdge (s : State) : (ptrEdge s).sys.phase = s.sys.phase :=
  (edge_ptrEdge s).2.2.2.2.1
@[simp] theorem edge_tier_ptrEdge (s : State) : (ptrEdge s).sys.tier = s.sys.tier :=
  (edge_ptrEdge s).2.2.2.2.2

theorem edge_setHp (s : State) (n : Nat) (p : HeelPort) :
    (setHp s n p).regs.act = s.regs.act ∧
    (setHp s n p).regs.prev = s.regs.prev ∧
    (setHp s n p).regs.settingsId = s.regs.settingsId ∧
    (setHp s n p).time = s.time ∧
    (setHp s n p).sys.phase = s.sys.phase ∧
    (setHp s n p).sys.tier = s.sys.tier := by
  exact ⟨rfl, rfl, rfl, rfl, rfl, rfl⟩
@[simp] theorem edge_act_setHp (s : State) (n : Nat) (p : HeelPort) : (setHp s n p).regs.act = s.regs.act :=
  (edge_setHp s n p).1
@[simp] theorem edge_prev_setHp (s : State) (n : Nat) (p : HeelPort) : (setHp s n p).regs.prev = s.regs.prev :=
  (edge_setHp s n p).2.1
@[simp] theorem edge_settingsId_setHp (s : State) (n : Nat) (p : HeelPort) : (setHp s n p).regs.settingsId = s.regs.settingsId :=
  (edge_setHp s n p).2.2.1
@[simp] theorem edge_phase_setHp (s : State) (n : Nat) (p : HeelPort) : (setHp s n p).sys.phase = s.sys.phase :=
  (edge_setHp s n p).2.2.2.2.1
@[simp] theorem edge_tier_setHp (s : State) (n : Nat) (p : HeelPort) : (setHp s n p).sys.tier = s.sys.tier :=
  (edge_setHp s n p).2.2.2.2.2

theorem edge_setLp (s : State) (n : Nat) (p : LshPort) :
    (setLp s n p).regs.act = s.regs.act ∧
    (setLp s n p).regs.prev = s.regs.prev ∧
    (setLp s n p).regs.settingsId = s.regs.settingsId ∧
    (setLp s n p).time = s.time ∧
    (setLp s n p).sys.phase = s.sys.phase ∧
    (setLp s n p).sys.tier = s.sys.tier := by
  exact ⟨rfl, rfl, rfl, rfl, rfl, rfl⟩
@[simp] theorem edge_act_setLp (s : State) (n : Nat) (p : LshPort) : (setLp s n p).regs.act = s.regs.act :=
  (edge_setLp s n p).1
@[simp] theorem edge_prev_setLp (s : State) (n : Nat) (p : LshPort) : (setLp s n p).regs.prev = s.regs.prev :=
  (edge_setLp s n p).2.1
@[simp] theorem edge_settingsId_setLp (s : State) (n : Nat) (p : LshPort) : (setLp s n p).regs.settingsId = s.regs.settingsId :=
  (edge_setLp s n p).2.2.1
@[simp] theorem edge_phase_setLp (s : State) (n : Nat) (p : LshPort) : (setLp s n p).sys.phase = s.sys.phase :=
  (edge_setLp s n p).2.2.2.2.1
@[simp] theorem edge_tier_setLp (s : State) (n : Nat) (p : LshPort) : (setLp s n p).sys.tier = s.sys.tier :=
  (edge_setLp s n p).2.2.2.2.2

theorem edge_heelCommitPort (s : State) (n : Nat) :
    (heelCommitPort s n).regs.act = s.regs.act ∧
    (heelCommitPort s n).regs.prev = s.regs.prev ∧
    (heelCommitPort s n).regs.settingsId = s.regs.settingsId ∧
    (heelCommitPort s n).time = s.time ∧
    (heelCommitPort s n).sys.phase = s.sys.phase ∧
    (heelCommitPort s n).sys.tier = s.sys.tier := by
  refine ⟨?_, ?_, ?_, ?_, ?_, ?_⟩ <;>
    (simp [heelCommitPort, apply_ite State.regs, apply_ite State.time, apply_ite State.sys])
@[simp] theorem edge_act_heelCommitPort (s : State) (n : Nat) : (heelCommitPort s n).regs.act = s.regs.act :=
  (edge_heelCommitPort s n).1
@[simp] theorem edge_prev_heelCommitPort (s : State) (n : Nat) : (heelCommitPort s n).regs.prev = s.regs.prev :=
  (edge_heelCommitPort s n).2.1
@[simp] theorem edge_settingsId_heelCommitPort (s : State) (n : Nat) : (heelCommitPort s n).regs.settingsId = s.regs.settingsId :=
  (edge_heelCommitPort s n).2.2.1
@[simp] theorem edge_time_heelCommitPort (s : State) (n : Nat) : (heelCommitPort s n).time = s.time :=
  (edge_heelCommitPort s n).2.2.2.1
@[simp] theorem edge_phase_heelCommitPort (s : State) (n : Nat) : (heelCommitPort s n).sys.phase = s.sys.phase :=
  (edge_heelCommitPort s n).2.2.2.2.1
@[simp] theorem edge_tier_heelCommitPort (s : State) (n : Nat) : (heelCommitPort s n).sys.tier = s.sys.tier :=
  (edge_heelCommitPort s n).2.2.2.2.2

theorem edge_heelEdge (s : State) :
    (heelEdge s).regs.act = s.regs.act ∧
    (heelEdge s).regs.prev = s.regs.prev ∧
    (heelEdge s).regs.settingsId = s.regs.settingsId ∧
    (heelEdge s).time = s.time ∧
    (heelEdge s).sys.phase = s.sys.phase ∧
    (heelEdge s).sys.tier = s.sys.tier := by
  refine ⟨?_, ?_, ?_, ?_, ?_, ?_⟩ <;>
    (simp [heelEdge, edge_fold_act, edge_fold_prev, edge_fold_settingsId, edge_fold_time, edge_fold_phase, edge_fold_tier])
@[simp] theorem edge_act_heelEdge (s : State) : (heelEdge s).regs.act = s.regs.act :=
  (edge_heelEdge s).1
@[simp] theorem edge_prev_heelEdge (s : State) : (heelEdge s).regs.prev = s.regs.prev :=
  (edge_heelEdge s).2.1
@[simp] theorem edge_settingsId_heelEdge (s : State) : (heelEdge s).regs.settingsId = s.regs.settingsId :=
  (edge_heelEdge s).2.2.1
@[simp] theorem edge_time_heelEdge (s : State) : (heelEdge s).time = s.time :=
  (edge_heelEdge s).2.2.2.1
@[simp] theorem edge_phase_heelEdge (s : State) : (heelEdge s).sys.phase = s.sys.phase :=
  (edge_heelEdge s).2.2.2.2.1
@[simp] theorem edge_tier_heelEdge (s : State) : (heelEdge s).sys.tier = s.sys.tier :=
  (edge_heelEdge s).2.2.2.2.2

theorem edge_discardCues (s : State) (n : Nat) :
    (discardCues s n).regs.act = s.regs.act ∧
    (discardCues s n).regs.prev = s.regs.prev ∧
    (discardCues s n).regs.settingsId = s.regs.settingsId ∧
    (discardCues s n).time = s.time ∧
    (discardCues s n).sys.phase = s.sys.phase ∧
    (discardCues s n).sys.tier = s.sys.tier := by
  refine ⟨?_, ?_, ?_, ?_, ?_, ?_⟩ <;>
    (simp [discardCues, apply_ite State.regs, apply_ite Regs.act, apply_ite Regs.prev, apply_ite Regs.settingsId, apply_ite State.time, apply_ite State.sys, apply_ite Sys.phase, apply_ite Sys.tier])
@[simp] theorem edge_act_discardCues (s : State) (n : Nat) : (discardCues s n).regs.act = s.regs.act :=
  (edge_discardCues s n).1
@[simp] theorem edge_prev_discardCues (s : State) (n : Nat) : (discardCues s n).regs.prev = s.regs.prev :=
  (edge_discardCues s n).2.1
@[simp] theorem edge_settingsId_discardCues (s : State) (n : Nat) : (discardCues s n).regs.settingsId = s.regs.settingsId :=
  (edge_discardCues s n).2.2.1
@[simp] theorem edge_time_discardCues (s : State) (n : Nat) : (discardCues s n).time = s.time :=
  (edge_discardCues s n).2.2.2.1
@[simp] theorem edge_phase_discardCues (s : State) (n : Nat) : (discardCues s n).sys.phase = s.sys.phase :=
  (edge_discardCues s n).2.2.2.2.1
@[simp] theorem edge_tier_discardCues (s : State) (n : Nat) : (discardCues s n).sys.tier = s.sys.tier :=
  (edge_discardCues s n).2.2.2.2.2

theorem edge_adoptCfg (s : State) (n : Nat) :
    (adoptCfg s n).regs.act = s.regs.act ∧
    (adoptCfg s n).regs.prev = s.regs.prev ∧
    (adoptCfg s n).regs.settingsId = s.regs.settingsId ∧
    (adoptCfg s n).time = s.time ∧
    (adoptCfg s n).sys.phase = s.sys.phase ∧
    (adoptCfg s n).sys.tier = s.sys.tier := by
  refine ⟨?_, ?_, ?_, ?_, ?_, ?_⟩ <;>
    (simp [adoptCfg])
@[simp] theorem edge_act_adoptCfg (s : State) (n : Nat) : (adoptCfg s n).regs.act = s.regs.act :=
  (edge_adoptCfg s n).1
@[simp] theorem edge_prev_adoptCfg (s : State) (n : Nat) : (adoptCfg s n).regs.prev = s.regs.prev :=
  (edge_adoptCfg s n).2.1
@[simp] theorem edge_settingsId_adoptCfg (s : State) (n : Nat) : (adoptCfg s n).regs.settingsId = s.regs.settingsId :=
  (edge_adoptCfg s n).2.2.1
@[simp] theorem edge_time_adoptCfg (s : State) (n : Nat) : (adoptCfg s n).time = s.time :=
  (edge_adoptCfg s n).2.2.2.1
@[simp] theorem edge_phase_adoptCfg (s : State) (n : Nat) : (adoptCfg s n).sys.phase = s.sys.phase :=
  (edge_adoptCfg s n).2.2.2.2.1
@[simp] theorem edge_tier_adoptCfg (s : State) (n : Nat) : (adoptCfg s n).sys.tier = s.sys.tier :=
  (edge_adoptCfg s n).2.2.2.2.2

theorem edge_leashCommitPort (s : State) (n : Nat) :
    (leashCommitPort s n).regs.act = s.regs.act ∧
    (leashCommitPort s n).regs.prev = s.regs.prev ∧
    (leashCommitPort s n).regs.settingsId = s.regs.settingsId ∧
    (leashCommitPort s n).time = s.time ∧
    (leashCommitPort s n).sys.phase = s.sys.phase ∧
    (leashCommitPort s n).sys.tier = s.sys.tier := by
  refine ⟨?_, ?_, ?_, ?_, ?_, ?_⟩ <;>
    (simp [leashCommitPort, apply_ite State.regs, apply_ite Regs.act, apply_ite Regs.prev, apply_ite Regs.settingsId, apply_ite State.time, apply_ite State.sys, apply_ite Sys.phase, apply_ite Sys.tier])
@[simp] theorem edge_act_leashCommitPort (s : State) (n : Nat) : (leashCommitPort s n).regs.act = s.regs.act :=
  (edge_leashCommitPort s n).1
@[simp] theorem edge_prev_leashCommitPort (s : State) (n : Nat) : (leashCommitPort s n).regs.prev = s.regs.prev :=
  (edge_leashCommitPort s n).2.1
@[simp] theorem edge_settingsId_leashCommitPort (s : State) (n : Nat) : (leashCommitPort s n).regs.settingsId = s.regs.settingsId :=
  (edge_leashCommitPort s n).2.2.1
@[simp] theorem edge_time_leashCommitPort (s : State) (n : Nat) : (leashCommitPort s n).time = s.time :=
  (edge_leashCommitPort s n).2.2.2.1
@[simp] theorem edge_phase_leashCommitPort (s : State) (n : Nat) : (leashCommitPort s n).sys.phase = s.sys.phase :=
  (edge_leashCommitPort s n).2.2.2.2.1
@[simp] theorem edge_tier_leashCommitPort (s : State) (n : Nat) : (leashCommitPort s n).sys.tier = s.sys.tier :=
  (edge_leashCommitPort s n).2.2.2.2.2

theorem edge_leashEdge (s : State) :
    (leashEdge s).regs.act = s.regs.act ∧
    (leashEdge s).regs.prev = s.regs.prev ∧
    (leashEdge s).regs.settingsId = s.regs.settingsId ∧
    (leashEdge s).time = s.time ∧
    (leashEdge s).sys.phase = s.sys.phase ∧
    (leashEdge s).sys.tier = s.sys.tier := by
  refine ⟨?_, ?_, ?_, ?_, ?_, ?_⟩ <;>
    (simp [leashEdge, edge_fold_act, edge_fold_prev, edge_fold_settingsId, edge_fold_time, edge_fold_phase, edge_fold_tier])
@[simp] theorem edge_act_leashEdge (s : State) : (leashEdge s).regs.act = s.regs.act :=
  (edge_leashEdge s).1
@[simp] theorem edge_prev_leashEdge (s : State) : (leashEdge s).regs.prev = s.regs.prev :=
  (edge_leashEdge s).2.1
@[simp] theorem edge_settingsId_leashEdge (s : State) : (leashEdge s).regs.settingsId = s.regs.settingsId :=
  (edge_leashEdge s).2.2.1
@[simp] theorem edge_time_leashEdge (s : State) : (leashEdge s).time = s.time :=
  (edge_leashEdge s).2.2.2.1
@[simp] theorem edge_phase_leashEdge (s : State) : (leashEdge s).sys.phase = s.sys.phase :=
  (edge_leashEdge s).2.2.2.2.1
@[simp] theorem edge_tier_leashEdge (s : State) : (leashEdge s).sys.tier = s.sys.tier :=
  (edge_leashEdge s).2.2.2.2.2

theorem edge_thermalEdge (s : State) (tj : BitVec 16) :
    (thermalEdge s tj).regs.act = s.regs.act ∧
    (thermalEdge s tj).regs.prev = s.regs.prev ∧
    (thermalEdge s tj).regs.settingsId = s.regs.settingsId ∧
    (thermalEdge s tj).time = s.time ∧
    (thermalEdge s tj).sys.phase = s.sys.phase ∧
    (thermalEdge s tj).sys.tier = s.sys.tier := by
  refine ⟨?_, ?_, ?_, ?_, ?_, ?_⟩ <;>
    (simp [thermalEdge, apply_ite State.regs, apply_ite Regs.act, apply_ite Regs.prev, apply_ite Regs.settingsId, apply_ite State.time, apply_ite State.sys, apply_ite Sys.phase, apply_ite Sys.tier])
@[simp] theorem edge_act_thermalEdge (s : State) (tj : BitVec 16) : (thermalEdge s tj).regs.act = s.regs.act :=
  (edge_thermalEdge s tj).1
@[simp] theorem edge_prev_thermalEdge (s : State) (tj : BitVec 16) : (thermalEdge s tj).regs.prev = s.regs.prev :=
  (edge_thermalEdge s tj).2.1
@[simp] theorem edge_settingsId_thermalEdge (s : State) (tj : BitVec 16) : (thermalEdge s tj).regs.settingsId = s.regs.settingsId :=
  (edge_thermalEdge s tj).2.2.1
@[simp] theorem edge_time_thermalEdge (s : State) (tj : BitVec 16) : (thermalEdge s tj).time = s.time :=
  (edge_thermalEdge s tj).2.2.2.1
@[simp] theorem edge_phase_thermalEdge (s : State) (tj : BitVec 16) : (thermalEdge s tj).sys.phase = s.sys.phase :=
  (edge_thermalEdge s tj).2.2.2.2.1
@[simp] theorem edge_tier_thermalEdge (s : State) (tj : BitVec 16) : (thermalEdge s tj).sys.tier = s.sys.tier :=
  (edge_thermalEdge s tj).2.2.2.2.2

theorem edge_endRecords (s : State) :
    (endRecords s).regs.act = s.regs.act ∧
    (endRecords s).regs.prev = s.regs.prev ∧
    (endRecords s).regs.settingsId = s.regs.settingsId ∧
    (endRecords s).time = s.time ∧
    (endRecords s).sys.phase = s.sys.phase ∧
    (endRecords s).sys.tier = s.sys.tier := by
  refine ⟨?_, ?_, ?_, ?_, ?_, ?_⟩ <;>
    (simp [endRecords, apply_ite State.regs, apply_ite Regs.act, apply_ite Regs.prev, apply_ite Regs.settingsId, apply_ite State.time, apply_ite State.sys, apply_ite Sys.phase, apply_ite Sys.tier, edge_fold_act, edge_fold_prev, edge_fold_settingsId, edge_fold_time, edge_fold_phase, edge_fold_tier])
@[simp] theorem edge_act_endRecords (s : State) : (endRecords s).regs.act = s.regs.act :=
  (edge_endRecords s).1
@[simp] theorem edge_prev_endRecords (s : State) : (endRecords s).regs.prev = s.regs.prev :=
  (edge_endRecords s).2.1
@[simp] theorem edge_settingsId_endRecords (s : State) : (endRecords s).regs.settingsId = s.regs.settingsId :=
  (edge_endRecords s).2.2.1
@[simp] theorem edge_time_endRecords (s : State) : (endRecords s).time = s.time :=
  (edge_endRecords s).2.2.2.1
@[simp] theorem edge_phase_endRecords (s : State) : (endRecords s).sys.phase = s.sys.phase :=
  (edge_endRecords s).2.2.2.2.1
@[simp] theorem edge_tier_endRecords (s : State) : (endRecords s).sys.tier = s.sys.tier :=
  (edge_endRecords s).2.2.2.2.2

theorem edge_keepSizes (s : State) :
    (keepSizes s).regs.act = s.regs.act ∧
    (keepSizes s).regs.prev = s.regs.prev ∧
    (keepSizes s).regs.settingsId = s.regs.settingsId ∧
    (keepSizes s).time = s.time ∧
    (keepSizes s).sys.phase = s.sys.phase ∧
    (keepSizes s).sys.tier = s.sys.tier := by
  exact ⟨rfl, rfl, rfl, rfl, rfl, rfl⟩
@[simp] theorem edge_act_keepSizes (s : State) : (keepSizes s).regs.act = s.regs.act :=
  (edge_keepSizes s).1
@[simp] theorem edge_prev_keepSizes (s : State) : (keepSizes s).regs.prev = s.regs.prev :=
  (edge_keepSizes s).2.1
@[simp] theorem edge_settingsId_keepSizes (s : State) : (keepSizes s).regs.settingsId = s.regs.settingsId :=
  (edge_keepSizes s).2.2.1
@[simp] theorem edge_time_keepSizes (s : State) : (keepSizes s).time = s.time :=
  (edge_keepSizes s).2.2.2.1
@[simp] theorem edge_phase_keepSizes (s : State) : (keepSizes s).sys.phase = s.sys.phase :=
  (edge_keepSizes s).2.2.2.2.1
@[simp] theorem edge_tier_keepSizes (s : State) : (keepSizes s).sys.tier = s.sys.tier :=
  (edge_keepSizes s).2.2.2.2.2

theorem edge_closePulses (s : State) (len : Nat) :
    (closePulses s len).regs.act = s.regs.act ∧
    (closePulses s len).regs.prev = s.regs.prev ∧
    (closePulses s len).regs.settingsId = s.regs.settingsId ∧
    (closePulses s len).time = s.time ∧
    (closePulses s len).sys.phase = s.sys.phase ∧
    (closePulses s len).sys.tier = s.sys.tier := by
  refine ⟨?_, ?_, ?_, ?_, ?_, ?_⟩ <;>
    (simp [closePulses, apply_ite State.regs, apply_ite Regs.act, apply_ite Regs.prev, apply_ite Regs.settingsId, apply_ite State.time, apply_ite State.sys, apply_ite Sys.phase, apply_ite Sys.tier, edge_fold_act, edge_fold_prev, edge_fold_settingsId, edge_fold_time, edge_fold_phase, edge_fold_tier])
@[simp] theorem edge_act_closePulses (s : State) (len : Nat) : (closePulses s len).regs.act = s.regs.act :=
  (edge_closePulses s len).1
@[simp] theorem edge_prev_closePulses (s : State) (len : Nat) : (closePulses s len).regs.prev = s.regs.prev :=
  (edge_closePulses s len).2.1
@[simp] theorem edge_settingsId_closePulses (s : State) (len : Nat) : (closePulses s len).regs.settingsId = s.regs.settingsId :=
  (edge_closePulses s len).2.2.1
@[simp] theorem edge_time_closePulses (s : State) (len : Nat) : (closePulses s len).time = s.time :=
  (edge_closePulses s len).2.2.2.1
@[simp] theorem edge_phase_closePulses (s : State) (len : Nat) : (closePulses s len).sys.phase = s.sys.phase :=
  (edge_closePulses s len).2.2.2.2.1
@[simp] theorem edge_tier_closePulses (s : State) (len : Nat) : (closePulses s len).sys.tier = s.sys.tier :=
  (edge_closePulses s len).2.2.2.2.2

theorem edge_closeTick (s : State) (at_ : Nat) :
    (closeTick s at_).regs.act = s.regs.act ∧
    (closeTick s at_).regs.prev = s.regs.prev ∧
    (closeTick s at_).regs.settingsId = s.regs.settingsId ∧
    (closeTick s at_).time = s.time ∧
    (closeTick s at_).sys.phase = s.sys.phase ∧
    (closeTick s at_).sys.tier = s.sys.tier := by
  refine ⟨?_, ?_, ?_, ?_, ?_, ?_⟩ <;>
    (simp [closeTick])
@[simp] theorem edge_act_closeTick (s : State) (at_ : Nat) : (closeTick s at_).regs.act = s.regs.act :=
  (edge_closeTick s at_).1
@[simp] theorem edge_prev_closeTick (s : State) (at_ : Nat) : (closeTick s at_).regs.prev = s.regs.prev :=
  (edge_closeTick s at_).2.1
@[simp] theorem edge_settingsId_closeTick (s : State) (at_ : Nat) : (closeTick s at_).regs.settingsId = s.regs.settingsId :=
  (edge_closeTick s at_).2.2.1
@[simp] theorem edge_time_closeTick (s : State) (at_ : Nat) : (closeTick s at_).time = s.time :=
  (edge_closeTick s at_).2.2.2.1
@[simp] theorem edge_phase_closeTick (s : State) (at_ : Nat) : (closeTick s at_).sys.phase = s.sys.phase :=
  (edge_closeTick s at_).2.2.2.2.1
@[simp] theorem edge_tier_closeTick (s : State) (at_ : Nat) : (closeTick s at_).sys.tier = s.sys.tier :=
  (edge_closeTick s at_).2.2.2.2.2

theorem edge_deferAll (s : State) (at_ : Nat) :
    (deferAll s at_).2.regs.act = s.regs.act ∧
    (deferAll s at_).2.regs.prev = s.regs.prev ∧
    (deferAll s at_).2.regs.settingsId = s.regs.settingsId ∧
    (deferAll s at_).2.time = s.time ∧
    (deferAll s at_).2.sys.phase = s.sys.phase ∧
    (deferAll s at_).2.sys.tier = s.sys.tier := by
  refine ⟨?_, ?_, ?_, ?_, ?_, ?_⟩ <;>
    (simp [deferAll])
@[simp] theorem edge_act_deferAll (s : State) (at_ : Nat) : (deferAll s at_).2.regs.act = s.regs.act :=
  (edge_deferAll s at_).1
@[simp] theorem edge_prev_deferAll (s : State) (at_ : Nat) : (deferAll s at_).2.regs.prev = s.regs.prev :=
  (edge_deferAll s at_).2.1
@[simp] theorem edge_settingsId_deferAll (s : State) (at_ : Nat) : (deferAll s at_).2.regs.settingsId = s.regs.settingsId :=
  (edge_deferAll s at_).2.2.1
@[simp] theorem edge_time_deferAll (s : State) (at_ : Nat) : (deferAll s at_).2.time = s.time :=
  (edge_deferAll s at_).2.2.2.1
@[simp] theorem edge_phase_deferAll (s : State) (at_ : Nat) : (deferAll s at_).2.sys.phase = s.sys.phase :=
  (edge_deferAll s at_).2.2.2.2.1
@[simp] theorem edge_tier_deferAll (s : State) (at_ : Nat) : (deferAll s at_).2.sys.tier = s.sys.tier :=
  (edge_deferAll s at_).2.2.2.2.2

theorem edge_sampleTemps (s : State) (env : EdgeEnv) :
    (sampleTemps s env).regs.act = s.regs.act ∧
    (sampleTemps s env).regs.prev = s.regs.prev ∧
    (sampleTemps s env).regs.settingsId = s.regs.settingsId ∧
    (sampleTemps s env).time = s.time ∧
    (sampleTemps s env).sys.phase = s.sys.phase ∧
    (sampleTemps s env).sys.tier = s.sys.tier := by
  have tr : ∀ {a b c : State}, (a.regs.act = b.regs.act ∧
      a.regs.prev = b.regs.prev ∧
      a.regs.settingsId = b.regs.settingsId ∧
      a.time = b.time ∧
      a.sys.phase = b.sys.phase ∧
      a.sys.tier = b.sys.tier) → (b.regs.act = c.regs.act ∧
      b.regs.prev = c.regs.prev ∧
      b.regs.settingsId = c.regs.settingsId ∧
      b.time = c.time ∧
      b.sys.phase = c.sys.phase ∧
      b.sys.tier = c.sys.tier) → (a.regs.act = c.regs.act ∧
      a.regs.prev = c.regs.prev ∧
      a.regs.settingsId = c.regs.settingsId ∧
      a.time = c.time ∧
      a.sys.phase = c.sys.phase ∧
      a.sys.tier = c.sys.tier) := fun h g =>
    ⟨h.1.trans g.1, h.2.1.trans g.2.1, h.2.2.1.trans g.2.2.1, h.2.2.2.1.trans g.2.2.2.1,
      h.2.2.2.2.1.trans g.2.2.2.2.1, h.2.2.2.2.2.trans g.2.2.2.2.2⟩
  unfold sampleTemps
  extract_lets tj max0 mx s1 s2 hot __src s3
  have h3 : (s3.regs.act = s2.regs.act ∧
      s3.regs.prev = s2.regs.prev ∧
      s3.regs.settingsId = s2.regs.settingsId ∧
      s3.time = s2.time ∧
      s3.sys.phase = s2.sys.phase ∧
      s3.sys.tier = s2.sys.tier) :=
    ⟨rfl, rfl, rfl, rfl, rfl, rfl⟩
  exact tr (edge_thermalEdge _ _) (tr h3 (tr (edge_setRegN _ _ _) (edge_setRegN _ _ _)))
@[simp] theorem edge_act_sampleTemps (s : State) (env : EdgeEnv) : (sampleTemps s env).regs.act = s.regs.act :=
  (edge_sampleTemps s env).1
@[simp] theorem edge_prev_sampleTemps (s : State) (env : EdgeEnv) : (sampleTemps s env).regs.prev = s.regs.prev :=
  (edge_sampleTemps s env).2.1
@[simp] theorem edge_settingsId_sampleTemps (s : State) (env : EdgeEnv) : (sampleTemps s env).regs.settingsId = s.regs.settingsId :=
  (edge_sampleTemps s env).2.2.1
@[simp] theorem edge_time_sampleTemps (s : State) (env : EdgeEnv) : (sampleTemps s env).time = s.time :=
  (edge_sampleTemps s env).2.2.2.1
@[simp] theorem edge_phase_sampleTemps (s : State) (env : EdgeEnv) : (sampleTemps s env).sys.phase = s.sys.phase :=
  (edge_sampleTemps s env).2.2.2.2.1
@[simp] theorem edge_tier_sampleTemps (s : State) (env : EdgeEnv) : (sampleTemps s env).sys.tier = s.sys.tier :=
  (edge_sampleTemps s env).2.2.2.2.2

theorem edge_raiseFloor (s : State) (f : Nat) :
    (raiseFloor s f).regs.act = s.regs.act ∧
    (raiseFloor s f).regs.prev = s.regs.prev ∧
    (raiseFloor s f).regs.settingsId = s.regs.settingsId ∧
    (raiseFloor s f).time = s.time ∧
    (raiseFloor s f).sys.phase = s.sys.phase ∧
    (raiseFloor s f).sys.tier = s.sys.tier := by
  refine ⟨?_, ?_, ?_, ?_, ?_, ?_⟩ <;>
    (unfold raiseFloor; dsimp only; (repeat' split) <;> simp)
@[simp] theorem edge_act_raiseFloor (s : State) (f : Nat) : (raiseFloor s f).regs.act = s.regs.act :=
  (edge_raiseFloor s f).1
@[simp] theorem edge_prev_raiseFloor (s : State) (f : Nat) : (raiseFloor s f).regs.prev = s.regs.prev :=
  (edge_raiseFloor s f).2.1
@[simp] theorem edge_settingsId_raiseFloor (s : State) (f : Nat) : (raiseFloor s f).regs.settingsId = s.regs.settingsId :=
  (edge_raiseFloor s f).2.2.1
@[simp] theorem edge_time_raiseFloor (s : State) (f : Nat) : (raiseFloor s f).time = s.time :=
  (edge_raiseFloor s f).2.2.2.1
@[simp] theorem edge_phase_raiseFloor (s : State) (f : Nat) : (raiseFloor s f).sys.phase = s.sys.phase :=
  (edge_raiseFloor s f).2.2.2.2.1
@[simp] theorem edge_tier_raiseFloor (s : State) (f : Nat) : (raiseFloor s f).sys.tier = s.sys.tier :=
  (edge_raiseFloor s f).2.2.2.2.2

theorem edge_windowStatus (s : State) (st : Nat) :
    (windowStatus s st).regs.act = s.regs.act ∧
    (windowStatus s st).regs.prev = s.regs.prev ∧
    (windowStatus s st).regs.settingsId = s.regs.settingsId ∧
    (windowStatus s st).time = s.time ∧
    (windowStatus s st).sys.phase = s.sys.phase ∧
    (windowStatus s st).sys.tier = s.sys.tier := by
  have tr : ∀ {a b c : State}, (a.regs.act = b.regs.act ∧
      a.regs.prev = b.regs.prev ∧
      a.regs.settingsId = b.regs.settingsId ∧
      a.time = b.time ∧
      a.sys.phase = b.sys.phase ∧
      a.sys.tier = b.sys.tier) → (b.regs.act = c.regs.act ∧
      b.regs.prev = c.regs.prev ∧
      b.regs.settingsId = c.regs.settingsId ∧
      b.time = c.time ∧
      b.sys.phase = c.sys.phase ∧
      b.sys.tier = c.sys.tier) → (a.regs.act = c.regs.act ∧
      a.regs.prev = c.regs.prev ∧
      a.regs.settingsId = c.regs.settingsId ∧
      a.time = c.time ∧
      a.sys.phase = c.sys.phase ∧
      a.sys.tier = c.sys.tier) := fun h g =>
    ⟨h.1.trans g.1, h.2.1.trans g.2.1, h.2.2.1.trans g.2.2.1, h.2.2.2.1.trans g.2.2.2.1,
      h.2.2.2.2.1.trans g.2.2.2.2.1, h.2.2.2.2.2.trans g.2.2.2.2.2⟩
  unfold windowStatus
  extract_lets l
  split
  exact tr (edge_bumpBy _ _ _) (edge_setRegN _ _ _)
@[simp] theorem edge_act_windowStatus (s : State) (st : Nat) : (windowStatus s st).regs.act = s.regs.act :=
  (edge_windowStatus s st).1
@[simp] theorem edge_prev_windowStatus (s : State) (st : Nat) : (windowStatus s st).regs.prev = s.regs.prev :=
  (edge_windowStatus s st).2.1
@[simp] theorem edge_settingsId_windowStatus (s : State) (st : Nat) : (windowStatus s st).regs.settingsId = s.regs.settingsId :=
  (edge_windowStatus s st).2.2.1
@[simp] theorem edge_time_windowStatus (s : State) (st : Nat) : (windowStatus s st).time = s.time :=
  (edge_windowStatus s st).2.2.2.1
@[simp] theorem edge_phase_windowStatus (s : State) (st : Nat) : (windowStatus s st).sys.phase = s.sys.phase :=
  (edge_windowStatus s st).2.2.2.2.1
@[simp] theorem edge_tier_windowStatus (s : State) (st : Nat) : (windowStatus s st).sys.tier = s.sys.tier :=
  (edge_windowStatus s st).2.2.2.2.2

theorem edge_planRegs (s : State) (p : Plan) :
    (planRegs s p).regs.act = s.regs.act ∧
    (planRegs s p).regs.prev = s.regs.prev ∧
    (planRegs s p).regs.settingsId = s.regs.settingsId ∧
    (planRegs s p).time = s.time ∧
    (planRegs s p).sys.phase = s.sys.phase ∧
    (planRegs s p).sys.tier = s.sys.tier := by
  have tr : ∀ {a b c : State}, (a.regs.act = b.regs.act ∧
      a.regs.prev = b.regs.prev ∧
      a.regs.settingsId = b.regs.settingsId ∧
      a.time = b.time ∧
      a.sys.phase = b.sys.phase ∧
      a.sys.tier = b.sys.tier) → (b.regs.act = c.regs.act ∧
      b.regs.prev = c.regs.prev ∧
      b.regs.settingsId = c.regs.settingsId ∧
      b.time = c.time ∧
      b.sys.phase = c.sys.phase ∧
      b.sys.tier = c.sys.tier) → (a.regs.act = c.regs.act ∧
      a.regs.prev = c.regs.prev ∧
      a.regs.settingsId = c.regs.settingsId ∧
      a.time = c.time ∧
      a.sys.phase = c.sys.phase ∧
      a.sys.tier = c.sys.tier) := fun h g =>
    ⟨h.1.trans g.1, h.2.1.trans g.2.1, h.2.2.1.trans g.2.2.1, h.2.2.2.1.trans g.2.2.2.1,
      h.2.2.2.2.1.trans g.2.2.2.2.1, h.2.2.2.2.2.trans g.2.2.2.2.2⟩
  unfold planRegs
  extract_lets shed m s1 s2 s3 s4 s5 s6 s7
  have h4 : (s4.regs.act = s.regs.act ∧
      s4.regs.prev = s.regs.prev ∧
      s4.regs.settingsId = s.regs.settingsId ∧
      s4.time = s.time ∧
      s4.sys.phase = s.sys.phase ∧
      s4.sys.tier = s.sys.tier) :=
    tr (edge_setRegN _ _ _) (tr (edge_setRegN _ _ _) (tr (edge_setRegN _ _ _) (tr (edge_setRegN _ _ _)
      (edge_setRegN s 0x060014 p.floor))))
  have h7 : (s7.regs.act = s.regs.act ∧
      s7.regs.prev = s.regs.prev ∧
      s7.regs.settingsId = s.regs.settingsId ∧
      s7.time = s.time ∧
      s7.sys.phase = s.sys.phase ∧
      s7.sys.tier = s.sys.tier) :=
    tr (edge_windowStatus _ _) (tr (edge_windowStatus _ _) (tr (edge_bumpBy _ _ _) (tr (edge_bumpBy _ _ _)
      (tr (edge_bumpBy _ _ _) h4))))
  split
  · exact tr (edge_refreshWaits _) (tr (edge_bump _ _) h7)
  · exact h7
@[simp] theorem edge_act_planRegs (s : State) (p : Plan) : (planRegs s p).regs.act = s.regs.act :=
  (edge_planRegs s p).1
@[simp] theorem edge_prev_planRegs (s : State) (p : Plan) : (planRegs s p).regs.prev = s.regs.prev :=
  (edge_planRegs s p).2.1
@[simp] theorem edge_settingsId_planRegs (s : State) (p : Plan) : (planRegs s p).regs.settingsId = s.regs.settingsId :=
  (edge_planRegs s p).2.2.1
@[simp] theorem edge_time_planRegs (s : State) (p : Plan) : (planRegs s p).time = s.time :=
  (edge_planRegs s p).2.2.2.1
@[simp] theorem edge_phase_planRegs (s : State) (p : Plan) : (planRegs s p).sys.phase = s.sys.phase :=
  (edge_planRegs s p).2.2.2.2.1
@[simp] theorem edge_tier_planRegs (s : State) (p : Plan) : (planRegs s p).sys.tier = s.sys.tier :=
  (edge_planRegs s p).2.2.2.2.2

theorem edge_openFrameAt (s : State) (e : Nat) (first : Bool) (synth : Bool) (gl : Bool × Bool × Bool) (defer : Bool × Bool × Bool) (p : Plan) :
    (openFrameAt s e first synth gl defer p).regs.act = s.regs.act ∧
    (openFrameAt s e first synth gl defer p).regs.prev = s.regs.prev ∧
    (openFrameAt s e first synth gl defer p).regs.settingsId = s.regs.settingsId ∧
    (openFrameAt s e first synth gl defer p).time = s.time ∧
    (openFrameAt s e first synth gl defer p).sys.phase = s.sys.phase ∧
    (openFrameAt s e first synth gl defer p).sys.tier = s.sys.tier := by
  refine ⟨?_, ?_, ?_, ?_, ?_, ?_⟩ <;>
    (simp [openFrameAt])
@[simp] theorem edge_act_openFrameAt (s : State) (e : Nat) (first : Bool) (synth : Bool) (gl : Bool × Bool × Bool) (defer : Bool × Bool × Bool) (p : Plan) : (openFrameAt s e first synth gl defer p).regs.act = s.regs.act :=
  (edge_openFrameAt s e first synth gl defer p).1
@[simp] theorem edge_prev_openFrameAt (s : State) (e : Nat) (first : Bool) (synth : Bool) (gl : Bool × Bool × Bool) (defer : Bool × Bool × Bool) (p : Plan) : (openFrameAt s e first synth gl defer p).regs.prev = s.regs.prev :=
  (edge_openFrameAt s e first synth gl defer p).2.1
@[simp] theorem edge_settingsId_openFrameAt (s : State) (e : Nat) (first : Bool) (synth : Bool) (gl : Bool × Bool × Bool) (defer : Bool × Bool × Bool) (p : Plan) : (openFrameAt s e first synth gl defer p).regs.settingsId = s.regs.settingsId :=
  (edge_openFrameAt s e first synth gl defer p).2.2.1
@[simp] theorem edge_time_openFrameAt (s : State) (e : Nat) (first : Bool) (synth : Bool) (gl : Bool × Bool × Bool) (defer : Bool × Bool × Bool) (p : Plan) : (openFrameAt s e first synth gl defer p).time = s.time :=
  (edge_openFrameAt s e first synth gl defer p).2.2.2.1
@[simp] theorem edge_phase_openFrameAt (s : State) (e : Nat) (first : Bool) (synth : Bool) (gl : Bool × Bool × Bool) (defer : Bool × Bool × Bool) (p : Plan) : (openFrameAt s e first synth gl defer p).sys.phase = s.sys.phase :=
  (edge_openFrameAt s e first synth gl defer p).2.2.2.2.1
@[simp] theorem edge_tier_openFrameAt (s : State) (e : Nat) (first : Bool) (synth : Bool) (gl : Bool × Bool × Bool) (defer : Bool × Bool × Bool) (p : Plan) : (openFrameAt s e first synth gl defer p).sys.tier = s.sys.tier :=
  (edge_openFrameAt s e first synth gl defer p).2.2.2.2.2

theorem edge_tickPulses (s : State) :
    (tickPulses s).regs.act = s.regs.act ∧
    (tickPulses s).regs.prev = s.regs.prev ∧
    (tickPulses s).regs.settingsId = s.regs.settingsId ∧
    (tickPulses s).time = s.time ∧
    (tickPulses s).sys.phase = s.sys.phase ∧
    (tickPulses s).sys.tier = s.sys.tier := by
  refine ⟨?_, ?_, ?_, ?_, ?_, ?_⟩ <;>
    (simp [tickPulses, apply_ite State.regs, apply_ite State.time, apply_ite State.sys, edge_fold_act, edge_fold_prev, edge_fold_settingsId, edge_fold_time, edge_fold_phase, edge_fold_tier])
@[simp] theorem edge_act_tickPulses (s : State) : (tickPulses s).regs.act = s.regs.act :=
  (edge_tickPulses s).1
@[simp] theorem edge_prev_tickPulses (s : State) : (tickPulses s).regs.prev = s.regs.prev :=
  (edge_tickPulses s).2.1
@[simp] theorem edge_settingsId_tickPulses (s : State) : (tickPulses s).regs.settingsId = s.regs.settingsId :=
  (edge_tickPulses s).2.2.1
@[simp] theorem edge_time_tickPulses (s : State) : (tickPulses s).time = s.time :=
  (edge_tickPulses s).2.2.2.1
@[simp] theorem edge_phase_tickPulses (s : State) : (tickPulses s).sys.phase = s.sys.phase :=
  (edge_tickPulses s).2.2.2.2.1
@[simp] theorem edge_tier_tickPulses (s : State) : (tickPulses s).sys.tier = s.sys.tier :=
  (edge_tickPulses s).2.2.2.2.2

end Sys2Proof.Laws
end

