-- ==== Sys2Proof/Laws/Fields.lean ====
section
/-!
SUPPORT. Fields of a register word: what a field reads after it, or another, is set.
-/

namespace Sys2Proof.Laws

open Sys2Proof.Machine

/-- A field, by bits. -/
theorem field_testBit (w : Word) (lo n i : Nat) :
    (field w lo n).testBit i = (decide (i < n) && w.getLsbD (lo + i)) := by
  simp [field, Nat.testBit_mod_two_pow, Nat.testBit_shiftRight, BitVec.getLsbD]

/-- A word with a field set, by bits. -/
theorem setField_getLsbD (w : Word) (lo n v i : Nat) (h : i < 32) :
    (setField w lo n v).getLsbD i
      = if lo ≤ i ∧ i < lo + n then v.testBit (i - lo) else w.getLsbD i := by
  have e : ((2 ^ n - 1) <<< lo).testBit i = decide (lo ≤ i ∧ i < lo + n) := by
    rw [Nat.testBit_shiftLeft, Nat.testBit_two_pow_sub_one]
    by_cases a : lo ≤ i <;> simp [a] <;> omega
  simp only [setField, BitVec.getLsbD_or, BitVec.getLsbD_and, BitVec.getLsbD_not, BitVec.getLsbD_ofNat, e, h,
    Nat.testBit_shiftLeft]
  by_cases a : lo ≤ i ∧ i < lo + n
  · simp [a]
  · simp [a]

/-- The field that was set reads what was put into it. -/
theorem field_setField_same (w : Word) (lo n v : Nat) (h : lo + n ≤ 32) :
    field (setField w lo n v) lo n = v % 2 ^ n := by
  apply Nat.eq_of_testBit_eq
  intro i
  rw [field_testBit, Nat.testBit_mod_two_pow]
  by_cases a : i < n
  · rw [setField_getLsbD _ _ _ _ _ (by omega)]
    simp [a]
  · simp [a]

/-- A field apart from the one that was set reads as before. -/
theorem field_setField_other (w : Word) (lo n v lo' n' : Nat) (h : lo' + n' ≤ 32)
    (d : lo' + n' ≤ lo ∨ lo + n ≤ lo') : field (setField w lo n v) lo' n' = field w lo' n' := by
  apply Nat.eq_of_testBit_eq
  intro i
  rw [field_testBit, field_testBit]
  by_cases a : i < n'
  · rw [setField_getLsbD _ _ _ _ _ (by omega), if_neg (by omega)]
  · simp [a]

end Sys2Proof.Laws
end

