-- ==== Sys2Proof/Laws/Gate.lean ====
section
/-!
SUPPORT. When a command acts: the four gates of the meanings, each open or shut by the state alone.
-/

namespace Sys2Proof.Laws

open Sys2Proof.Machine

theorem whenAwake_open (s : State) (f : State → State)
    (h : s.sys.phase = .run ∨ s.sys.phase = .waitFirst) : whenAwake s f = f s := by
  rcases h with h | h <;> simp [whenAwake, h]

theorem whenAwake_shut (s : State) (f : State → State)
    (h : s.sys.phase ≠ .run) (g : s.sys.phase ≠ .waitFirst) : whenAwake s f = s := by
  unfold whenAwake
  split <;> simp_all

theorem whenReg_open (s : State) (f : State → State)
    (h : s.sys.phase = .run ∨ s.sys.phase = .waitFirst ∨ s.sys.phase = .waitDebug) :
    whenReg s f = f s := by
  rcases h with h | h | h <;> simp [whenReg, h]

theorem whenReg_shut (s : State) (f : State → State) (h : s.sys.phase ≠ .run)
    (g : s.sys.phase ≠ .waitFirst) (k : s.sys.phase ≠ .waitDebug) : whenReg s f = s := by
  unfold whenReg
  split <;> simp_all

theorem whenTick_open (s : State) (f : State → State)
    (h : s.sys.phase = .run ∧ s.time.tickOpen = true) : whenTick s f = f s := by
  simp [whenTick, h]

theorem whenTick_shut (s : State) (f : State → State)
    (h : ¬(s.sys.phase = .run ∧ s.time.tickOpen = true)) : whenTick s f = s := by
  simp only [whenTick, if_neg h]

theorem whenTier_open (n : Nat) (s : State) (f : State → State)
    (h : s.sys.phase = .run ∧ s.time.tickOpen = true ∧ n ≤ s.sys.tier) : whenTier n s f = f s := by
  simp [whenTier, h]

theorem whenTier_shut (n : Nat) (s : State) (f : State → State)
    (h : ¬(s.sys.phase = .run ∧ s.time.tickOpen = true ∧ n ≤ s.sys.tier)) : whenTier n s f = s := by
  simp only [whenTier, if_neg h]

end Sys2Proof.Laws
end

