-- ==== Sys2Proof/Laws/Memory.lean ====
section
/-!
SUPPORT. The flash: every operation on it keeps the canonical form, and an erase and a program change only
the bytes that they name.
-/

namespace Sys2Proof.Laws

open Sys2Proof.Machine

theorem memory_wf_erase (m : SMap Byte) (a : Nat) (h : Memory.wf m = true) :
    Memory.wf (eraseSector m a) = true := wf_filter _ m _ h

theorem memory_wf_program (bs : List Byte) (m : SMap Byte) (a : Nat) (h : Memory.wf m = true) :
    Memory.wf (programBytes m a bs) = true := by
  induction bs generalizing m a with
  | nil => exact h
  | cons b t ih => exact ih _ _ (wf_mput _ _ _ _ h)

theorem memory_wf_burn (l : List (Nat × Byte)) (m : SMap Byte) (h : Memory.wf m = true) :
    Memory.wf (l.foldl (fun m (p : Nat × Byte) => mput 0xFF m p.1 p.2) m) = true := by
  induction l generalizing m with
  | nil => exact h
  | cons p t ih => exact ih _ (wf_mput _ _ _ _ h)

theorem memory_wf_reset : Memory.wf State.reset.boot.flash = true := by decide

theorem readSns_flash (s : State) : (readSns s).2.boot.flash = s.boot.flash := by
  unfold readSns; split <;> rfl

/-- The hold-up check leaves the flash as it is. -/
theorem holdupCheck_flash (s : State) (b : Bool) : (holdupCheck s b).2.boot.flash = s.boot.flash := by
  have hn := readSns_flash s
  unfold holdupCheck
  extract_lets pfw off
  split
  rename_i enough u heq
  have hu : u.boot.flash = s.boot.flash := by
    split at heq
    · simp only [Prod.mk.injEq] at heq; rw [← heq.2]
    · revert hn heq
      generalize readSns s = r
      intro hn heq
      simp only [Prod.mk.injEq] at heq
      rw [← heq.2, setRegN_boot, setFld_boot, hn]
  extract_lets v w
  have hv : v.boot.flash = s.boot.flash := by simp only [v, setFld_boot]; exact hu
  split
  · exact hv
  · show (if v.boot.recheck then v else bump v 0x03008C).boot.flash = _
    rw [← hv]
    split <;> simp

theorem flashTake_wf (s : State) (m : SMap Byte) (h : Memory.wf s.boot.flash = true) (hm : Memory.wf m = true) :
    Memory.wf (flashTake s m).2.boot.flash = true := by
  unfold flashTake; split
  · exact h
  · exact hm
  · exact hm

theorem flashErase_wf (s : State) (a : Nat) (h : Memory.wf s.boot.flash = true) :
    Memory.wf (flashErase s a).2.boot.flash = true := by
  have hc := holdupCheck_flash s true
  unfold flashErase
  split <;> rename_i t heq <;> rw [heq] at hc
  · exact flashTake_wf _ _ (hc ▸ h) (memory_wf_erase _ _ (hc ▸ h))
  · exact hc ▸ h

theorem flashProgram_wf (s : State) (a : Nat) (bs : List Byte) (h : Memory.wf s.boot.flash = true) :
    Memory.wf (flashProgram s a bs).2.boot.flash = true := by
  have hc := holdupCheck_flash s false
  unfold flashProgram
  split <;> rename_i t heq <;> rw [heq] at hc
  · exact flashTake_wf _ _ (hc ▸ h) (memory_wf_program _ _ _ (hc ▸ h))
  · exact hc ▸ h

/-- An erase gives the 4,096 bytes of its sector the erased value. -/
theorem mget_erase_inside (m : SMap Byte) (a b : Nat) (h : a ≤ b) (h' : b < a + 4096) :
    mget 0xFF (eraseSector m a) b = 0xFF := by
  unfold mget eraseSector
  induction m with
  | nil => rfl
  | cons p t ih =>
    simp only [List.filter_cons]
    split
    · rename_i hp
      obtain ⟨k, v⟩ := p
      have : k ≠ b := by simp only [decide_eq_true_eq] at hp; omega
      simpa [look, this] using ih
    · exact ih

/-- An erase leaves every byte outside its sector. -/
theorem mget_erase_outside (m : SMap Byte) (a b : Nat) (h : b < a ∨ a + 4096 ≤ b) :
    mget 0xFF (eraseSector m a) b = mget 0xFF m b := by
  unfold mget eraseSector
  induction m with
  | nil => rfl
  | cons p t ih =>
    obtain ⟨k, v⟩ := p
    simp only [List.filter_cons]
    split
    · by_cases hk : k = b
      · simp [look, hk]
      · simpa [look, hk] using ih
    · rename_i hp
      have : k ≠ b := by simp only [decide_eq_true_eq] at hp; omega
      simpa [look, this] using ih

/-- A program leaves every byte outside the bytes that it names. -/
theorem mget_program_outside (bs : List Byte) (m : SMap Byte) (a b : Nat)
    (h : b < a ∨ a + bs.length ≤ b) : mget 0xFF (programBytes m a bs) b = mget 0xFF m b := by
  induction bs generalizing m a with
  | nil => rfl
  | cons x t ih =>
    simp only [List.length_cons] at h
    unfold programBytes
    rw [ih _ _ (by omega), mget_mput_other _ _ _ _ _ (by omega)]

end Sys2Proof.Laws
end

