-- ==== Sys2Proof/Tests/Slice0.lean ====
section
/-!
SUPPORT. Tests: ill-formed commands that the check refuses, a witness for the hypotheses of every statement,
and single steps whose results the spec gives.
-/

namespace Sys2Proof.Tests

-- One theorem at a time, so that those that wait for the kernel hold no thread.
set_option Elab.async false

open Sys2Proof Sys2Proof.Machine Sys2Proof.Say

/-! ## States -/

/-- A running device in tier 3 with tick 5 open. -/
def base : State :=
  { State.reset with
    sys := { State.resetSys with phase := .run, tier := 3, pgoodLow := false, resetLow := false }
    time := { State.resetTime with
      tb := 1000100, src := .bus, tickOpen := true, k := 5, e := 1000000, cmp := 13500000, t := 12500000,
      tmin := 12000000 }
    boot := { State.resetBoot with cfgCopy := 1 } }

/-- The state with another phase. -/
def inPhase (p : Phase) (s : State) : State := { s with sys := { s.sys with phase := p } }

/-- The state with another tier. -/
def inTier (n : Nat) (s : State) : State := { s with sys := { s.sys with tier := n } }

/-- The state with a present value. -/
def wr (a : Nat) (v : Word) (s : State) : State := setReg s a v

/-- The state with a committed value. -/
def com (a : Nat) (v : Word) (s : State) : State :=
  { s with regs := { s.regs with act := rput s.regs.act a v } }

/-- The next state of a command. -/
def nx (c : Instr) (s : State) : State :=
  match exec c s with
  | .next t => t
  | _ => s

/-- A start with good supplies and no usable flash. -/
def env0 : StartEnv :=
  { us := 1000, ma := 3, supplies := true, refclk := true, genlockHz := 0, lockC := true, lockS := true, lockG := true,
    burned := [], sfdp := { jedec := 0, mbit := 511, valid := false, quad := false, octal := false },
    readA := false, readB := false, majority := [], senses := [], drifted := [], rngFails := 0, epochs := [],
    nonce := List.replicate 32 0, t1Fail := false, t2Fail := false, t3Fail := false, coreFail := 0,
    heelFail := false, auxFail := false, levels := List.replicate 4 (400, 12000), convTests := [], trims := [],
    obSlots := [] }

/-- What a tick edge meets in a device that is cool and well. -/
def edge0 : EdgeEnv := { tj := 0, light := 0, served := true, ceSram := 0, ceEdram := 0 }

/-- A line that shows nothing wrong but its words. -/
def line0 : LineTest := { latch := [0, 0, 0, 0], low := 400, high := 12000 }

/-! ## Well-formed commands: one ill-formed term for each check -/

theorem wf_refuses_start :
    (Instr.coldStart { env0 with ma := 8 }).wf = false ∧
    (Instr.warmRestart { env0 with nonce := [] }).wf = false ∧
    (Instr.coldStart { env0 with coreFail := 256 }).wf = false ∧
    (Instr.coldStart { env0 with convTests := [{ column := 8256, bank := 0, spare := none, a := line0, b := line0 }] }).wf
      = false ∧
    (Instr.coldStart { env0 with convTests := [{ column := 0, bank := 0, spare := some 4, a := line0, b := line0 }] }).wf
      = false ∧
    (Instr.coldStart { env0 with levels := [] }).wf = false ∧ (Instr.coldStart env0).wf = true := by decide

theorem wf_refuses_start_levels :
    { line0 with latch := [0] }.wf = false ∧ { line0 with low := 16381 }.wf = false ∧ line0.wf = true ∧
    (Instr.coldStart { env0 with levels := List.replicate 4 (16381, 0) }).wf = false ∧
    { row := 0, col := 8256, node := 0, reset := none, signal := none : Capture }.wf = false := by decide

theorem wf_refuses_trim :
    (Instr.coldStart { env0 with trims := [{ n := 32, slope := 0, ratio := 0, start := 0, median := 0 }] }).wf
      = false := by decide

theorem wf_refuses_imaging :
    (Instr.exposureStart 3072 1).wf = false ∧ (Instr.exposureStart 3071 0).wf = false ∧
    (Instr.transfer 0 5).wf = false ∧
    (Instr.rowSlot none none [{ row := 4, col := 0, node := 0, reset := none, signal := none }]).wf = false ∧
    (Instr.pyramidReady 3 0).wf = false ∧ (Instr.matchJobComplete 262144 ⟨0, false⟩).wf = false ∧
    (Instr.matchJobComplete 0 ⟨65, false⟩).wf = false ∧ (Instr.knownAnswerJob [65]).wf = false ∧
    (Instr.transfer 3071 4).wf = true := by decide

theorem wf_refuses_ports :
    (Instr.heelPortPark 128).wf = false ∧ (Instr.overrideTtlExpiry 128).wf = false ∧
    (Instr.leashLatch 128).wf = false ∧ (Instr.partnerLost 128).wf = false ∧
    (Instr.leashAck 128 [] true).wf = false ∧ (Instr.cueExpired 0 0).wf = false ∧
    (Instr.cueSendsDone 0 65536).wf = false ∧ (Instr.lshCueOp .mgb 0 256).wf = false ∧
    (Instr.kenCueGo .mgb 256).wf = false ∧ (Instr.leashLatch 127).wf = true := by decide

theorem wf_refuses_clocks :
    (Instr.timerFire 8).wf = false ∧ (Instr.gtCompareLo .shp 8 0).wf = false ∧
    (Instr.gtEnable .shp 8 0).wf = false ∧ (Instr.pllGWrite .mgb 0x010058 0).wf = false ∧
    (Instr.pllGWrite .mgb 0x010041 0).wf = false ∧ (Instr.clkoutEnable .mgb 4 0).wf = false ∧
    (Instr.clkoutChange .mgb 0 3 0).wf = false ∧ (Instr.clkoutDisable .mgb 4 0).wf = false ∧
    (Instr.trig0Edge ⟨0, true, 0, 3⟩ edge0).wf = false ∧ (Instr.trig1LevelChange 0 ⟨true, 0, 3⟩).wf = false := by decide

/-- Nothing comes with a transmission, after which the lanes are in stop state. -/
def phy0 : PktPhy := { corrected := false, served := 0, stop := true, hs := false }

theorem wf_refuses_aux :
    (Instr.auxPortEnable .mgb ⟨2, true, false⟩ 0).wf = false ∧
    (Instr.auxPortEnable .mgb ⟨0, true, true⟩ 0).wf = false ∧ (Instr.auxPortDisable .mgb 2 0).wf = false ∧
    (Instr.auxDeskew ⟨2, phy0⟩).wf = false ∧ (Instr.auxFs ⟨0, phy0⟩ 16 0).wf = false ∧ (Instr.auxFe ⟨0, phy0⟩ 0 65536).wf = false ∧
    (Instr.auxLongPacket 0 { vc := 0, dt := 64, phy := phy0, wc := 0, bytes := [], crcOk := true }).wf
      = false ∧
    (Instr.auxMissing 2).wf = false ∧ (Instr.genericShortPacket ⟨0, 16, phy0⟩).wf = false ∧
    (Instr.uncorrectableHeader ⟨2, phy0⟩).wf = false ∧ (Instr.auxDeskew ⟨0, { phy0 with hs := true }⟩).wf = false := by decide

/-- A header of the next packet on link A. -/
def hdr (seq body : Nat) : RxHdr := { link := 0, seq := seq, len := 2, ok := true, tag := 7, body := body }

theorem wf_refuses_links :
    (Instr.regRd { hdr 0 8 with link := 2 } 0 1).wf = false ∧ (Instr.regWr (hdr 0 12) 0 1 []).wf = false ∧
    (Instr.bulkRd (hdr 65536 16) 0 32).wf = false ∧ (Instr.bulkWr (hdr 0 48) 0 32 []).wf = false ∧
    (Instr.updBlock (hdr 0 17) 0 1 [] [] none).wf = false ∧ (Instr.updBlock (hdr 0 17) 0 0 [] [4096] none).wf = false ∧
    (Instr.trackKill { hdr 0 8 with len := 4096 } 0).wf = false ∧
    (Instr.timeSet { hdr 0 16 with tag := 2 ^ 32 } 0 0).wf = false ∧
    (Instr.unknownPacket (hdr 0 0) 0x45).wf = false ∧ (Instr.nlkAck 2 0).wf = false ∧
    (Instr.nlkNak 0 65536).wf = false ∧ (Instr.nlkCredit 0 3 0).wf = false ∧ (Instr.nlkAlign ⟨0, 0, (List.replicate 17 0)⟩).wf = false ∧
    (Instr.laneFailure 0 16).wf = false ∧ (Instr.creditStall 0 3).wf = false ∧
    (Instr.packetTransmit 2).wf = false := by decide

theorem wf_refuses_links_more :
    (Instr.nlkLaneFailRx 2 0).wf = false ∧ (Instr.nlkTs 0 ⟨0, [(16, false)]⟩ 0 false none).wf = false ∧
    (Instr.linkRetrain .mgb 2).wf = false ∧ (Instr.trainingTimeout 2).wf = false ∧
    (Instr.trainingRetry 2 true).wf = false ∧ (Instr.replayTimeout 2).wf = false ∧
    (Instr.controlUnitBadCrc ⟨0, idleUnit⟩).wf = false ∧ (Instr.controlUnitBadCrc ⟨0, (zeros 7)⟩).wf = false ∧
    (Instr.aimOverride { hdr 0 40 with link := 2 }
      { port := 0, mode := 0, axmask := 0, ttl := 0, px := 0, py := 0, pz := 0, axes := [] }).wf = false ∧
    (Instr.trackSeed { hdr 0 40 with link := 2 }
      { cls := 1, source := 0, flags := 0, frame := 0, x := 0, y := 0, w := 16, h := 16, tag := 0, label := 0,
        height := 0, slot := 0, groups := 0 }).wf = false := by decide +kernel

theorem wf_refuses_registers :
    (Instr.mgbPointerSet (2 ^ 24)).wf = false ∧ (Instr.mgbRegisterWrite (2 ^ 24) []).wf = false ∧
    (Instr.mgbBlockRead 0 256 ⟨0, false⟩).wf = false ∧ (Instr.rcRead .mgb 2).wf = false ∧
    (Instr.registerWrite .mgb (2 ^ 24) 0).wf = false ∧ (Instr.otpPulseDone (.done 4)).wf = false ∧
    (Instr.otpPulseDone (.aborted true 4)).wf = false ∧ (Instr.otpPulseDone (.aborted false 4)).wf = false ∧
    (Instr.otpPulseDone (.aborted false 3)).wf = true ∧ (Instr.secDbgGo [⟨true, true, .done 3⟩]).wf = false ∧
    (Instr.secDbgGo (List.replicate 6 ⟨true, true, .done 4⟩)).wf = false ∧ (Instr.logFlush [4096]).wf = false ∧ (Instr.archiveRead .mgb 131072).wf = false := by decide

theorem wf_refuses_memory :
    (UeLoc.supervisor (2 ^ 32)).wf = false ∧ (UeLoc.kennelSlot 262144).wf = false ∧
    (UeLoc.album 4096 0).wf = false ∧ (UeLoc.album 0 64).wf = false ∧ (UeLoc.scentSet 262144).wf = false ∧
    (UeLoc.pyramidRow 3 0 0 0).wf = false ∧ (UeLoc.pyramidRow 0 2 0 0).wf = false ∧ (UeLoc.statTile 2 0).wf = false ∧ (UeLoc.statHeader 2).wf = false ∧
    (UeLoc.auxStatHeader 2 0).wf = false ∧ (UeLoc.offset 262144).wf = false ∧ (UeLoc.burst 3072).wf = false ∧
    (UeLoc.collar 4).wf = false ∧ (UeLoc.replay 2).wf = false ∧ (UeLoc.cueJournal 128 0 true).wf = false ∧
    (UeLoc.tickJournal 262144 true).wf = false ∧
    (Instr.uncorrectableWord (.album 4096 0)).wf = false := by decide

/-! ## Witnesses: the step, the queue, starts and edges -/

theorem witness_IdleStepCountsTime :
    State.reset.pending = [] ∧ State.reset.sys.phase = .held ∧ base.pending = [] ∧ base.sys.phase ≠ .held ∧
    base.time.src = .bus := by decide

theorem witness_OnlyStartCommandsActInReset :
    State.reset.sys.phase = .held ∧ (inPhase .dark base).sys.phase = .dark ∧
    isStartCommand .mgbAbort = false := by decide

theorem witness_QueueIsFirstInFirstOut :
    step { base with pending := [.mgbAbort, .mgbRsAck] } = .next (nx .mgbAbort { base with pending := [.mgbRsAck] }) := rfl

theorem witness_FusesStayLegalAndOnlyRise :
    FuseInv State.reset ∧ step State.reset = .next State.reset :=
  ⟨⟨by decide, fun _ => Nat.zero_le 3⟩, rfl⟩

theorem witness_FlashStaysCanonical :
    Memory.wf State.reset.boot.flash = true ∧ step State.reset = .next State.reset := ⟨by decide, rfl⟩

theorem witness_ResetHoldsTheDevice : 2000 ≤ 2000 ∧ 1999 < 2000 := by decide

/-- A warm restart is due. -/
def due2 : State := { inPhase .restarting base with sys := { base.sys with phase := .restarting, cause := 2 } }

theorem witness_StartReachesTheFirstEdge :
    env0.supplies = true ∧ env0.refclk = true ∧ env0.sfdp.mbit < 512 ∧ env0.t1Fail = false ∧
    State.reset.otp.latch = false ∧ State.reset.sys.phase = .held ∧ due2.otp.latch = false ∧
    due2.sys.phase = .restarting ∧ 2 ≤ due2.sys.cause := by decide

/-- A start without REFCLK. -/
def waits : State := nx (.coldStart { env0 with refclk := false }) State.reset

theorem witness_StartWaitsForRefclk :
    State.reset.sys.phase = .held ∧ env0.supplies = true ∧ { env0 with refclk := false }.refclk = false ∧
    { env0 with supplies := false }.supplies = false ∧ waits.sys.phase = .waitRef ∧
    waits.sys.waiting = some { env0 with refclk := false } ∧ waits.otp.latch = false := by decide +kernel

theorem test_start :
    (nx (.coldStart { env0 with supplies := false }) State.reset).sys.phase = .held ∧
    waits.time.src = .slow := by decide +kernel

theorem witness_TickEdgeCommitsTheShadow :
    (inPhase .waitFirst base).sys.phase = .waitFirst ∧ base.time.slow = false ∧ Ticking base ∧
    base.img.cur.mode < 2 ∧ (inPhase .waitFirst base).upd.state ≠ 5 ∧ base.sys.fell = false ∧
    base.ptr.healthy = State.reset.ptr.healthy := by decide

/-- One write has landed, in the bus cycle of TB tb. -/
def landedAt (tb : Nat) : State :=
  { base with regs := { base.regs with landed := [{ tb := tb, addr := 0x040000, mask := 0xFFFFFFFF, old := 7 }] } }

theorem witness_LandedWritesAreCommitted :
    Ticking (landedAt 5) ∧ 5 < (landedAt 5).time.cmp ∧ (landedAt 13500000).time.cmp ≤ 13500000 ∧
    ((landedAt 13500000).regs.landed.map fun x => x.addr) = [0x040000] := by decide

/-- A trial bank before its first edge; its tier has fallen or not. -/
def trialFirst (fell : Bool) : State :=
  { inPhase .waitFirst base with upd := { base.upd with state := 5 }, sys := { (inPhase .waitFirst base).sys with fell := fell },
                                 ptr := { base.ptr with healthy := true } }

theorem witness_FirstEdgeOfATrial :
    (trialFirst true).sys.phase = .waitFirst ∧ (trialFirst true).upd.state = 5 ∧ (trialFirst true).sys.fell = true ∧
    (trialFirst false).sys.fell = false ∧ (trialFirst false).ptr.healthy = true := by decide

theorem test_late_write :
    rget ((landedAt 5).regs.shadowAt 13500000) 0x040000 = (landedAt 5).cur 0x040000 ∧
    rget ((landedAt 13500000).regs.shadowAt 13500000) 0x040000 = 7 := by decide

/-- A tick in EXTERNAL mode. -/
def external : State := wr 0x04C20C 0x000A000A { base with img := { base.img with cur := { base.img.cur with mode := 2 } } }

theorem witness_Trig0EdgeOpensWithinItsLimits :
    Ticking external ∧ external.time.slow = false ∧ 2 ≤ external.img.cur.mode ∧
    true = decide (external.fa 0x04C200 2 1 = 0) ∧ false ≠ decide (external.fa 0x04C200 2 1 = 0) ∧
    external.fc 0x04C20C 0 10 ≤ 10 ∧ 9 < external.fc 0x04C20C 0 10 ∧
    12999965 + trigDelay (external.fc 0x04C20C 0 10) 1 < external.time.e + external.time.tmin ∧
    external.time.e + external.time.tmin ≤ 12999966 + trigDelay (external.fc 0x04C20C 0 10) 1 ∧
    13499966 + trigDelay (external.fc 0x04C20C 0 10) 1 ≤ external.time.cmp := by decide

theorem test_trig0_early :
    ((nx (.trig0Edge ⟨12999965, true, 10, 1⟩ edge0) external).cur 0x04C220) = 1 ∧
    (nx (.trig0Edge ⟨12999965, true, 10, 1⟩ edge0) external).time.k = 5 ∧
    nx (.trig0Edge ⟨12999965, true, 9, 1⟩ edge0) external = external := by decide

theorem test_reset :
    (nx (.resetAssert .resetB) base).sys.phase = .held ∧ (nx (.supplyExcursion ⟨1999, false, true⟩) base).sys.phase = .run ∧
    (nx (.supplyExcursion ⟨2000, false, true⟩) base).sys.phase = .held := by decide

/-! ## Witnesses: management bus and Bark -/

theorem witness_BusErrorsAreCounted :
    Answers base ∧ Answers (inPhase .waitDebug base) ∧ Awake base ∧
    { base with mgb := { base.mgb with cut := true } }.mgb.cut = true ∧ base.mgb.cut = false ∧ (zeros 6).length = 6 ∧
    crc8 ((zeros 7 ++ [(1 : Byte)]).take 7) ≠ ((zeros 7 ++ [(1 : Byte)]).getD 7 0).toNat := by decide +kernel

theorem test_bus_errors :
    (nx .mgbAbort base).cur 0x120080 = 1 ∧ (nx .mgbAbort (wr 0x120000 0xFF base)).mgb.sdaTo = 18750000 ∧
    (nx .mgbRsAck { wr 0x120084 0xFFFFFFFF base with mgb := { base.mgb with cut := true } }).cur 0x120084
      = 0xFFFFFFFF ∧
    (nx .mgbSdaTimeout base).time.tb = 1000100 ∧ (nx .mgbSdaTimeout base).cur 0x120088 = 1 ∧
    (nx (.controlUnitBadCrc ⟨1, (zeros 7 ++ [1])⟩) base).cur 0x11014C = 1 := by decide +kernel

theorem witness_BusWritesWordsAtThePointer :
    Answers base ∧ 0 < 2 ^ 24 ∧ 0 % 4 = 0 ∧ 16777212 < 2 ^ 24 ∧ 16777212 % 4 = 0 ∧ 16777215 < 2 ^ 24 ∧
    16777215 % 4 ≠ 0 ∧ 1 ≤ [(0 : Byte)].length ∧ [(0 : Byte), 0, 0].length ≤ 3 ∧ [(0 : Byte)] ≠ [] := by decide

theorem test_bus_write :
    (nx (.mgbRegisterWrite 0x020040 [0x34, 0x12, 0, 0]) base).cur 0x020040 = 0x1234 ∧
    (nx (.mgbRegisterWrite 0x020040 [0x34, 0x12, 0]) base).cur 0x12008C = 1 ∧
    (nx (.mgbPointerSet 0x020044) base).mgb.ptr = 0x020044 := by decide

theorem witness_BusReadsFromThePointer :
    Answers base ∧ 0x120080 < 2 ^ 24 ∧ base.mgb.ptr < 2 ^ 24 ∧
    ((descOf (wordAt 0x120080 3)).any (·.rc)) = true ∧ ¬ ((descOf (wordAt 0x000000 0)).any (·.rc)) = true ∧
    (({ bytes := 4, cut := true } : Clocked).cut = true ∧ 0 < 4 ∧ 4 ≤ 4) := by decide

theorem test_bus_read :
    (nx (.mgbBlockRead 0x120080 4 ⟨6, false⟩) (wr 0x120080 0x01020304 base)).mgb.wire = [4, 3, 2, 1, 0xFF, 0xFF] ∧
    (nx (.mgbBlockRead 0x120080 4 ⟨6, false⟩) (wr 0x120080 0x01020304 base)).cur 0x120080 = 0 ∧
    (nx (.mgbBlockRead 0x120080 4 ⟨2, true⟩) (wr 0x120080 0x01020304 base)).cur 0x120080 = 0x01020304 ∧
    (nx (.mgbCurrentAddressRead ⟨4, false⟩) base).mgb.ptr = 4 := by decide

theorem witness_StretchTimeoutAppliesNothing : Answers base := by decide

theorem test_stretch :
    (nx (.mgbStretchTimeout (.fetch ⟨6, false⟩)) { base with mgb := { base.mgb with ptr := 6 } }).mgb.ptr = 8 ∧
    (nx (.mgbStretchTimeout (.fetch ⟨1, true⟩)) { base with mgb := { base.mgb with ptr := 6 } }).mgb.wire = [0xFF] ∧
    (nx (.mgbStretchTimeout .write) base).fc 0x120004 10 1 = 1 := by decide

/-- Bark code 7 is due. -/
def barking : State :=
  wr 0x120008 0x10010 (wr 0x12000C 0x7F (wr 0x120010 0x40 { base with
    mgb := { base.mgb with addr := 0x2A, cnt := [(6, 1)] } }))

theorem witness_BarkSendsTheDueCode :
    Awake barking ∧ barking.mgb.attempt = none ∧ barkOn barking = true ∧
    (rangeFrom 1 7).find? (barkDue barking) = some 7 ∧ (BarkResult.nack = .nack) ∧ barking.mgb.busy = false ∧
    (nx .mgbRsAck { barking with mgb := { barking.mgb with cut := true } }).mgb.busy = true := by decide

theorem test_bark :
    (nx (.bark .acked) barking).mgb.wire = [0x20, 0x54, 7, 1] ∧ (nx (.bark .acked) barking).cur 0x120098 = 1 ∧
    (nx (.bark .nack) barking).mgb.attempt = some (7, 1, 0) := by decide

/-- The Bark is to be tried again, after n retries. -/
def retrying (n : Nat) : State := { barking with mgb := { barking.mgb with attempt := some (7, 1, n) } }

theorem witness_BarkRetriesEightTimes :
    Awake (retrying 7) ∧ (retrying 7).mgb.attempt = some (7, 1, 7) ∧ barkOn (retrying 7) = true ∧
    barkDue (retrying 7) 7 = true ∧ 7 < 8 ∧ 1 ≤ 7 ∧ (retrying 6).mgb.attempt = some (7, 1, 6) ∧ 6 < 7 ∧
    (retrying 7).mgb.busy = false := by decide

theorem test_bark_retry :
    (nx (.barkRetry .nack) (retrying 7)).mgb.attempt = none ∧ (nx (.barkRetry .nack) (retrying 7)).cur 0x1200A0 = 1 ∧
    (nx (.barkRetry .nack) (retrying 6)).mgb.attempt = some (7, 1, 7) ∧
    (nx (.barkRetry .nack) (retrying 3)).mgb.tryAt = 6000000 + 93750 * base.boot.ma := by decide

theorem witness_BarkPendWriteClearsItsCodes :
    Answers barking ∧ 6 < 7 ∧ (0x40 : BitVec 7).getLsbD 6 = true ∧ (0x40 : BitVec 7).getLsbD 0 = false ∧
    mget 0 barking.mgb.seen 6 ≠ barking.time.tb + 1 ∧
    mget 0 (barkEvent barking 7).mgb.seen 6 = barking.time.tb + 1 ∧ mget 0 barking.mgb.cnt 6 ≠ 0 := by decide

theorem test_bark_clear :
    (nx (.barkPendClear .mgb 0x40) barking).fc 0x120010 6 1 = 0 ∧
    (nx (.barkPendClear .mgb 0x40) (barkEvent barking 7)).fc 0x120010 6 1 = 1 ∧
    mget 0 (nx (.barkPendClear .mgb 0x40) (barkEvent barking 7)).mgb.cnt 6 = 1 := by decide

/-! ## Witnesses: registers, brackets and exposure -/

theorem witness_RegisterWriteActsByClass :
    Answers base ∧ storesOnly 0x000000 = true ∧ isRefused base .mgb 0x000000 = true ∧
    storesOnly 0x020240 = true ∧ isRefused base .mgb 0x020240 = false ∧ storesOnly 0x000004 = true ∧
    isRefused base .mgb 0x000004 = false ∧ storesOnly 0x040000 = true ∧ isRefused base .mgb 0x040000 = false ∧
    base.regs.staged .mgb = none ∧ storesOnly 0x030118 = true ∧ isRefused base .mgb 0x030118 = false ∧
    ((descOf 0x030118).any fun d => decide (d.imm = 0 ∧ d.tick = 0 ∧ d.w1c = 0 ∧ BitVec.ofNat 32 d.held ≠ 0)) = true := by
  decide

/-- The clock and timer registers that the tests write. -/
theorem witness_RegisterWritesAreTheirCommands :
    Answers base ∧ Awake base ∧ gMask 0x010044 ≠ 0 ∧ 3 < 4 ∧ field (1 : Word) 0 1 = 1 ∧ field (0 : Word) 0 1 = 0 ∧
    7 < 8 ∧ 1 < 2 ∧ 127 < 128 ∧ field (1 : Word) 0 3 = 1 ∧ field (2 : Word) 0 3 = 2 ∧ field (4 : Word) 0 3 = 4 ∧
    field (1 : Word) 0 2 = 1 ∧ field (2 : Word) 0 2 = 2 ∧ field (7 : Word) 0 2 = 3 ∧ isCopied 0x0B0040 = true ∧
    isRefused base .mgb 0x0B0040 = false ∧ 95 < 96 ∧ isRefused base .mgb (0x0A0400 + 4 * 95) = false ∧
    isRefused base .mgb (0x0E0038 + 0x100 * 127) = false ∧ base.regs.staged .mgb = none := by decide

theorem test_register_commands :
    (nx (.registerWrite .mgb 0x130050 5) base).cur 0x130050 = 5 ∧
    ((nx (.registerWrite .mgb 0x0E0038 0) { base with heel := { base.heel with
      ports := [(0, { base.hp 0 with lead := 9 })] } }).hp 0).lead = 0 := by decide

theorem witness_RegisterWriteClasses :
    ((descOf 0x020240).any fun d => decide (d.tick = 0 ∧ d.held = 0 ∧ d.w1c = 0)) = true ∧
    ((descOf 0x000004).any fun d => decide (d.imm = 0 ∧ d.tick = 0 ∧ d.held = 0)) = true ∧
    ((descOf 0x040000).any fun d =>
      decide (d.imm = 0 ∧ d.held = 0 ∧ d.w1c = 0 ∧ BitVec.ofNat 32 d.tick ≠ 0)) = true := by decide

theorem test_register_write :
    (nx (.registerWrite .mgb 0x040000 0x123) base).cur 0x040000 = 0x123 ∧
    (nx (.registerWrite .mgb 0x040000 0x123) base).act 0x040000 = resetWord 0x040000 ∧
    (nx (.registerWrite .mgb 0x000000 1) base) = base := by decide

theorem witness_ReadingACounterTakesItsCount :
    Answers base ∧ descOf 0xFFFFFC = none ∧ ((descOf 0x120080).any fun d => d.rc) = true := by decide

theorem test_counter_read :
    (nx (.rcRead .mgb 0x120080) (wr 0x120080 9 base)).regs.lastRead = 9 ∧
    (nx (.rcRead .mgb 0x120080) (wr 0x120080 9 base)).cur 0x120080 = 0 ∧
    (nx (.rcRead .mgb 0xFFFFFC) base).regs.lastRead = 0 := by decide

/-- The bracket of the management bus is open, with one word staged. -/
def bracket : State :=
  { base with regs := { base.regs with stgMgb := some [(0x040000, 0xFFFFFFFF, 0x123)], cntMgb := 255 } }

theorem witness_RegisterWritesInABracket :
    Answers bracket ∧ bracket.regs.staged .mgb = some [(0x040000, 0xFFFFFFFF, 0x123)] ∧
    isRefused bracket .mgb 0x040000 = false ∧ isRefused bracket .mgb 0x0E0038 = false := by decide

theorem witness_BracketsOpenCloseAndAbort :
    Awake base ∧ base.regs.staged .mgb = none ∧ Awake bracket ∧
    bracket.regs.staged .mgb = some [(0x040000, 0xFFFFFFFF, 0x123)] ∧
    ([(0x040000, 0xFFFFFFFF, 0x123)].map (fun (x : Nat × Word × Word) => x.1)).Nodup ∧ Src.mgb ≠ .shp ∧
    field (3 : Word) 0 3 ∈ [3, 5, 6, 7] := by decide

theorem test_brackets :
    (nx (.expSetOpen .mgb) base).regs.stgMgb = some [] ∧
    (nx (.expSetClose .mgb) bracket).cur 0x040000 = 0x123 ∧ (nx (.expSetAbort .mgb) bracket).cur 0x04C12C = 1 ∧
    (nx (.expSetAbort .mgb) base).cur 0x04C130 = 1 := by decide

theorem witness_BracketMaxEndsTheBracket :
    (bracket.regs.staged .mgb).isSome = true ∧ orIf (bracket.fc 0x04C108 0 8) 1 ≤ bracket.regs.commits .mgb ∧
    base.regs.commits .mgb < orIf (base.fc 0x04C108 0 8) 1 := by decide

theorem test_bracket_max :
    (nx (.bracketMaxAbort .mgb) bracket).regs.stgMgb = none ∧ (nx (.bracketMaxAbort .mgb) bracket).cur 0x04C12C = 1 := by
  decide

/-- Tile 3071 is to expose once from boundary 10 to 20. -/
def exposing : State :=
  { base with img := { base.img with cur := { base.img.cur with tiles := [(3071,
    { TileExp.off with
      exps := [{ exists_ := true, start := 10, len := 10, dropped := false, started := false, done := false }] })] } } }

theorem witness_ExposureStartsAtItsBoundary :
    Ticking exposing ∧ 1 ≤ 1 ∧ 1 ≤ 4 ∧ ((exposing.tile 3071).exp 1).exists_ = true ∧
    ((exposing.tile 3071).exp 1).dropped = false ∧ ((exposing.tile 3071).exp 1).started = false ∧
    ((exposing.tile 3071).exp 1).done = false ∧ isGated exposing 3071 1 = false := by decide

/-- Node A of tile 3071 holds charge. -/
def holding : State :=
  { exposing with img := { exposing.img with nodes := [(6142, { phase := .held, frame := 4, n := 1 })] } }

theorem witness_TransferFillsOnlyAnEmptyNode :
    Ticking exposing ∧ expNode (entryOf exposing.regs.act 3071).mode 1 = 0 ∧
    ((exposing.tile 3071).exp 1).done = false ∧ isGated exposing 3071 1 = false ∧
    (exposing.node 3071 0).phase = .empty ∧ (holding.node 3071 0).phase ≠ .empty ∧ Ticking holding := by decide

theorem test_transfer :
    (nx (.transfer 3071 1) exposing).node 3071 0 = { phase := .held, frame := 5, n := 1 } ∧
    (nx (.transfer 3071 1) holding).cur 0x04C010 = 1 ∧
    ((nx (.exposureStart 3071 1) exposing).tile 3071).exps.map (fun e => e.started) = [true] := by decide

/-- The exposure of tile 3071 is gated by TRIG1, which is active from boundary 12 to 15. -/
def gatedOn : State :=
  com 0x04C200 3 (com 0x04BFFC 0x20000000
    { exposing with img := { exposing.img with
      hist := [(1000000 + 32 * 12, decide (trig1Want exposing = true)), (1000000 + 32 * 15, decide (trig1Want exposing ≠ true))] } })

/-- The same exposure, gated by TRIG1. -/
def gated : State := com 0x04C200 3 (com 0x04BFFC 0x20000000 exposing)

theorem witness_GatedExposureFollowsTheLevel :
    Ticking gatedOn ∧ ((gatedOn.tile 3071).exp 1).exists_ = true ∧ ((gatedOn.tile 3071).exp 1).dropped = false ∧
    ((gatedOn.tile 3071).exp 1).done = false ∧ ((gatedOn.tile 3071).exp 1).started = false ∧
    isGated gatedOn 3071 1 = true ∧ (gatedOn.node 3071 0).phase = .empty ∧ Interval gatedOn 10 20 12 15 := by
  refine ⟨by decide, by decide, by decide, by decide, by decide, by decide, by decide, by decide, by decide, by decide,
    ?_, ?_, fun _ => by decide⟩
  · intro n h1 h2
    have : n = 10 ∨ n = 11 := by omega
    rcases this with rfl | rfl <;> decide
  · intro n h1 h2
    have : n = 12 ∨ n = 13 ∨ n = 14 := by omega
    rcases this with rfl | rfl | rfl <;> decide

theorem test_gated_on :
    ((nx (.transfer 3071 1) gatedOn).tile 3071).gate = some (12, 3) ∧
    (nx (.exposureStart 3071 1) gatedOn).time.tb = 1000384 := by decide

theorem witness_GatedTransferWithoutLevelMakesNoPulse :
    Ticking gated ∧ ((gated.tile 3071).exp 1).exists_ = true ∧ isGated gated 3071 1 = true ∧
    firstAt gated.time.e gated.img.hist (trig1Want gated) 10 20 = none ∧ gated.img.gateMiss = false ∧
    { gated with img := { gated.img with gateMiss := true } }.img.gateMiss = true := by decide

theorem test_gated : (nx (.transfer 3071 1) gated).cur 0x04C228 = 1 := by decide

theorem witness_FlushEmptiesSkippedTileRows :
    Ticking holding ∧ holding.img.flushed = false ∧ Awake holding ∧ holding.img.trig1 ≠ true ∧
    holding.img.trig1 = false ∧ (wr 0x04C20C 0x000A000A holding).fc 0x04C20C 16 10 ≤ 10 ∧
    9 < (wr 0x04C20C 0x000A000A holding).fc 0x04C20C 16 10 ∧ holding.img.cur.plan.obRun = false ∧
    holding.img.cur.plan.made = false ∧ { holding with img := { holding.img with flushed := true } }.img.flushed = true := by
  decide

theorem test_flush :
    (nx .tileRowFlush holding).node 3071 0 = Node.empty ∧
    (nx (.trig1LevelChange 1000200 ⟨true, 10, 1⟩) (wr 0x04C20C 0x000A000A base)).img.hist = [(1000234, true)] ∧
    (nx (.trig1LevelChange 1000200 ⟨true, 9, 1⟩) (wr 0x04C20C 0x000A000A base)).img.hist = [] := by decide

/-! ## Witnesses: timecode, GENLOCK, SYNC, timers and clocks -/

/-- Timecode is read, and one word has been seen. -/
def timecode : State :=
  wr 0x04C300 1 { base with img := { base.img with
    tc := { word := some (1, 1000000), lastRate := 3, rate := 2 } } }

theorem witness_TimecodeWordIsKeptOrCounted :
    Awake timecode ∧ timecode.fc 0x04C300 0 1 = 1 ∧ timecode.fc 0x04C300 1 2 = 0 ∧
    timecode.img.tc.lastRate = nearestRate 25000000 ∧ timecode.img.tc.lastRate ≠ nearestRate 31250000 ∧
    (wr 0x04C300 3 timecode).fc 0x04C300 1 2 ≠ 0 := by decide

theorem test_timecode :
    (nx (.ltcWord 26000000 ⟨5, 25000000⟩ true) timecode).img.tc.word = some (5, 26000000) ∧
    (nx (.ltcWord 26000000 ⟨5, 25000000⟩ true) timecode).img.tc.rate = 3 ∧
    (nx (.ltcWord 26000000 ⟨5, 25000000⟩ false) timecode).cur 0x04C310 = 1 := by decide

/-- PLL-G follows pulses with a period of 1,000 counts. -/
def pulsed : State :=
  wr 0x010040 1 { base with clk := { base.clk with
    gUse := 0, gEnabled := true, gLock := true, gEver := true, pulse16 := some 0, period16 := some 16000 } }

theorem witness_GenlockPulseIsQualified :
    Awake pulsed ∧ pulseInput pulsed = true ∧ pulsed.clk.gEnabled = true ∧ pulsed.clk.pulse16 = some 0 ∧
    pulsed.clk.period16 = some 16000 ∧ 95 * 16000 ≤ 100 * (15200 - 0) ∧ 100 * (16800 - 0) ≤ 105 * 16000 ∧
    105 * 16000 < 100 * (16801 - 0) ∧ 100 * (15199 - 0) < 95 * 16000 ∧ pulsed.clk.gLock = true ∧
    legacyMode pulsed = false ∧ pulsed.clk.gEver = true ∧ 0 < 16000 ∧ 1 ≤ 2 ∧ 32000 - 0 = 2 * 16000 ∧
    { pulsed.clk with gLock := false }.gLock = false ∧ { pulsed.clk with gEver := false }.gEver = false ∧
    { pulsed with clk := { pulsed.clk with pulse16 := none } }.clk.pulse16 = none := by decide

theorem test_genlock_pulse :
    (nx (.genlockPulse 16800) pulsed).clk.pulse16 = some 16800 ∧ (nx (.genlockPulse 16801) pulsed).cur 0x01020C = 1 ∧
    (nx (.genlockPulse 16801) pulsed).clk.pulse16 = some 0 := by decide

theorem witness_GenlockHoldoverHoldsThePeriod :
    Awake (com 0x04C200 1 pulsed) ∧ edgeKind (com 0x04C200 1 pulsed) = 1 ∧
    pulsed.clk.pulse16 = some 0 ∧ pulsed.clk.period16 = some 16000 ∧
    pulseInput (com 0x04C200 1 pulsed) = true ∧ (com 0x04C200 1 pulsed).time.glHold = false ∧
    (com 0x04C200 1 pulsed).clk.gLock = true := by decide

theorem witness_GenlockHoldoverTwice :
    let s : State := { com 0x04C200 1 pulsed with time := { base.time with glHold := true } }
    Awake s ∧ edgeKind s = 1 ∧ pulseInput s = true ∧ s.time.glHold = true := by decide

theorem test_genlock_holdover :
    (nx .genlockHoldover (com 0x04C200 1 pulsed)).time.glHold = true ∧
    (nx .genlockHoldover (com 0x04C200 1 pulsed)).cur 0x010208 = 1 := by decide

/-- SYNC is an input, and output 3 follows it. -/
def synced : State :=
  wr 0x010074 1 (wr 0x010130 0x80 { base with clk := { base.clk with
    lastSync := some 2000000, outs := [(3, { ClkOut.off with running := true })] } })

theorem witness_SyncEdgeAlignsSelectedOutputs :
    Awake synced ∧ synced.fc 0x010074 0 1 = 1 ∧ synced.clk.lastSync = some 2000000 ∧
    max synced.time.tb 2000749 < 2000000 + 750 ∧ 2000000 + 750 ≤ max synced.time.tb 2000750 ∧
    synced.fc (0x010100 + 0x10 * 3) 7 1 = 1 ∧ (synced.out 3).running = true ∧
    false = decide (synced.fc 0x010074 1 1 = 1) ∧ true = decide (synced.fc 0x010074 1 1 = 0) ∧
    ¬ (synced.fc (0x010100 + 0x10 * 2) 7 1 = 1) := by decide

/-- Output 3 waits for SYNC on PLL-C with a divider of d. -/
def tooFast (d : Nat) : State :=
  { synced with clk := { synced.clk with cEnabled := true, cLock := true,
                                         outs := [(3, { ClkOut.off with waitSync := true, div := d })] } }

theorem witness_SyncEdgeStopsAFastOutput :
    Answers (tooFast 1) ∧ (tooFast 1).fc 0x010074 0 1 = 1 ∧ ((tooFast 1).out 3).waitSync = true ∧
    srcLocked (tooFast 1) ((tooFast 1).out 3).src = true ∧
    0 < (outFreq (tooFast 1) 0 1).2 ∧ fmtMax 0 * (outFreq (tooFast 1) 0 1).2 < (outFreq (tooFast 1) 0 1).1 ∧
    ¬ fmtMax 0 * (outFreq (tooFast 8) 0 8).2 < (outFreq (tooFast 8) 0 8).1 := by decide

theorem test_sync :
    ((nx (.syncEdge ⟨2000750, true⟩) synced).out 3).aligned.isSome = true ∧
    ((nx (.syncEdge ⟨2000750, true⟩) (tooFast 1)).out 3).waitSync = false ∧
    ((nx (.syncEdge ⟨2000750, true⟩) (tooFast 8)).out 3).running = true ∧
    (nx (.syncEdge ⟨2000749, true⟩) synced).cur 0x010214 = 1 ∧ (nx (.syncEdge ⟨2000750, true⟩) synced).cur 0x010210 = 1 := by decide

/-- Timer 7 is enabled and armed, 100 counts late, with a high word held. -/
def timed (iv : Word) : State :=
  wr 0x0181E0 1 (wr 0x0181E4 iv { base with clk := { base.clk with
    timers := [(7, { presc := 0, compare := 1000000, heldHi := some 1, armed := true, ivOld := none, fired := none })] } })

theorem witness_TimerFiresAndRearms :
    Answers (timed 0) ∧ 7 < 8 ∧ (timed 0).fc (0x018100 + 0x20 * 7) 0 1 = 1 ∧ ((timed 0).timer 7).armed = true ∧
    ((timed 0).timer 7).compare * 2 ^ ((timed 0).timer 7).presc + 500 ≤ 2 ^ 64 ∧
    (timed 0).time.frac < (refStep (timed 0).clk.refCode).2 ∧ ((timed 0).timer 7).fired = none ∧
    (timed 0).fc (0x018100 + 0x20 * 7) 1 1 = 0 ∧ (wr 0x0181E0 3 (timed 0)).fc (0x018100 + 0x20 * 7) 1 1 = 1 ∧
    (timed 0).time.slow = false ∧ (timed 0).time.src = .bus ∧ ((timed 0).timer 7).ivOld = none ∧
    ((timed 30).cur (0x018104 + 0x20 * 7)).toNat ≠ 0 ∧ ((timed 0).cur (0x018104 + 0x20 * 7)).toNat = 0 := by decide

theorem test_timer_fire :
    ((nx (.timerFire 7) (timed 30)).timer 7).compare = 1000120 ∧ (nx (.timerFire 7) (timed 30)).cur 0x0181F4 = 3 ∧
    ((nx (.timerFire 7) (timed 0)).timer 7).armed = false := by decide

/-- Timer 7 is enabled and armed for a later count, with a high word held. -/
def later (hi : Word) : State :=
  { timed 0 with clk := { (timed 0).clk with
    timers := [(7, { presc := 0, compare := 2000000, heldHi := some hi, armed := true, ivOld := none, fired := none })] } }

theorem witness_TimerWritesArmTheTimer :
    Answers (later 1) ∧ (later 1).fc (0x018100 + 0x20 * 7) 0 1 = 1 ∧ 3 < 4 ∧ Src.mgb ≠ .shp ∧ 4 ≤ 7 ∧
    ((later 1).timer 7).heldHi = some 1 ∧ (later 1).tb64 / 2 ^ ((later 1).timer 7).presc < ((later 1).timer 7).compare ∧
    (clockCycle (later 1)).tb64 / 2 ^ ((later 1).timer 7).presc < (1 : Word).toNat * 2 ^ 32 + (0 : Word).toNat ∧
    (0 : Word).toNat * 2 ^ 32 + (0 : Word).toNat ≤ (clockCycle (later 0)).tb64 / 2 ^ ((later 0).timer 7).presc ∧
    ((later 0).timer 7).heldHi = some 0 ∧ ((later 0).timer 7).fired = none ∧
    (wr 0x0181E0 0 (later 1)).fc (0x018100 + 0x20 * 7) 0 1 = 0 ∧
    (clockCycle (later 1)).tb64 / 2 ^ field (0xF0000 : Word) 16 4 < ((later 1).timer 7).compare := by decide

theorem test_timer_writes :
    ((nx (.gtCompareLo .mgb 7 5) (timed 0)).timer 7).compare = 4294967301 ∧
    (nx (.gtCompareLo .mgb 3 5) base) = base ∧ (nx (.gtCompareLo .mgb 7 5) (later 0)).cur 0x018200 = 0x80 ∧
    (nx (.gtEnable .mgb 7 0xF0000) (wr 0x0181E0 0 (timed 0))).cur 0x0181E0 = 0xF0001 := by decide

/-- The slow clock drives TB, past the compare. -/
def slow : State := { base with time := { base.time with slow := true, src := .slow, tb := 13500000 } }

/-- The debug port is open. -/
def halting : State := { base with otp := { base.otp with dbgEn := true } }

theorem witness_SlowClockComesAndGoes :
    Awake halting ∧ halting.time.slow = false ∧ halting.otp.dbgEn = true ∧ halting.otp.lifecycle ≠ 1 ∧
    base.otp.dbgEn = false ∧ Awake slow ∧ slow.time.slow = true ∧ slow.img.cur.mode = 0 ∧
    (wr 0x018200 1 slow).fc 0x018200 0 1 = 1 ∧ (wr 0x018100 2 slow).fc (0x018100 + 0x20 * 0) 1 1 = 1 := by decide

theorem test_slow_clock :
    (nx .slowClockEntry halting).time.src = .slow ∧ (nx .slowClockEntry halting).cur 0x018210 = 1 ∧
    nx .slowClockEntry base = base ∧ (nx .busClockReturn slow).time.cmp = 25500000 ∧
    (nx .busClockReturn slow).cur 0x018050 = 1 := by decide

/-- The loops are enabled, and locked or not. -/
def loops (c s g : Bool) : State :=
  { base with clk := { base.clk with
    cEnabled := true, sEnabled := true, gEnabled := true, cLock := c, sLock := s, gLock := g } }

/-- PLL-G cleans the reference. -/
def clean (l h : Bool) : State :=
  { base with clk := { base.clk with gUse := 1, gEnabled := true, gLock := l, gHoldover := h } }

theorem witness_LoopsDeclareLock :
    Awake (loops false false false) ∧ (loops false false false).clk.cEnabled = true ∧
    (loops false false false).clk.cLock = false ∧ (loops false false false).clk.refLost = false ∧
    (loops false false false).clk.sEnabled = true ∧ (loops false false false).clk.gLock = false ∧
    (loops true true true).clk.cLock = true ∧ (loops true true true).clk.sLock = true ∧
    (loops true true true).clk.gLock = true ∧ gLegal (clean false false) = true ∧ (clean false false).clk.gLock = false ∧ base.sys.vpllOk = true ∧ lockSel base = 0 ∧
    LocksBy (loops false false false) .c (List.replicate 256 8) ∧
    (List.replicate 256 8).length = (ldLimits (loops false false false) .c).1 ∧
    (List.replicate 256 8).all (fun x => decide (x ≤ (ldLimits (loops false false false) .c).2.1)) = true ∧
    mget 0 (loops false false false).clk.ld (pllIdx .c) = 0 ∧ base.clk.cEnabled = false := by decide +kernel

theorem test_pll_lock :
    (nx (.pllLock ⟨.c, (List.replicate 1000 0)⟩) (loops false false false)).clk.busSrc = 0 ∧
    (nx (.pllLock ⟨.s, (List.replicate 1000 0)⟩) (loops false false false)).clk.sLock = true ∧
    (nx (.pllLockTimeout .c) (loops false false false)).time.src = .refclk := by decide +kernel

theorem witness_LoopsThatDoNotLock :
    Awake (clean false false) ∧ (clean false false).clk.cLock = false ∧ (clean false false).clk.sLock = false ∧
    cleanUse (clean false false) = true ∧ (clean false false).clk.gEver = false ∧
    (clean false false).clk.gBypassed = false ∧ pulsed.clk.gEver = true := by decide

theorem witness_LoopsLoseLock :
    Awake (loops true true true) ∧ (loops true true true).clk.cLock = true ∧ (loops true true true).clk.sLock = true ∧
    (wr 0x010040 1 (loops true true true)).clk.gLock = true ∧ Awake (wr 0x010040 1 (loops true true true)) ∧
    pulseInput (wr 0x010040 1 (loops true true true)) = true ∧ pulseInput (clean true false) = false ∧ (clean true false).clk.gLock = true ∧
    LosesBy (loops true true true) .c (List.replicate 4 9) ∧ ¬ LosesBy (loops true true true) .c [9, 9, 9] ∧
    (List.replicate 4 9).length = (ldLimits (loops true true true) .c).2.2 ∧
    (List.replicate 4 9).all (fun x => decide ((ldLimits (loops true true true) .c).2.1 < x)) = true ∧
    pulseInput pulsed = true ∧ pulsed.clk.gLock = true ∧ pulsed.clk.pulse16 = some 0 ∧
    pulsed.clk.period16 = some 16000 := by decide

theorem test_loss :
    (nx (.pllCUnlock) (loops true true true)).sys.tier = 1 ∧ (nx .pllCUnlock (loops true true true)).cur 0x010200 = 1 ∧
    (nx (.pllLock ⟨.c, List.replicate 4 9⟩) (loops true true true)).clk.cLock = false ∧
    lockA (nx .pllCUnlock (loops true true true)) = .below ∧ (nx (.pllSUnlock) (loops true true true)).cur 0x010204 = 1 ∧
    (nx .pllGLockTimeout (clean false false)).clk.gBypassed = true := by decide

theorem witness_ReferenceLossCallsARestart : Awake base ∧ base.clk.refLost = false := by decide

theorem test_ref_lost : (nx .refLost base).sys.phase = .restarting ∧ (nx .refLost base).sys.cause = 5 := by decide

theorem witness_CleanInputIsLostAndReturns :
    Awake (clean true false) ∧ cleanUse (clean true false) = true ∧ (clean true false).clk.gHoldover = false ∧
    (clean true false).clk.gBypassed = false ∧ (clean false true).clk.gHoldover = true ∧
    cleanUse (clean false true) = true := by decide

theorem test_clean_input :
    (nx .pllGInputLost (clean true false)).clk.gHoldover = true ∧
    (nx .pllGInputReturn (clean false true)).clk.gReacquire = true := by decide

theorem witness_PllWritesRestartAcquisition :
    Awake (clean true false) ∧ gMask 0x010040 ≠ 0 ∧ gMask 0x010054 ≠ 0 ∧ cleanUse (clean true false) = true ∧
    cleanUse base = false ∧ (wr 0x010040 0 base).fc 0x010040 0 1 = 0 ∧
    (wr 0x010040 1 (loops true true true)).fc 0x010040 0 1 = 1 := by decide

theorem test_pll_write :
    (nx (.pllGWrite .mgb 0x010054 0xFF) (wr 0x010040 0 base)).cur 0x010054 = 0x7F ∧
    (nx (.pllGWrite .mgb 0x010054 0xFF) (clean true false)) = clean true false ∧
    (nx (.lockDetectWrite .mgb .g 0xFFFFFFFF) base).cur 0x010068 = 0x0FFF1FFF := by decide

theorem witness_OutputsStartAndStop :
    Awake (wr 0x010130 0 (loops true true true)) ∧ 3 < 4 ∧ (wr 0x010130 0 (loops true true true)).fc (0x010100 + 0x10 * 3) 0 1 = 0 ∧
    field (0x31 : Word) 1 3 < 5 ∧ field (1 : Word) 1 3 < 5 ∧
    srcLocked (wr 0x010130 0 (loops true true true)) (field (1 : Word) 1 3) = true ∧
    srcLocked (wr 0x010130 0 (loops false true true)) (field (1 : Word) 1 3) = false ∧
    (outFreq (wr 0x010134 60 (wr 0x010130 0 (loops true true true))) 0 60).1
      ≤ fmtMax (field (1 : Word) 4 2) * (outFreq (wr 0x010134 60 (wr 0x010130 0 (loops true true true))) 0 60).2 := by
  decide

/-- Output 3 runs, in the format f, and its next change waits for a SYNC reset. -/
def outRuns (f : Nat) : State :=
  let s := wr 0x010134 60 (wr 0x010130 0x101 (loops true true true))
  { s with clk := { s.clk with outs := [(3, { ClkOut.off with running := true, div := 60, fmt := f })] } }

theorem witness_OutputsWaitForSync :
    Answers (outRuns 0) ∧ (outRuns 0).sys.phase = .run ∧ (outRuns 0).fc (0x010100 + 0x10 * 3) 0 1 = 1 ∧
    (outRuns 0).fc (0x010100 + 0x10 * 3) 8 1 = 1 ∧ ((outRuns 0).out 3).running = true ∧
    (outRuns 0).fc (0x010100 + 0x10 * 3) 1 3 < 5 ∧
    srcLocked (outRuns 0) ((outRuns 0).fc (0x010100 + 0x10 * 3) 1 3) = true ∧ (outFreq (outRuns 0) 0 60).1 ≤
      fmtMax ((outRuns 0).fc (0x010100 + 0x10 * 3) 4 2) * (outFreq (outRuns 0) 0 60).2 ∧
    field (7 : Word) 0 16 ≠ (outRuns 0).fc (0x010100 + 0x10 * 3 + 8) 0 16 ∧ 2 ≤ ((outRuns 2).out 3).fmt := by
  decide +kernel

theorem test_outputs :
    ((nx (.clkoutEnable .mgb 3 1) (wr 0x010134 60 (wr 0x010130 0 (loops true true true)))).out 3).running = true ∧
    (nx (.clkoutEnable .mgb 3 1) (wr 0x010134 60 (wr 0x010130 0 (loops false true true)))).fc 0x010130 30 1 = 1 ∧
    (nx (.clkoutDisable .mgb 3 0) synced).clk.outs = [] ∧
    (nx (.clkoutChange .mgb 3 1 0xFF000005) (wr 0x010130 0 base)).cur 0x010134 = 5 := by decide

/-! ## Witnesses: conversion, statistics and exposure control -/

/-- A block of two slots is to be read. -/
def reading : State :=
  { base with img := { base.img with blocks := [{ kind := 0, row := 0, start := 3000, slotTime := 500, slots := 2, next := 1 }] } }

/-- The last slot of tile-row 0 is due in a main pass, or a burst pass, that goes on at tile-row 2. -/
def lastSlot (kind : Nat) : State :=
  { base with img := { base.img with
    nodes := [(0, { phase := .part, frame := 4, n := 1 }), (128, { phase := .held, frame := 4, n := 1 })],
    blocks := [{ kind := kind, row := 0, start := 3000, slotTime := 500, slots := 32, next := 31 },
               { kind := kind, row := 2, start := 19000, slotTime := 500, slots := 32, next := 0 }] } }

/-- A slot of the optical-black pass, whose rows are wanted or not. -/
def obSlot (out : Bool) : State :=
  { base with
    regs := { base.regs with
      prev := if out then rput (rput base.regs.prev 0x060000 2) 0x060040 0x80000000 else base.regs.prev }
    img := { base.img with blocks := [{ kind := 2, row := 0, start := 3000, slotTime := 500, slots := 8, next := 1 }] } }

/-- The first slot of tile-row 0, whose node A holds charge. -/
def firstSlot : State :=
  { base with img := { base.img with
    nodes := [(0, { phase := .held, frame := 4, n := 1 })],
    blocks := [{ kind := 0, row := 0, start := 3000, slotTime := 500, slots := 32, next := 0 }] } }

theorem witness_RowSlotTakesTheNextSlot :
    InTier 2 base ∧ base.img.blocks = [] ∧ InTier 2 (inTier 2 reading) ∧ reading.img.blocks.length = 1 ∧
    (lastSlot 0).img.blocks.length = 2 ∧ 0 / 128 = 0 ∧ 128 / 128 ≠ 0 ∧ (124 : Nat) / 4 = 32 * 0 + 31 := by decide

/-- Tile-row 0 of a main pass: its last slot, before the first of tile-row 1; the first slot of tile-row 1, for which
the lines of tile-row 0 wait; and its last slot as the last of the pass. -/
def rowBlock (row next : Nat) : Block := { kind := 0, row := row, start := 3000, slotTime := 500, slots := 32, next := next }

def rowsAt (blocks wait : List Block) : State :=
  { lastSlot 0 with img := { (lastSlot 0).img with blocks := blocks, wait := wait } }

theorem witness_RowsWaitForTheNext :
    InTier 2 (rowsAt [rowBlock 0 31, rowBlock 1 0] []) ∧ (rowBlock 0 31).next + 1 = (rowBlock 0 31).slots ∧
    (∃ c ∈ [rowBlock 1 0], c.kind = (rowBlock 0 31).kind ∧ c.row = (rowBlock 0 31).row + 1) ∧
    (rowsAt [rowBlock 1 0] [rowBlock 0 31]).img.wait = [rowBlock 0 31] ∧ (rowBlock 1 0).next = 0 ∧
    (rowBlock 1 0).slots ≠ 1 ∧ InTier 2 (rowsAt [rowBlock 0 31] []) ∧ (lastSlot 0).img.cur.plan.obRun = false ∧
    (obSlot true).img.blocks.length = 1 := by decide

theorem test_rows_wait :
    carriesOn (rowsAt [rowBlock 1 0] []) (rowBlock 0 31) = true ∧
    carriesOn (rowsAt [rowBlock 2 0] []) (rowBlock 0 31) = false := by decide

theorem witness_RowsLeaveWithTheirLastSlot :
    InTier 2 (lastSlot 1) ∧ (∀ st, ((lastSlot 1).streamFrame st).tail = none) ∧
    ((lastSlot 1).img.blocks.map fun b => (b.kind, b.row, b.next)) = [(1, 0, 31), (1, 2, 0)] ∧ obOut (obSlot false) = false ∧
    obOut (obSlot true) = true ∧
    (reading.img.blocks.map fun b => (b.kind, b.next, b.slots)) = [(0, 1, 2)] := by
  refine ⟨by decide, fun _ => rfl, by decide, by decide, by decide, by decide⟩

theorem test_row_slot :
    look (nx (.rowSlot none none []) firstSlot).img.nodes 0 = some { phase := .part, frame := 4, n := 1 } ∧
    ((nx (.rowSlot none none []) firstSlot).img.blocks.map fun b => b.next) = [1] ∧
    look (nx (.rowSlot (some 3) none []) firstSlot).img.prv.main 0 = some { reset := some 3, signal := none, caps := [] } := by
  decide +kernel

/-- The codes of a 12-bit frame whose slot 0 latched a reset of 448 and a signal of 1,448. -/
def cap0 (r g : Option Nat) : SlotCap := { reset := r, signal := g, caps := [] }

def codes (r g : Option Nat) : ReadCtx :=
  mainCtx { base with img := { base.img with prv := { base.img.prv with main := [(0, cap0 r g)] } } }

theorem witness_CodesFollowTheLatches :
    448 < 8192 ∧ look (codes (some (448 ^^^ 448 / 2)) (some (1448 ^^^ 1448 / 2))).caps (3 / 4)
      = some (cap0 (some (448 ^^^ 448 / 2)) (some (1448 ^^^ 1448 / 2))) ∧
    slotLatches (cap0 (some (448 ^^^ 448 / 2)) (some (1448 ^^^ 1448 / 2))) (3 % 4) 5 0
      = (some (448 ^^^ 448 / 2), some (1448 ^^^ 1448 / 2)) ∧
    slotLatches (cap0 (some (448 ^^^ 448 / 2)) none) (3 % 4) 5 0 = (some (448 ^^^ 448 / 2), none) ∧
    slotLatches (cap0 none (some 1)) (3 % 4) 5 0 = (none, some 1) := by decide

theorem test_codes :
    (codes (some (448 ^^^ 448 / 2)) (some (1448 ^^^ 1448 / 2))).rawCode 3 5 0 = 616 ∧
    (codes none (some 1)).rawCode 3 5 0 = 4095 := by decide +kernel

/-- A refresh pass is done. -/
def refreshed : State := { base with cnv := { base.cnv with passDone := true, nextGain := 3 } }

theorem witness_ReadoutEndsAndOffsetsRefresh :
    InTier 2 base ∧ base.img.blocks = [] ∧ base.img.ended = false ∧ reading.img.blocks ≠ [] ∧ InTier 2 reading ∧
    Awake refreshed ∧ refreshed.cnv.passDone = true ∧ base.cnv.passDone = false ∧
    Ticking (wr 0x050000 2 (wr 0x050010 1023 base)) ∧ (wr 0x050000 2 (wr 0x050010 1023 base)).fc 0x050000 1 1 = 1 ∧
    1023 ≤ ((wr 0x050000 2 (wr 0x050010 1023 base)).cur 0x050010).toNat ∧ base.cnv.due = none ∧
    base.cnv.fresh = none ∧ { base.cnv with due := some 0 }.due.isSome = true := by decide

theorem test_readout_end :
    (nx .readoutEnd base).img.ended = true ∧
    (nx .refreshDue (wr 0x050000 2 (wr 0x050010 1023 base))).cnv.due = some 0 ∧
    (nx (.refreshNow .mgb) base).cnv.due = some 0 := by decide

/-- Tile-row 0 of the frame now read is ready. -/
def statReady (en : Word) : State :=
  wr 0x0A0000 en { base with
    img := { base.img with
      cur := { base.img.cur with plan := { base.img.cur.plan with rows := [0] } },
      prv := { base.img.prv with k := 4, ready := [0] } },
    stat := { base.stat with banks := [(0, { Bank.empty with frame := 4 })] } }

theorem witness_StatsCompleteHandsTheBankOver :
    InTier 2 (statReady 1) ∧ (statReady 1).img.cur.plan.rows ≠ [] ∧ 0 < (statReady 1).time.k ∧
    ((statReady 1).bank (4 % 2)).state = 0 ∧ ((statReady 1).bank (4 % 2)).frame = (statReady 1).img.prv.k % 2 ^ 32 ∧
    ((statReady 1).img.cur.plan.rows.all fun j => (statReady 1).img.prv.ready.contains j) = true ∧
    (statReady 1).fc 0x0A0000 0 1 = 1 ∧ (statReady 0).fc 0x0A0000 0 1 = 0 ∧ (statReady 1).ae.waiting = none ∧
    ((statReady 1).bank (4 % 2)).lost = false ∧ { Bank.empty with lost := true }.lost = true ∧
    { (statReady 1).ae with waiting := some 1 }.waiting.isSome = true := by decide

/-- A complete bank waits for a run, or a run is under way in its bracket. -/
def aeWaits : State :=
  wr 0x0A0000 1 { base with
    ae := { base.ae with waiting := some 0 },
    stat := { base.stat with banks := [(0, { Bank.empty with frame := 4, state := 1 })] } }

def aeRuns : State :=
  wr 0x0A0000 1 { base with ae := { base.ae with running := some 0 }, regs := { base.regs with stgShp := some [] } }

theorem witness_AeRunWorksInTheShepherdBracket :
    InTier 2 aeWaits ∧ aeWaits.ae.waiting = some 0 ∧ aeWaits.ae.running = none ∧ aeWaits.fc 0x0A0000 0 1 = 1 ∧
    (aeWaits.bank 0).state % 2 = 1 ∧ aeWaits.regs.stgShp = none ∧ Awake aeRuns ∧ aeRuns.ae.running = some 0 ∧
    aeRuns.regs.stgShp = some [] ∧ Awake base ∧ base.ae.running = none := by decide

theorem witness_AeControlEndsTheRun :
    Awake aeRuns ∧ aeRuns.fc 0x0A0000 0 1 = 1 ∧ field (0 : Word) 0 1 = 0 ∧ aeRuns.ae.running.isSome = true ∧
    aeRuns.regs.stgShp = some [] ∧ aeRuns.fc 0x0A0000 1 1 = 0 ∧ field (7 : Word) 1 1 = 1 ∧
    aeRuns.fc 0x0A0000 2 1 = 0 ∧ field (7 : Word) 2 1 = 1 ∧ (wr 0x0A0000 2 base).fc 0x0A0000 0 1 = 0 ∧
    (wr 0x0A0000 2 base).fc 0x0A0000 1 1 = 1 ∧ field (1 : Word) 1 1 = 0 := by decide

theorem test_ae :
    (nx .aeRunEnd aeRuns).ae.running = none ∧ (nx (.aeCtrlWrite .mgb 0xFF) aeRuns).cur 0x0A0000 = 0x7F ∧
    (nx (.aeCtrlWrite .mgb 0xFF) aeRuns).cur 0x04C12C = 1 := by decide

/-! ## Witnesses: pyramids, matching and the Kennel -/

/-- A line of an auxiliary frame, and the frame, bound as source 1 and open. -/
def auxL (i : Nat) : AuxLine := { idx := i, dt := 0x2A, flags := 0, bytes := [0, 0] }

def auxF : AuxFrame :=
  { uid := 1, ending := false, phase := 0, endState := 0, frame := 4, id := 0, num := 1, fs := 1000000, first := true, bound := some 0, banks := [], dt := some 0x2A,
    next := 8191, received := 2, dropped := 0, crcErrs := 0, longest := 2, damaged := false, incomplete := false,
    truncated := false, open_ := true, lines := [auxL 0, auxL 1] }

/-- The last slot of tile-row 0 is read, and source 1 has two lines. -/
def built : State :=
  { base with
    img := { base.img with
      cur := { base.img.cur with plan := { base.img.cur.plan with rows := [0] } },
      prv := { base.img.prv with k := 4, main := [(31, { reset := none, signal := none, caps := [] })] } },
    aux := { base.aux with frames := [(7, [auxF])] } }

theorem witness_PyramidReadyBuildsItsRows :
    InTier 2 built ∧
    (built.img.cur.plan.rows.contains 0 && (look built.img.prv.main (32 * 0 + 31)).isSome
      && (!nextInTime built.img.cur.plan (slotCounts built.readSet) 0 || (look built.img.prv.main (32 * (0 + 1))).isSome)
      && !built.img.prv.ready.contains 0) = true ∧ (built.curPyr 1).upTo ≤ 0 ∧ 0 < auxTaken built auxF ∧
    (statReady 0).img.prv.ready.contains 0 = true ∧ InTier 2 (statReady 0) ∧ built.ptr.cut = false ∧
    srcFrame built 1 built.img.prv.k = some auxF ∧ (auxRow auxF 0 0).isSome = true ∧ 0 < 1536 ∧ 2 < 3 := by decide

theorem test_pyramid_aux :
    (look ((nx (.pyramidReady 1 0) built).curPyr 1).rows 0).isSome = true ∧
    (nx (.pyramidReady 3 0) built) = built := by decide

/-- A candidate subject on source 1, whose frame is one line high. -/
def probing : State :=
  wr 0x0D0004 1 { base with
    ken := { base.ken with slots := [(0, { Track.free 1 with state := 1, subj := true, source := 1, w := 16, h := 16 })] },
    ptr := { base.ptr with present := [1], pyr := [(2, { Pyr.empty with w := 16, h := 1, fullW := 16, fullH := 1 })] } }

theorem witness_ScentProbePairsOnlyLostSubjects :
    InTier 3 probing ∧ probing.ptr.cut = false ∧ probing.sct.probed = [] ∧ 0 < probing.fc 0x0D0004 0 16 ∧
    windowList probing = [{ src := 1, kind := 0, idx := 0, m := 0, x := 0, y := 0, w := 16, h := 16 }] ∧
    winReady probing { src := 1, kind := 0, idx := 0, m := 0, x := 0, y := 0, w := 16, h := 16 } = true ∧
    (wr 0x0D0004 0 probing).fc 0x0D0004 0 16 ≤ (wr 0x0D0004 0 probing).sct.probed.length ∧
    max probing.time.tb probing.sct.freeAt + 320 ≤ probing.time.e + cutAt probing ∧
    { probing with time := { base.time with tb := 2 ^ 24 } }.time.e + cutAt probing < max (2 ^ 24) 0 + 320 := by decide

theorem witness_KnownAnswerRetiresTheWrongLane :
    InTier 3 base ∧ base.ptr.kat = false ∧ base.sys.tier = 3 ∧ laneHealth base = true ∧ 63 < 64 ∧
    base.ptr.retired.contains 63 = false ∧ (com 0x0C0000 0x3F base).fa 0x0C0000 8 1 = 0 ∧
    { base.ptr with kat := true }.kat = true := by decide

theorem test_known_answer :
    (nx (.knownAnswerJob []) base).ptr.kat = true ∧ (nx (.knownAnswerJob [63]) base).ptr.spareFor = some 63 ∧
    (nx (.knownAnswerJob [63]) base).cur 0x0C0080 = 1 := by decide

/-- The job of slot 7 runs on lane 3. -/
def matching : State :=
  { base with
    ken := { base.ken with slots := [(7, { Track.free 1 with state := 2, hits := 15, miss := 14, age := 3 })] },
    ptr := { base.ptr with kat := true, running := [(3, (7, 1000000))] } }

/-- The job of slot 7 started at t. -/
def tooLate (t : Nat) : State := { matching with ptr := { matching.ptr with running := [(3, (7, t))] } }

theorem witness_MatchJobCommitsItsSlot :
    InTier 3 matching ∧ look matching.ptr.running 3 = some (7, 1000000) ∧ look matching.ptr.running 4 = none ∧
    1000000 + jobCounts (matching.slot 7) ≤ matching.time.e + lastEnd matching ∧ beforeSolve matching = true ∧
    (tooLate 12249500).time.e + lastEnd (tooLate 12249500) < 12249500 + jobCounts ((tooLate 12249500).slot 7) ∧
    beforeSolve { matching with ptr := { matching.ptr with solved := true } } = false := by decide

theorem test_match_job : nx (.matchJobComplete 7 ⟨3, true⟩) (tooLate 12249500) = tooLate 12249500 := by decide +kernel

/-- Matching has ended, with the re-run of slot 7 under way. -/
def cutOff (b : Bool) : State :=
  { matching with ptr := { matching.ptr with cut := true, booked := b } }

theorem witness_CutoffEndsMatching :
    InTier 3 (cutOff false) ∧ (cutOff false).ptr.cut = true ∧ (cutOff false).ptr.booked = false ∧
    (cutOff true).ptr.booked = true ∧ matching.ptr.cut = false ∧ matching.ptr.shadow = none ∧
    matching.ptr.replay = [] ∧ beforeSolve matching = true ∧ beforeSolve (cutOff false) = true := by decide

theorem test_replay_window :
    (nx .replayWindowEnd (cutOff false)).ptr.outcome = [(7, 3)] ∧ (nx .replayWindowEnd (cutOff false)).cur 0x0C0090 = 1 ∧
    (nx .replayWindowEnd (cutOff true)) = cutOff true := by decide

/-- The job of slot 7 has the outcome o. -/
def outcome (o : Nat) : State :=
  wr 0x0B0010 0x0F000000 (wr 0x0B000C 0x0F0F0000 { cutOff false with
    ptr := { (cutOff false).ptr with running := [], outcome := [(7, o)] } })

theorem witness_BookkeepingMovesEveryTrack :
    InTier 3 (outcome 1) ∧ (outcome 1).ptr.cut = true ∧ (outcome 1).ptr.booked = false ∧ (cutOff true).ptr.booked = true ∧
    SMap.wf (fun _ => Track.free 0) (outcome 1).ken.slots = true ∧
    ((look (outcome 1).ken.slots 7).any fun T => decide (T.state = 2 ∨ T.state = 3)) = true ∧
    7 ∉ (outcome 1).ken.broken ∧ 7 ∉ (outcome 1).ptr.badJournal ∧ (outcome 1).ptr.running = [] ∧
    (outcome 1).ptr.replay = [] ∧ beforeSolve (outcome 1) = true ∧ look (outcome 1).ptr.outcome 7 = some 1 ∧
    look (outcome 2).ptr.outcome 7 = some 2 ∧
    (lifeOf (outcome 2) false).2.2.1 ≤ min 15 (((outcome 2).slot 7).miss + 1) := by decide

theorem test_bookkeeping :
    ((nx .bookkeeping (outcome 1)).slot 7).age = 0 ∧ ((nx .bookkeeping (outcome 1)).slot 7).hits = 15 ∧
    ((nx .bookkeeping (outcome 2)).slot 7).state = 4 := by decide

theorem witness_SolvePointClosesTheCollar :
    InTier 2 base ∧ base.ptr.solved = false ∧ base.sys.tier = 3 ∧ (inTier 2 base).sys.tier = 2 ∧
    InTier 2 (inTier 2 base) ∧ { base.ptr with solved := true }.solved = true := by decide

/-- n commands wait for the edge. -/
def queued (n : Nat) : State :=
  { base with ken := { base.ken with cmds := List.replicate n (.cueGo 0) } }

theorem witness_KennelCommandsWaitForTheEdge :
    Awake (queued 255) ∧ (queued 255).ken.cmds.length < 256 ∧ Awake (queued 256) ∧
    256 ≤ (queued 256).ken.cmds.length ∧ 255 < 256 := by decide +kernel

theorem test_kennel_commands :
    (nx (.kenCmdKill .nlk) (wr 0x0B0040 0x40003 base)).ken.cmds = [.opKill 0x40003] ∧
    (nx (.kenCueGo .mgb 255) base).ken.cmds = [.cueGo 255] ∧
    (nx (.kenCmdSetPersist .mgb true) base).ken.cmds = [.setPersist 0 true] ∧
    (nx (.kenCmdSetGroups .mgb) (queued 256)).cur 0x0B0088 = 1 := by decide +kernel

/-! ## Witnesses: Heel and Leash -/

/-- The Heel state of port 127, and its override. -/
def heelAt (st : HeelState) (due : Bool) (o : Option Ovr) : State :=
  { base with heel := { base.heel with
    ports := [(127, { HeelPort.off with state := st, parkDue := due, ovr := o, outs := [(0, 5)] })] } }

def ovr0 : Ovr := { mode := 3, left := some 0, mask := 0, px := 0, py := 0, pz := 0, axes := [] }

theorem witness_PortsParkAndOverridesEnd :
    InTier 3 (heelAt .holding true none) ∧ ((heelAt .holding true none).hp 127).state = .holding ∧
    ((heelAt .holding true none).hp 127).parkDue = true ∧ ((heelAt .tracking true none).hp 127).state ≠ .holding ∧
    ((heelAt .holding false none).hp 127).parkDue = false ∧ ((heelAt .holding true (some ovr0)).hp 127).ovr = some ovr0 ∧
    ovr0.left = some 0 ∧ ((heelAt .holding true none).hp 127).ovr = none := by decide

theorem test_heel_park :
    ((nx (.heelPortPark 127) (heelAt .holding true none)).hp 127).state = .parked ∧
    (nx (.heelPortPark 127) (heelAt .holding true none)).cur 0x0E848C = 1 ∧
    ((nx (.overrideTtlExpiry 127) (heelAt .holding true (some ovr0))).hp 127).ovr = none := by decide

theorem witness_DeadlineMakesTheBuffersFinal :
    InTier 3 base ∧ base.heel.done = false ∧ heldPorts base = [] ∧ { base.heel with done := true }.done = true := by decide

/-- Port 127 has an untouched solution missing in the tick. -/
def heldPort : State :=
  com 0x108004 0xFF (com 0x107F00 2 (heelAt .tracking false none))

theorem witness_DeadlineWithAHeldPort :
    InTier 3 heldPort ∧ heldPort.heel.done = false ∧ heldPorts heldPort = [127] := by decide

/-- Port 127 in LEASH mode. -/
def leashed (p : LshPort) : State :=
  com 0x108004 0xFF (com 0x107F00 0x1412 { heelAt .parked false none with lsh := [(127, p)] })

def lshOn : LshPort := { LshPort.off with cfg := 0x1412, seq := 255 }

theorem witness_LatchSendsOneFrame :
    Ticking (leashed lshOn) ∧ 127 < 128 ∧ ((leashed lshOn).lp 127).latchTick ≠ some (leashed lshOn).time.k ∧
    lshMode (leashed lshOn) 127 = 2 ∧ ((leashed lshOn).lp 127).cfg = (leashed lshOn).act (lshReg 127 0) ∧
    clkLow (leashed lshOn) 127 = false ∧ ((leashed lshOn).hp 127).state = .parked ∧
    ((leashed { lshOn with latchTick := some 5 }).lp 127).latchTick = some (leashed lshOn).time.k := by decide

/-- Port 127 in DMX512-A mode with 24 slots; `busy` is the end of its last packet. -/
def dmx (busy : Nat) : State :=
  com 0x108004 0xFF (com 0x107F00 0x1801 { heelAt .parked false none with
    lsh := [(127, { LshPort.off with cfg := 0x1801, busy := busy })] })

/-- The same, of a port in operation without a fresh solution. -/
def dmxHeld : State :=
  { dmx 0 with heel := { (dmx 0).heel with ports := [(127, { (dmx 0).hp 127 with state := .tracking, solved := true })] } }

theorem witness_DmxLatchSendsOnePacket :
    Ticking (dmx 0) ∧ 127 < 128 ∧ ((dmx 0).lp 127).latchTick ≠ some (dmx 0).time.k ∧ lshMode (dmx 0) 127 = 1 ∧
    ((dmx 0).lp 127).cfg = (dmx 0).act (lshReg 127 0) ∧ refreshTick (dmx 0) 127 = true ∧ clkLow (dmx 0) 127 = false ∧
    ((dmx 0).lp 127).busy + 6000 ≤ max (dmx 0).time.tb (latchAt (dmx 0) 127) ∧ (dmx 0).clk.busSrc ≠ 1 ∧
    contentOf (dmx 0) 127 ≠ .held ∧ contentOf dmxHeld 127 = .held ∧ lshMode dmxHeld 127 = 1 ∧
    refreshTick dmxHeld 127 = true ∧
    max (dmx 0).time.tb (latchAt (dmx 0) 127) < ((dmx 13499999).lp 127).busy + 6000 ∧
    refreshTick { dmx 0 with lsh := [(127, { (dmx 0).lp 127 with refresh := some 5, dmxM := 1 })] } 127 = false := by
  decide

theorem test_dmx :
    ((nx (.leashLatch 127) (dmx 0)).lp 127).line = zeros 25 ∧
    ((nx (.leashLatch 127) (dmx 0)).lp 127).busy = 13500000 + 750 * 1288 ∧
    (nx (.leashLatch 127) (dmx 13499999)).cur 0x107F3C = 1 := by decide +kernel

/-- Channels 0 and 1 of the port share slot 2: WIDTH 2 from slot 1, and WIDTH 1 at slot 2. -/
def mapped : State := com 0x107FC0 0x801 (com 0x107FC4 0x402 (dmx 0))

theorem witness_ChannelsFillTheirSlots :
    field (mapped.act (lshReg 127 0xC0)) 0 10 = 1 ∧ orIf (field (mapped.act (lshReg 127 0xC0)) 10 2) 1 = 2 ∧
    field (mapped.act (lshReg 127 0xC4)) 0 10 = 2 ∧ orIf (field (mapped.act (lshReg 127 0xC4)) 10 2) 1 = 1 := by
  decide

theorem test_channels :
    (dmxPacket mapped 127 [0x123456, 0xABCDEF]).1.take 4 = [0, 0x12, 0xAB, 0] ∧
    (dmxPacket mapped 127 [0x123456, 0xABCDEF]).2 = true ∧ (dmxPacket mapped 127 [0x123456]).2 = false := by decide +kernel

theorem test_latch :
    ((nx (.leashLatch 127) (leashed lshOn)).lp 127).seq = 0 ∧
    ((nx (.leashLatch 127) (leashed lshOn)).lp 127).line.take 3 = [0x52, 127, 255] := by decide +kernel

theorem witness_PartnerIsLostAfterLossTicks :
    Awake (wr 0x107F00 0x30000000 (leashed { lshOn with missed := 3 })) ∧
    lossTicks (wr 0x107F00 0x30000000 (leashed { lshOn with missed := 3 })) 127 ≤ 3 ∧
    ((leashed { lshOn with missed := 3, missNew := true }).lp 127).missNew = true ∧ lshOn.missNew = false ∧
    2 < lossTicks (wr 0x107F00 0x30000000 (leashed { lshOn with missed := 2 })) 127 ∧
    ((leashed { lshOn with missed := 3 }).lp 127).missed = 3 ∧
    ((leashed { lshOn with lost := true }).lp 127).lost = true ∧ (leashed lshOn).lp 127 = lshOn ∧
    lshOn.lost = false := by decide

theorem test_partner_lost :
    ((nx (.partnerLost 127) (wr 0x107F00 0x30000000 (leashed { lshOn with missed := 3, missNew := true }))).lp 127).lost
      = true ∧
    (nx (.partnerLost 127) (wr 0x107F00 0x30000000 (leashed { lshOn with missed := 3, missNew := true }))).cur 0x120010
      = 8 := by decide

/-- An acknowledgement of frame 9 from port 127, with its CRC. -/
def ack (kind seq mask : Byte) (fb : List Byte) : List Byte :=
  let b := [kind, 127, seq, 0x55, 0, 0, mask, 0] ++ fb
  b ++ le 2 (crc16 b)

def acked : LshPort := { lshOn with sent := [{ seq := 9, tb := 5, acked := false, met := false }], lost := true, missed := 4 }

theorem witness_AckReleasesAndFeedsBack :
    Awake (leashed acked) ∧ modeIn ((leashed acked).lp 127).cfg = 2 ∧ ackEn ((leashed acked).lp 127).cfg = true ∧
    modeIn (base.lp 127).cfg ≠ 2 ∧ [(0x61 : Byte)].length < 2 ∧ 2 ≤ (ack 0x61 9 0 []).length ∧
    crc16 ((ack 0x61 9 0 []).take 8) = leAt (ack 0x61 9 0 []) 8 2 ∧ leAt (ack 0x60 9 0 []) 0 1 ≠ 0x61 ∧
    leAt (ack 0x61 9 0 []) 0 1 = 0x61 ∧ leAt (ack 0x61 9 0 []) 1 1 = 127 ∧ leAt (ack 0x61 9 0 []) 6 1 < 32 ∧
    (ack 0x61 9 0 []).length = 10 + 3 * maskCount (leAt (ack 0x61 9 0 []) 6 1) := by decide +kernel

theorem witness_AckOfAFrame :
    ((leashed acked).lp 127).sent.find? (fun f => decide (f.seq = leAt (ack 0x61 9 0 []) 2 1))
      = some { seq := 9, tb := 5, acked := false, met := false } ∧
    ((leashed acked).lp 127).sent.find? (fun f => decide (f.seq = leAt (ack 0x61 8 0 []) 2 1)) = none ∧
    leAt (ack 0x61 9 0 []) 4 2 = 0 ∧ leAt (ack 0x61 9 31 (zeros 15)) 6 1 ≠ 0 ∧
    (ack 0x61 9 31 (zeros 15)).length = 10 + 3 * maskCount 31 := by decide +kernel

theorem test_ack :
    ((nx (.leashAck 127 (ack 0x61 9 0 []) true) (leashed acked)).lp 127).lost = false ∧
    (nx (.leashAck 127 (ack 0x61 9 0 []) true) (leashed acked)).cur 0x107F1C = 0x955 ∧
    (nx (.leashAck 127 (ack 0x61 9 0 []) false) (leashed acked)).cur 0x107F20 = 1 ∧
    (nx (.leashAck 127 (ack 0x60 9 0 []) true) (leashed acked)).cur 0x107F24 = 1 := by decide +kernel

/-- n cues are outstanding on port 127, the first sent in tick 1. -/
def cued (n next : Nat) : LshPort :=
  { LshPort.off with cfg := 0x402, nextCseq := next,
                     cues := (List.replicate n { cseq := 1, op := 1, arg := 0, tb := 0, first := some 1, sends := 1 }) }

theorem witness_CuesQueueAndLeave :
    Awake (leashed (cued 63 65535)) ∧ lshMode (leashed (cued 63 65535)) 127 = 2 ∧
    (leashed (cued 63 65535)).fa (lshReg 127 0) 9 3 ≠ 0 ∧ ((leashed (cued 63 65535)).lp 127).cues.length < 64 ∧
    64 ≤ ((leashed (cued 64 1)).lp 127).cues.length ∧ lshMode base 127 ≠ 2 ∧ 1 ≤ 255 ∧ 255 < 256 := by decide

theorem witness_CuesExpire :
    ((leashed (cued 1 2)).lp 127).cues.find? (fun c => decide (c.cseq = 1))
      = some { cseq := 1, op := 1, arg := 0, tb := 0, first := some 1, sends := 1 } ∧
    (wr 0x108000 4 (leashed (cued 1 2))).fc 0x108000 0 16 ≠ 0 ∧
    1 + (wr 0x108000 4 (leashed (cued 1 2))).fc 0x108000 0 16 ≤ (leashed (cued 1 2)).time.k ∧
    (wr 0x108000 0 base).fc 0x108000 0 16 = 0 ∧ ackEn ((leashed (cued 1 2)).lp 127).cfg = false ∧
    ackEn ((leashed lshOn).lp 127).cfg = true := by decide

theorem test_cues :
    ((nx (.lshCueOp .mgb 127 255) (leashed (cued 63 65535))).lp 127).nextCseq = 1 ∧
    (nx (.lshCueOp .mgb 127 255) (leashed (cued 64 1))).cur 0x107F30 = 1 ∧
    (nx (.cueExpired 127 1) (wr 0x108000 4 (leashed (cued 1 2)))).cur 0x107F34 = 1 ∧
    ((nx (.cueSendsDone 127 1) (leashed (cued 1 2))).lp 127).cues = [] := by decide

/-! ## Witnesses: auxiliary inputs -/

/-- Port 1 is on, its channel 3 is accepted, and has the frames given. -/
def auxed (l : List AuxFrame) : State :=
  com 0x09041C 1 { base with aux := { base.aux with on := [1], frames := [(7, l)] } }

def auxU : AuxFrame := { auxF with bound := none, frame := 5 }

theorem witness_AuxPortsStartAndStop :
    Awake base ∧ 1 < 2 ∧ (wr 0x090400 1 base).fc (auxReg 1 0) 0 1 = 1 ∧ (wr 0x090400 0 base).fc (auxReg 1 0) 0 1 = 0 ∧
    (∀ j, j < 4 → ∀ i, i < j → field (0xE400 : Word) (8 + 2 * i) 2 ≠ field (0xE400 : Word) (8 + 2 * j) 2) ∧
    field (0xE000 : Word) (8 + 2 * 0) 2 = field (0xE000 : Word) (8 + 2 * 1) 2 ∧ auxOn (auxed []) 1 = true ∧
    auxOn base 1 = false := by decide

theorem test_aux_ports :
    (nx (.auxPortEnable .mgb ⟨1, true, false⟩ 0xE400) (wr 0x090400 0 base)).aux.on = [1] ∧
    field (readWord (nx (.auxPortEnable .mgb ⟨1, true, false⟩ 0xE400) (wr 0x090400 0 base)) .nlk 0x090408) 0 2 = 2 ∧
    (nx (.auxPortEnable .mgb ⟨1, true, false⟩ 0xE000) (wr 0x090400 0 base)).fc 0x090408 4 1 = 1 ∧
    (nx (.auxPortDisable .mgb 1 0) (wr 0x090400 1 (auxed [auxU]))).aux.on = [] ∧
    (nx (.auxDeskew ⟨1, phy0⟩) (auxed [])).fc 0x090408 2 2 = 1 := by decide

theorem witness_AuxFramesOpenAndClose :
    PortOn (auxed []) 1 ∧ 4 ≤ 4 ∧ 3 < 4 ∧ vcOn (auxed []) (4 * 1 + 3) = true ∧ vcOn (com 0x090414 0 (auxed [])) (4 * 1 + 1) = false ∧
    openFrame (auxed []) (4 * 1 + 3) = none ∧ (openFrame (auxed [auxU]) (4 * 1 + 3)).isSome = true ∧
    PortOn (auxed [auxU]) 1 ∧ vcOn (auxed [auxU]) (4 * 1 + 3) = true := by decide

theorem test_aux_frames :
    (nx (.auxFs ⟨1, phy0⟩ 3 9) (auxed [])).cur 0x0904B8 = 1 ∧ (nx (.auxFe ⟨1, phy0⟩ 3 9) (auxed [])).cur 0x090448 = 1 ∧
    (nx (.auxFs ⟨1, phy0⟩ 4 9) (auxed [])).cur 0x09044C = 1 ∧
    ((nx (.auxFs ⟨1, phy0⟩ 3 9) (auxed [auxU])).auxFrames 7).map (fun f => f.open_) = [false, true] := by decide

/-- A RAW8 line of two pixels, of the channel 3. -/
def pkt (ok : Bool) : LongPkt :=
  { vc := 3, dt := 0x2A, phy := phy0, wc := 2, bytes := [1, 2], crcOk := ok }

theorem witness_AuxLinesEnterTheFifo :
    PortOn (auxed [auxU]) 1 ∧ 4 ≤ { pkt true with vc := 4 }.vc ∧ (pkt true).vc < 4 ∧
    vcOn (auxed [auxU]) (4 * 1 + (pkt true).vc) = true ∧ auxGroup { pkt true with dt := 0x12 }.dt = none ∧
    (auxGroup (pkt true).dt).isSome = true ∧
    openFrame (hear (auxed []) 1 phy0) 7 = none ∧ openFrame (hear (auxed [auxU]) 1 phy0) 7 = some auxU ∧ auxU.next < 8192 ∧
    auxU.dt.getD 0x2A = 0x2A ∧ bindingOf (auxed [auxU]) 7 = none ∧ (pkt true).wc ≤ 16384 ∧
    (pkt true).bytes.length = (pkt true).wc ∧
    fifoUsed (hear (auxed [auxU]) 1 phy0) 1 + 2 ≤ 65536 ∧ (pkt false).crcOk = false := by
  decide

theorem test_aux_lines :
    ((nx (.auxLongPacket 1 (pkt true)) (auxed [auxU])).auxFrames 7).map (fun f => f.next) = [8192] ∧
    (nx (.auxLongPacket 1 (pkt false)) (auxed [auxU])).cur 0x0904B0 = 1 ∧
    (nx (.auxLongPacket 1 (pkt true)) (auxed [])).cur 0x090448 = 1 := by decide

/-- Binding 1 names the pair 7 and has been quiet; the bindings whose tick of MISSING is still to be counted. -/
def quiet (m : List Nat) : State :=
  com 0x090810 0x1F { base with regs := { base.regs with prev := rput base.regs.prev 0x090810 0x1F }, aux := { base.aux with on := [1], quiet := [(1, 1)], missDue := m } }

theorem witness_AuxFaultsAreCounted :
    PortOn (auxed []) 1 ∧ base.aux.on.contains 1 = false ∧ (inTier 1 base).sys.tier < 2 ∧ InTier 2 (quiet []) ∧
    (boundIn (quiet []).regs.prev 1).isSome = true ∧ boundIn (quiet []).regs.prev 1 = boundPair (quiet []) 1 ∧
    vcOn (auxed []) 7 = true ∧ vcOn (com 0x090410 0 (auxed [])) 4 = false ∧ boundPair (quiet []) 1 = some 7 ∧
    (quiet []).aux.missDue.contains 1 = false ∧ (quiet [1]).aux.missDue.contains 1 = true ∧
    InTier 2 (quiet [1]) ∧ startedNow (quiet [1]) 1 = false ∧
    startedNow { quiet [1] with aux := { (quiet [1]).aux with frames := [(7, [{ auxU with frame := base.time.k }])] } } 1
      = true := by decide

theorem test_aux_faults :
    (nx (.genericShortPacket ⟨1, 3, phy0⟩) (auxed [])).cur 0x09044C = 1 ∧
    ((nx (.uncorrectableHeader ⟨1, phy0⟩) (auxed [auxU])).auxFrames 7).map (fun f => f.damaged) = [true] ∧
    (nx (.auxMissing 1) (quiet [1])).cur 0x090818 = 1 ∧ (auxEdge (quiet [])).aux.missDue = [1] ∧
    nx (.auxMissing 1) (quiet []) = quiet [] := by decide

/-! ## Witnesses: Neleklink -/

/-- Link A is UP and expects SEQ 65,535. -/
def linked (x : Link) : State :=
  { base with clk := { base.clk with sLock := true }, nlk := { base.nlk with mode := 1, links := [(0, x)] } }

def linkUp : Link := { Link.idle with state := .up, rxNext := 65535, rxWidth := 16, txWidth := 16 }

theorem witness_OnlyTheNextPacketIsTaken :
    reqHdr (.regRd (hdr 65535 8) 0 1) = some (hdr 65535 8) ∧ Awake (linked linkUp) ∧ (linked linkUp).isUp 0 = true ∧
    linkUsed (linked linkUp) 0 = true ∧ { hdr 65535 8 with ok := false }.ok = false ∧ (hdr 0 8).ok = true ∧
    (hdr 0 8).len ≠ 0 ∧ newer16 (hdr 0 8).seq ((linked linkUp).seqRec 0).rxNext = true ∧
    newer16 (hdr 65534 8).seq ((linked linkUp).seqRec 0).rxNext = false ∧
    (hdr 65534 8).seq % 65536 ≠ ((linked linkUp).seqRec 0).rxNext ∧
    nakRecent (linked linkUp) 0 = false ∧ seqLink (linked linkUp) 0 = 0 ∧
    nakRecent (linked { linkUp with nak := some (65535, 1000000) }) 0 = true := by decide

theorem test_receive :
    (nx (.regRd (hdr 0 8) 0 1) (linked linkUp)).cur 0x110104 = 1 ∧
    (nx (.regRd (hdr 65534 8) 0 1) (linked linkUp)).cur 0x110108 = 1 ∧
    (nx (.regRd { hdr 65535 8 with ok := false } 0 1) (linked linkUp)).cur 0x110100 = 1 := by decide

theorem witness_RegisterRequestsReadAndWrite :
    InOrder (linked linkUp) (.regRd (hdr 65535 8) 0xFFFFF8 1) (hdr 65535 8) ∧ regStatus (hdr 65535 8) 8 0xFFFFF8 1 = 0 ∧
    regStatus (hdr 65535 8) 8 0xFFFFFC 2 ≠ 0 ∧
    InOrder (linked linkUp) (.regWr (hdr 65535 12) 0x020040 1 [5]) (hdr 65535 12) ∧
    regStatus (hdr 65535 12) (8 + 4 * 1) 0x020040 1 = 0 ∧ regStatus (hdr 65535 12) (8 + 4 * 1) 0x020042 1 ≠ 0 ∧
    InOrder (linked linkUp) (.regWr (hdr 65535 12) 0x020042 1 [5]) (hdr 65535 12) := by decide

theorem test_register_requests :
    (nx (.regWr (hdr 65535 12) 0x020040 1 [5]) (linked linkUp)).cur 0x020040 = 5 ∧
    ((nx (.regWr (hdr 65535 12) 0x020042 1 [5]) (linked linkUp)).nlk.resp.map fun p => p.body.take 2) = [[0x42, 2]] ∧
    ((nx (.regRd (hdr 65535 8) 0x120080 1) (wr 0x120080 9 (linked linkUp))).nlk.resp.map fun p => p.body.drop 16)
      = [[9, 0, 0, 0]] := by decide

theorem witness_BulkRequestsReadAndWrite :
    InOrder (linked linkUp) (.bulkRd (hdr 65535 16) 0x100000000 32) (hdr 65535 16) ∧
    bulkStatus (hdr 65535 16) 16 0x100000000 32 1048576 = 0 ∧
    InOrder (linked linkUp) (.bulkWr (hdr 65535 48) 0x102000000 32 (zeros 32)) (hdr 65535 48) ∧
    bulkStatus (hdr 65535 48) (16 + 32) 0x102000000 32 16384 = 0 ∧
    bulkStatus (hdr 65535 48) (16 + 32) 0x102000010 32 16384 ≠ 0 ∧
    bulkStatus (hdr 65535 48) 16 0x100000000 32 1048576 ≠ 0 ∧
    InOrder (linked linkUp) (.bulkRd (hdr 65535 48) 0x100000000 32) (hdr 65535 48) ∧ ((linked linkUp).slot 1).state = 0 ∧
    (matching.slot 7).state ≠ 0 := by decide

theorem test_bulk :
    ((nx (.bulkRd (hdr 65535 16) 0x100000000 32) (linked linkUp)).nlk.resp.map fun p => p.body.length) = [48] ∧
    ((nx (.bulkWr (hdr 65535 48) 0x102000000 32 (zeros 32)) (linked linkUp)).nlk.resp.map fun p => leAt p.body 4 4)
      = [32] := by decide +kernel

/-- A session of 16,711,680 bytes receives on path p. -/
def session (p : Nat) (s : State) : State :=
  wr 0x030020 0 { s with upd := { s.upd with state := 1, owner := p, imgLen := 16711680 } }

theorem witness_UpdateBlockIsProgrammed :
    InOrder (session 1 (linked linkUp)) (.updBlock (hdr 65535 144) 16711424 128 (zeros 128) [] none) (hdr 65535 144) ∧
    (hdr 65535 144).body = 16 + 128 ∧ (zeros 128).length = 128 ∧ (session 1 (linked linkUp)).upd.pend = [] ∧
    (session 1 (linked linkUp)).upd.state = 1 ∧ (session 1 (linked linkUp)).upd.owner = 1 ∧ 16711424 % 256 = 0 ∧
    16711424 + 128 ≤ (session 1 (linked linkUp)).upd.imgLen ∧ (session 1 (linked linkUp)).boot.fwBank < 2 ∧
    unitConflict (session 1 (linked linkUp)) 16711424 (zeros 128) = false ∧
    FlashFree (session 1 (linked linkUp)) ∧ (hdr 65535 17).body ≠ 16 + 128 := by decide +kernel

theorem test_update_block :
    unitMarked (nx (.updBlock (hdr 65535 144) 16711424 128 (zeros 128) [] none) (session 1 (linked linkUp))) 130558
      = true := by decide +kernel

/-- Port 5 of the Heel is parked. -/
def parked5 : State :=
  { linked linkUp with heel := { base.heel with ports := [(5, { HeelPort.off with state := .parked })] } }

def ovr5 (m : Nat) : Override := { port := 5, mode := m, axmask := 1, ttl := 9, px := 0, py := 0, pz := 0, axes := [3] }

def seed0 : Seed :=
  { cls := 1, source := 0, flags := 0, frame := 3, x := 0, y := 0, w := 16, h := 16, tag := 1, label := 2, height := 0,
    slot := 0, groups := 0 }

theorem witness_HostRequestsAreQueued :
    InOrder (linked linkUp) (.trackSeed (hdr 65535 40) seed0) (hdr 65535 40) ∧ (hdr 65535 40).body = 40 ∧
    (linked linkUp).ken.cmds.length < 256 ∧ InOrder (linked linkUp) (.trackKill (hdr 65535 8) 0) (hdr 65535 8) ∧
    InOrder parked5 (.aimOverride (hdr 65535 40) (ovr5 2)) (hdr 65535 40) ∧ (parked5.hp 5).state ≠ .off ∧
    InOrder (linked linkUp) (.timeSet (hdr 65535 16) 5 6) (hdr 65535 16) ∧
    InOrder (linked linkUp) (.unknownPacket (hdr 65535 0) 0x4A) (hdr 65535 0) ∧ (ovr5 0).mode = 0 := by decide

theorem witness_OverridesAreStoredOrRefused :
    InOrder parked5 (.aimOverride (hdr 65535 40) (ovr5 1)) (hdr 65535 40) ∧ (ovr5 1).mode < 4 ∧ modelOf parked5 5 ≠ 4 ∧
    3 < (ovr5 4).mode ∧ InOrder parked5 (.aimOverride (hdr 65535 40) (ovr5 4)) (hdr 65535 40) ∧
    127 < { ovr5 2 with port := 128 }.port ∧ ((linked linkUp).hp 5).state = .off ∧
    modelOf (com 0x0E0500 8 parked5) 5 = 4 := by decide

theorem test_override :
    ((nx (.aimOverride (hdr 65535 40) (ovr5 1)) parked5).hp 5).ovr.isSome = true ∧
    (nx (.aimOverride (hdr 65535 40) (ovr5 4)) parked5).cur 0x0E8490 = 1 := by decide

theorem test_host_requests :
    (nx (.trackSeed (hdr 65535 40) seed0) (linked linkUp)).ken.cmds = [.seed seed0] ∧
    (nx (.timeSet (hdr 65535 16) 5 6) (linked linkUp)).nlk.timeHost = 5 ∧
    ((nx (.aimOverride (hdr 65535 40) (ovr5 2)) parked5).hp 5).ovr.map (fun o => o.left) = some (some 9) ∧
    (nx (.unknownPacket (hdr 65535 0) 0x4A) (linked linkUp)).cur 0x110118 = 1 ∧
    (nx (.trackKill (hdr 65535 8) 7) (linked linkUp)).ken.cmds = [.kill 7] := by decide

/-- A packet of one unit. -/
def one : Pkt :=
  { type := 1, cls := 1, stream := 7, first := true, last := true, tag := 0, index := 0, link := 0, key := 0, body := [] }

/-- Two packets of link A are not acknowledged. -/
def acking : Link := { linkUp with replay := [(65535, one), (0, one)], ackNext := 65535, txNext := 1 }

theorem witness_AcksReleaseAndNaksResend :
    Awake (linked acking) ∧ 0 < 2 ∧
    ((linked acking).seqRec 0).replay.any (fun p => decide (p.1 = 0)) = true ∧
    ((linked acking).seqRec 0).replay.any (fun p => decide (p.1 = 1)) = false ∧
    ((linked acking).seqRec 0).past 65535 < ((linked acking).seqRec 0).past ((linked acking).seqRec 0).txNext ∧
    ((linked acking).seqRec 0).past ((linked acking).seqRec 0).txNext ≤ ((linked acking).seqRec 0).past 1 := by
  decide

theorem test_acks :
    ((nx (.nlkAck 0 65535) (linked acking)).link 0).replay = [(0, one)] ∧
    ((nx (.nlkNak 0 0) (linked acking)).link 0).resend = some 0 ∧
    (nx (.nlkAck 0 1) (linked linkUp)).cur 0x110128 = 1 := by decide

/-- A META packet waits on link A. -/
def sending (x : Link) : State := { linked x with nlk := { (linked x).nlk with meta_ := [one] } }

theorem witness_CreditsStallAndReturn :
    Awake (sending linkUp) ∧ 2 < 3 ∧ ((sending linkUp).link 0).state = .up ∧ (base.link 0).state ≠ .up ∧
    (sending linkUp).nlk.queue 1 = [one] ∧ hasCredit ((sending linkUp).link 0) one = false ∧
    1 ∉ ((sending linkUp).link 0).stalled ∧ 1 ∈ ((sending { linkUp with stalled := [1] }).link 0).stalled := by decide

theorem test_credits :
    ((nx (.nlkCredit 0 2 65535) (sending linkUp)).link 0).credit = [0, 0, 65535] ∧
    (nx (.creditStall 0 1) (sending linkUp)).cur 0x11012C = 1 ∧ nx (.nlkAlign ⟨0, 0, []⟩) base = base := by decide

theorem witness_LinksLeaveUpToTrain :
    Awake (linked linkUp) ∧ ((linked linkUp).link 0).state = .up ∧ 15 < 16 ∧ (base.link 0).state ≠ .up := by decide

theorem test_links_leave :
    ((nx (.laneFailure 0 15) (linked { linkUp with rxOk := 65535 })).link 0).rxOk = 32767 ∧
    (nx (.laneFailure 0 15) (linked linkUp)).cur 0x110124 = 1 ∧
    ((nx (.nlkLaneFailRx 0 1) (linked { linkUp with txOk := 65535 })).link 0).txOk = 65534 ∧
    ((nx (.linkRetrain .mgb 0) (linked linkUp)).link 0).state = .training := by decide

/-- Link A in TRAINING. -/
def training : Link := { Link.idle with state := .training, everUp := true, replay := [(3, one)], txNext := 4 }

theorem witness_TrainingEndsUpOrDown :
    Awake (linked training) ∧ ((linked training).link 0).state = .training ∧ 8 ≤ laneCount (0xFF : BitVec 16).toNat ∧
    laneCount (0x7F : BitVec 16).toNat < 8 ∧ 1023 < 1024 ∧ ((linked training).link 0).everUp = true ∧
    ((linked { training with everUp := false }).link 0).everUp = false := by decide

theorem test_training :
    ((nx (.nlkTs 0 ⟨0xFF, []⟩ 0xFFF true (some [1024, 1024, 1024])) (linked training)).link 0).txWidth = 12 ∧
    ((nx (.nlkTs 0 ⟨0xFF, []⟩ 0xFFF true (some [1024, 1024, 1024])) (linked training)).link 0).replay = [] ∧
    ((nx (.nlkTs 0 ⟨0xFF, []⟩ 0xFFF false (some [1024, 1023, 1024])) (linked training)).link 0).state = .down := by decide

theorem witness_LinksTimeOut :
    Awake (linked training) ∧ ((linked training).link 0).state = .training ∧
    ((linked { training with state := .down }).link 0).state = .down ∧ base.clk.sLock = false ∧
    { (linked { training with state := .down }) with clk := { base.clk with sLock := true } }.clk.sLock = true ∧
    ((linked { linkUp with replay := [(3, one)] }).seqRec 0).replay = [(3, one)] ∧
    ((wr 0x110004 0x200 (linked { linkUp with replay := [(3, one)] })).link 0).timeouts + 1
      < orIf ((wr 0x110004 0x200 (linked { linkUp with replay := [(3, one)] })).fc 0x110004 8 4) 1 ∧
    orIf ((wr 0x110004 0x200 base).fc 0x110004 8 4) 1 ≤ { linkUp with timeouts := 1 }.timeouts + 1 ∧
    ((linked linkUp).seqRec 0).replay = [] ∧ ((linked training).link 0).retry = false ∧
    { training with retry := true }.retry = true := by decide

theorem test_time_outs :
    ((nx (.trainingTimeout 0) (linked training)).link 0).state = .down ∧
    ((nx (.trainingRetry 0 true) (linked { training with state := .down })).link 0).state = .training ∧
    ((nx (.replayTimeout 0) (wr 0x110004 0x200 (linked { linkUp with replay := [(3, one)], timeouts := 1 }))).link 0).state
      = .training := by decide

/-- Link A has credit for the packet that waits. -/
def credited (x : Link) : State := sending { x with credit := [1024, 1024, 1024] }

theorem witness_TransmitterSendsTheNextPacket :
    Awake (credited linkUp) ∧ (credited linkUp).isUp 0 = true ∧ linkUsed (credited linkUp) 0 = true ∧
    (∀ m, m < 2 → ((credited linkUp).link m).waiting = [] ∧ ((credited linkUp).link m).bulk = none) ∧
    ((credited linkUp).link 0).resend = none ∧ nextNew (credited linkUp) 0 = some (1, one, []) ∧
    nextNew (linked linkUp) 0 = none ∧
    ((credited { linkUp with resend := some 3, replay := [(3, one)] }).link 0).resend = some 3 ∧
    ((credited { linkUp with resend := some 3, replay := [(3, one)] }).seqRec 0).replay.dropWhile
      (fun p => decide (p.1 ≠ 3)) = [(3, one)] ∧
    hasCredit ((credited { linkUp with resend := some 3, replay := [(3, one)] }).link 0) one = true := by decide

/-- A response without credit waits behind nothing, and an image packet of stream 8 beside one of stream 1. -/
def busyLink : State :=
  { credited linkUp with
    nlk := { (credited linkUp).nlk with
      links := [(0, { linkUp with credit := [1024, 1024, 0] })]
      resp := [{ one with cls := 2, stream := 0 }]
      img := [{ one with cls := 0, stream := 8 }, { one with cls := 0, stream := 1 }] } }

theorem witness_NewPacketsGoInStrictOrder :
    nextNew busyLink 0 = some (1, one, []) ∧ 1 < 2 ∧ headOf busyLink 0 2 = some ({ one with cls := 2, stream := 0 }, []) ∧
    hasCredit (busyLink.link 0) { one with cls := 2, stream := 0 } = false ∧ sendLinks busyLink 0 = [0] := by decide

theorem test_order :
    (nextNew { busyLink with nlk := { busyLink.nlk with meta_ := [] } } 0).map (fun r => (r.1, r.2.1.stream)) = some (0, 1) ∧
    (nextNew { busyLink with nlk := { busyLink.nlk with meta_ := [], turn := 1 } } 0).map (fun r => (r.1, r.2.1.stream))
      = some (0, 8) ∧
    (nextNew (credited linkUp) 0).map (fun r => r.1) = some 1 := by decide

theorem test_transmit :
    ((nx (.packetTransmit 0) (credited linkUp)).link 0).replay = [(0, one)] ∧
    (nx (.packetTransmit 0) (credited { linkUp with resend := some 3, replay := [(3, one)] })).cur 0x11011C = 1 := by
  decide

/-- FIPS 180-4: the digest of "abc". -/
theorem test_sha384 :
    ofBe (sha384 [0x61, 0x62, 0x63]) = 0xCB00753F45A35E8BB5A03D699AC65007272C32AB0EDED1631A8B605A43FF5BED8086072BA1E7CC2358BAECA134C825A7 := by
  decide +kernel

/-! ## Witnesses: faults, log, flash, update, fuses -/

/-- Fault restarts are enabled, n of them an hour. -/
def restarts (n : Word) : State := wr 0x130000 (n * 256 + 1) base

theorem witness_TierOnlyFallsInARun :
    1 ≤ base.sys.tier ∧ base.sys.tier ≤ 3 ∧
    isStartCommand (.unitFault .heel) = false ∧ exec (.unitFault .heel) base = .next (nx (.unitFault .heel) base) :=
  ⟨by decide, by decide, rfl, rfl⟩

theorem witness_FaultsLowerTheTierAndRestart :
    Awake (restarts 1) ∧ (restarts 1).upd.state ≠ 5 ∧ unitTier .heel < (restarts 1).sys.tier ∧
    unitTier .rdo < (restarts 1).sys.tier ∧ (restarts 1).fc 0x130000 0 1 = 1 ∧
    rstHour (restarts 1) < (restarts 1).fc 0x130000 8 4 ∧ (restarts 0).fc 0x130000 8 4 ≤ rstHour (restarts 0) ∧
    (inTier 1 base).sys.tier ≤ unitTier .rdo ∧ base.time.slow = false ∧ slow.time.slow = true ∧ Answers base ∧
    { base.sys with wdMissed := 4 }.wdMissed = 4 ∧ base.sys.wdMissed < 4 ∧ base.sys.lsN = 0 ∧ { base.sys with lsN := 2 }.lsN = 2 ∧ 45000000000 ≤ 0 + 45000000000 := by decide

theorem test_faults :
    (nx (.unitFault .heel) (restarts 1)).sys.tier = 2 ∧ (nx (.unitFault .heel) (restarts 1)).cur 0x130090 = 1 ∧
    (nx (.unitFault .rdo) (restarts 0)).cur 0x130094 = 1 ∧ (nx .watchdogExpiry { base with sys := { base.sys with wdMissed := 4 } }).sys.cause = 4 ∧
    nx .watchdogExpiry base = base ∧
    (nx .lockstepMismatch base).sys.cause = 3 := by decide

theorem test_third_lockstep :
    (nx .lockstepMismatch { base with sys := { base.sys with lsN := 2 } }).sys.phase = .dark := by decide

theorem witness_MemoryErrorsAreContained :
    Awake base ∧ isContained (.album 4095 63) = true ∧ base.upd.state ≠ 5 ∧ 63 < 64 ∧
    { base.sys with scrubPos := 3145727 }.scrubPos + 1 = scrubLines ∧ base.sys.scrubPos + 1 ≠ scrubLines := by decide

theorem test_memory_errors :
    (nx (.uncorrectableWord (.kennelSlot 7)) base).cur 0x130088 = 1 ∧
    (nx (.uncorrectableWord (.kennelSlot 7)) base).ken.broken = [7] ∧
    (nx (.uncorrectableWord (.supervisor 0)) base).sys.cause = 4 ∧
    (nx (.scrubLine true (.corrected 2)) { base with sys := { base.sys with scrubPos := 3145727 } }).cur 0x13008C = 1 := by
  decide

/-- Eight hot edges, or a trip with its restart held, at a T_j of t. -/
def hot (n : Nat) (trip held : Bool) (t : Word) : State :=
  wr 0x130004 t { restarts 1 with sys := { (restarts 1).sys with tripEdges := n, tripped := trip, tripRestart := held } }

theorem witness_HeatTripsAndRecovers :
    Awake (hot 8 false false 0) ∧ 8 ≤ (hot 8 false false 0).sys.tripEdges ∧ (hot 8 false false 0).sys.tripped = false ∧
    (hot 7 false false 0).sys.tripEdges < 8 ∧ (hot 8 true true 0).sys.tripped = true ∧
    sgn 16 ((hot 8 true true 0).fc 0x130004 0 16) < ((tripTemp (hot 8 true true 0) - 15) * 256 : Nat) ∧
    (hot 8 true false 0).sys.tripRestart = false ∧ (hot 8 true true 0).fc 0x130000 0 1 = 1 ∧
    rstHour (hot 8 true true 0) < (hot 8 true true 0).fc 0x130000 8 4 := by decide

theorem test_heat :
    (nx .thermalTrip (hot 8 false false 0)).sys.tier = 1 ∧ (nx .thermalTrip (hot 8 false false 0)).cur 0x13009C = 1 ∧
    (nx .thermalRecovery (hot 8 true true 0)).sys.cause = 4 := by decide

def entry0 : LogEntry :=
  { tb := 1, seq := 1, frame := 0, code := 0x2601, sev := 0, start := 0, arg0 := 0, arg1 := 0, arg2 := 0 }

/-- One entry is not archived; PFW_B may be low; the deferred flash jobs. -/
def logged (low : Bool) (l : List FlashJob) : State :=
  wr 0x030020 0 (wr 0x130040 0x11000 { base with
    boot := { base.boot with usable := true, pfwLow := low, deferred := l },
    log := { base.log with ram := [(0, entry0)], wr := 1, unarch := 1, archWr := 131071 } })

theorem witness_LogIsArchived :
    Awake (logged false []) ∧ (logged false []).boot.usable = true ∧ (logged false []).fc 0x130040 16 1 = 1 ∧
    FlashFree (logged false []) ∧ (logged false []).log.archWr < 131072 ∧ .logFlush ∉ (logged false []).boot.deferred ∧
    Awake (logged true []) ∧ (logged true []).boot.pfwLow = true ∧ 1 ≤ (logged true []).log.unarch ∧
    (logged true []).boot.recheck = false ∧ (logged true []).boot.usable = true ∧
    (logged true []).fc 0x130040 16 1 = 1 ∧ .logFlush ∉ (logged true []).boot.deferred ∧
    (logged false [.logFlush]).boot.deferred = [.logFlush] ∧ FlashFree (logged false [.logFlush]) ∧ 131071 < 131072 ∧
    base.log.ceSram = 0 ∧ base.log.ceEdram = 0 ∧ base.log.sumAt ≤ base.time.tb ∧ base.time.src = .bus := by
  decide

theorem test_log :
    (nx (.logFlush []) (logged false [])).log.archWr = 0 ∧ (nx (.logFlush []) (logged true [])).cur 0x1300AC = 1 ∧
    nx (.logFlush []) (logged true [.logFlush]) = logged true [.logFlush] ∧
    (nx (.flashDeferRetry []) (logged false [.logFlush])).boot.deferred = [] ∧
    (nx (.archiveRead .mgb 131071) (nx (.logFlush []) (logged false []))).cur 0x130060 = 1 ∧
    (nx .logSecond { base with log := { base.log with ceSram := 3 } }).log.ceSram = 0 := by decide +kernel

/-- The hold-up check is on: C is 4,700 µF, K 16, VMIN 10 V and an erase needs e mJ; the next reading is given. -/
def stored (e : Word) (code : Nat) : State :=
  wr 0x030020 4700 (wr 0x030024 0x10002710 (wr 0x030028 e (wr 0x03002C e { base with
    boot := { base.boot with senses := [code] } })))

theorem witness_EnergyCheckGatesFlash :
    (stored 100 4095).cur 0x030020 ≠ 0 ∧ (stored 100 4095).boot.failAt = none ∧
    (stored 100 4095).boot.senses = 4095 :: [] ∧ 4095 < 4096 ∧ pfwActive (stored 100 4095) = false ∧
    (stored 100 4095).boot.recheck = false := by decide

theorem test_energy :
    (flashErase (stored 100 4095) 0).1 = true ∧ (flashErase (stored 0xFFFFFFFF 4095) 0).1 = false ∧
    (flashErase (stored 0xFFFFFFFF 4095) 0).2.cur 0x03008C = 1 ∧ (flashErase (stored 100 1000) 0).1 = false ∧
    (flashProgram (stored 100 4095) 0 [5]).2.boot.flash = [(0, 5)] := by decide +kernel

theorem witness_EventsEnterTheLog :
    base.log.batch = none ∧ 1 < 256 ∧ 2 < 4 ∧ mget 0 [] 0x2601 < orIf (base.fc 0x130040 8 8) 1 ∧
    (logged false []).log.unarch ≠ 4096 ∧ base.log.wr < 4096 ∧ 0x10 < 0x26 ∧ base.log.cycle = 0 ∧
    base.log.inStart = false ∧
    orIf ((wr 0x130040 0x100 base).fc 0x130040 8 8) 1
      ≤ mget 0 (if base.time.tb / 750000000 = 0 then [(0x2601, 1)] else []) 0x2601 := by decide

theorem witness_LastInCycle : LastInCycle base.log base.time.tb 0x26 := fun _ _ h => absurd h (Nat.not_lt_zero _)

theorem test_event :
    (logEvent base 0x26 1 2 true 3 4 5).log.ram
      = [(0, { tb := 1000100, seq := 1, frame := 5, code := 0x2601, sev := 6, start := 0, arg0 := 3, arg1 := 4,
               arg2 := 5 })] ∧
    (logEvent { wr 0x130040 0x100 base with log := { base.log with codeCnt := [(0x2601, 1)] } } 0x26 1 0 false 3 4 5).cur
      0x1300A8 = 1 ∧
    ((inCycle base fun s => logEvent (logEvent s 0x26 1 0 false 0 0 0) 0x10 1 0 false 0 0 0).log.ram.map fun p => p.2.code)
      = [0x1001, 0x2601] := by decide +kernel

theorem witness_PowerFailWarningStopsFlash :
    Awake (logged false []) ∧ (logged false []).boot.pfwLow = false ∧ (logged true []).boot.pfwLow = true ∧
    State.reset.sys.phase = .held ∧ State.reset.boot.pfwLow = false := by decide

theorem test_pfw :
    (nx .pfwAssert (logged false [])).cur 0x030090 = 1 ∧ pfwActive (nx .pfwRelease (logged true [])) = true ∧
    (nx .pfwAssert (logged false [])).cur 0x120010 = 0x40 := by decide

/-- The mailbox holds the block at offset 0 of a session. -/
def mailbox : State := wr 0x030204 128 (wr 0x030200 0 (session 2 base))

def waiting (p : Nat) : State :=
  { base with upd := { base.upd with pend := [{ path := p, link := 0, tag := 9, offset := 0, data := [], since := 0, fail := none }] } }

theorem witness_MailboxBlocksAreProgrammed :
    Awake mailbox ∧ Src.nlk ≠ .mgb ∧ (waiting 2).upd.pend.any (fun p => decide (p.path = 2)) = true ∧
    mailbox.upd.pend = [] ∧ mailbox.upd.state = 1 ∧ mailbox.upd.owner = 2 ∧ mailbox.fc 0x030204 0 8 = 128 ∧
    (mailbox.cur 0x030200).toNat % 128 = 0 ∧ (mailbox.cur 0x030200).toNat + 128 ≤ mailbox.upd.imgLen ∧
    mailbox.upd.imgLen ≤ 16711680 ∧ mailbox.boot.fwBank < 2 ∧ FlashFree mailbox ∧
    unitConflict mailbox (mailbox.cur 0x030200).toNat
      ((upto 32).map (fun i => le 4 (mailbox.cur (0x030280 + 4 * i)).toNat)).flatten = false ∧
    (waiting 1).upd.pend ≠ [] ∧ (waiting 1).upd.pend.any (fun p => decide (p.path = 2)) = false ∧
    (∀ m, m < 2 → ((waiting 1).link m).waiting = []) := by decide +kernel

theorem test_mailbox :
    (nx (.updMbGo .mgb [] none) mailbox).cur 0x030180 = 1 ∧ nx (.updMbGo .nlk [] none) base = base ∧
    (nx (.updMbGo .mgb [] none) (waiting 2)).cur 0x030194 = 1 ∧
    (nx .blockDeferTimeout (waiting 2)).upd.mbCode = 8 ∧
    ((nx .blockDeferTimeout (waiting 1)).nlk.resp.map fun p => p.tag) = [9] := by decide +kernel

/-- The update in a state, with flash commands free. -/
def updating (n : Nat) : State :=
  wr 0x030020 0 { base with
    upd := { base.upd with state := n, checksOk := true, confirmLeft := if n = 5 then 9 else 0,
                           verifySince := if n = 2 then some 1000000 else none } }

theorem witness_SessionsVerifyAndAbort :
    Awake (updating 1) ∧ (updating 1).upd.state = 1 ∧ (updating 3).upd.state = 3 ∧ (updating 6).upd.state = 6 ∧
    FlashFree (updating 1) ∧ (updating 2).upd.state = 2 ∧ FlashFree (updating 2) ∧
    (updating 2).upd.verifySince.isSome = true ∧ (updating 1).upd.verifySince = none ∧ (updating 0).upd.state ≠ 1 ∧
    (updating 0).upd.state ≠ 3 ∧ (updating 0).upd.state ≠ 6 ∧ updComplete (updating 1) = false ∧
    .mapErase ∉ (updating 1).boot.deferred ∧ FlashJob.mapErase ∈ [FlashJob.mapErase] := by decide

/-- The one unit of a session is marked. -/
def complete : State :=
  { updating 1 with
    upd := { (updating 1).upd with imgLen := 128 }, boot := { base.boot with flash := [(0x2FF2000, 0xFE)] } }

theorem witness_SessionIsComplete :
    Awake complete ∧ complete.upd.state = 1 ∧ updComplete complete = true := by decide

theorem test_sessions :
    (nx (.updAbort []) (updating 3)).upd.state = 0 ∧ (nx .updVerify complete).upd.state = 2 ∧
    (nx .updVerify (updating 1)).upd.cmdResult = 2 ∧ (nx (.updAbort []) (updating 0)).cur 0x030188 = 1 := by decide

theorem witness_BanksAreActivated :
    Awake (updating 3) ∧ (updating 3).upd.state = 3 ∧ portsActive (updating 3) = false ∧ FlashFree (updating 3) ∧
    portsActive { updating 3 with heel := heldPort.heel } = true ∧ (updating 4).upd.state = 4 ∧
    (updating 4).upd.trialWritten = false ∧ { (updating 4).upd with trialWritten := true }.trialWritten = true ∧
    (updating 0).upd.state = 0 ∧ FlashFree (updating 0) ∧ (updating 0).upd.state ≠ 3 := by decide

theorem test_activate :
    (nx (.updActivate false []) (updating 3)).boot.brec = some (0, 1) ∧
    (nx (.updActivate false []) (updating 3)).sys.cause = 2 ∧ (nx .activateTimeout (updating 4)).upd.cmdResult = 3 ∧
    (nx (.updRollback false []) (updating 0)).upd.cmdResult = 1 := by decide +kernel

/-- A trial that the host is to confirm, in a tier. -/
def trial (host : Bool) (n : Nat) : State :=
  inTier n { updating 5 with upd := { (updating 5).upd with hostConfirm := host } }

/-- Its window has ended. -/
def ended (host : Bool) : State :=
  { trial host 3 with upd := { (trial host 3).upd with confirmLeft := 0 } }

theorem witness_TrialsAreConfirmedOrReverted :
    Awake (trial true 3) ∧ (trial true 3).upd.state = 5 ∧ (trial true 3).upd.hostConfirm = true ∧
    checksHold (trial true 3) = true ∧ checksHold (trial true 2) = false ∧ FlashFree (trial true 3) ∧
    (trial false 3).upd.hostConfirm = false ∧ (trial true 3).upd.confirming = false ∧ checksHold (trial false 3) = true ∧
    (trial true 3).sys.phase = .run ∧ 0 < (trial true 3).upd.confirmLeft ∧ (ended false).upd.confirmLeft = 0 ∧
    (ended false).upd.state = 5 ∧ FlashFree (ended false) ∧ (ended true).upd.hostConfirm = true ∧
    (updating 0).upd.state ≠ 5 ∧ { (trial true 3).upd with confirming := true }.confirming = true := by decide

theorem test_confirm :
    (nx (.updConfirm []) (trial true 3)).upd.state = 0 ∧ (nx (.updConfirm []) (trial true 2)).upd.cmdResult = 5 ∧
    (nx (.updReject []) (trial true 3)).cur 0x030190 = 1 ∧
    (nx (.updReject []) { trial true 3 with upd := { (trial true 3).upd with confirming := true } }).cur 0x030190 = 1 ∧
    nx (.confirmWindowEnd []) (trial true 3) = trial true 3 ∧
    (nx (.confirmWindowEnd []) (ended true)).sys.phase = .restarting ∧
    (nx (.confirmWindowEnd []) (ended false)).upd.last = 1 := by decide +kernel

/-- A pulse is under way at fuse 32,767. -/
def pulsing : State := { base with otp := { base.otp with progBusy := true, progBit := 32767 } }

/-- Region 63 with data word 0 at 1 and the check word given, and its write lock in two copies. -/
def fused (chk : Word) : State := { base with otp := { base.otp with data := [(1008, 1), (1023, chk)] } }

def locked63 : State := { base with otp := { base.otp with data := [(3, 0x40000000), (7, 0x40000000)] } }

theorem witness_FusesAreProgrammedOneByOne :
    Awake pulsing ∧ fuseLevel pulsing 32767 ≠ 3 ∧ pulsing.otp.progBusy = true ∧ base.otp.progBusy = false ∧ field (0x0F5E0001 : Word) 0 1 = 1 ∧
    field (0x0F5E0001 : Word) 16 16 = 0x0F5E ∧ field (0 : Word) 0 1 = 0 ∧ field (1 : Word) 16 16 ≠ 0x0F5E ∧
    progReason base 20479 false ⟨true, true⟩ = 0 ∧ progReason base 20479 false ⟨false, true⟩ ≠ 0 ∧
    Answers (inPhase .waitDebug pulsing) := by decide

theorem witness_CheckWordsCloseTheirRegions :
    63 < 64 ∧ 40 ≤ 40 ∧ 10 = 4 * 2 + 40 / 16 ∧ 16 = 2 * (40 % 16) + 0 ∧
    lockWith base [] 63 0 = false ∧ (otpWord (fused 1) 63 15).toNat ≠ 0 ∧ lockWith locked63 [] 63 0 = true := by
  decide +kernel

theorem test_check_words :
    regionState (fused 1) 63 = 4 ∧
    regionState (fused (BitVec.ofNat 32 (expectedCheck (fused 1) 63))) 63 = 2 ∧
    expectedCheck base 0 = expectedCheck { base with otp := { base.otp with data := [(10, 0xFFFF0000)] } } 0 := by
  decide +kernel

theorem test_fuses :
    fuseLevel (nx (.otpPulseDone (.done 3)) pulsing) 32767 = 3 ∧
    (nx (.otpPulseDone (.done 3)) pulsing).otp.progResult = 1 ∧
    (nx (.otpPulseDone (.done 2)) pulsing).cur 0x020098 = 1 ∧
    (nx (.otpPulseDone (.aborted true 1)) pulsing).otp.progReason = 5 ∧
    (nx (.otpProgGo .mgb 1 { vcoreOk := true, vppOk := true, pumpOk := true }) base).cur 0x020094 = 1 := by decide

/-- A start waits for a debug response. -/
def debugWait : State := { base with sys := { base.sys with phase := .waitDebug, waiting := some env0 } }

theorem witness_DebugOpensOnlyOnAResponse :
    base.sys.pgoodLow = false ∧ State.reset.sys.pgoodLow = true ∧ debugWait.sys.phase = .waitDebug ∧
    debugWait.sys.waiting = some env0 ∧ env0.sfdp.mbit < 512 ∧ env0.t1Fail = false ∧ base.sys.phase ≠ .waitDebug ∧
    Awake base ∧ 1048576 ≤ { base.otp with drbgRequests := 1048576 }.drbgRequests ∧
    { base.otp with drbgRequests := 1048575 }.drbgRequests < 1048576 ∧ base.otp.rngFails ≠ 2 ∧
    { base.otp with rngFails := 2 }.rngFails = 2 ∧ pulsing.otp.progBusy = true ∧ pfwActive base = false ∧
    debugWait.otp.progBusy = false ∧ pfwActive debugWait = false ∧ openingBits.head? = some 514 ∧
    fuseLevel debugWait 514 ≠ 3 := by decide

theorem witness_DebugFusesAreLegal : FuseInv debugWait := ⟨by decide, fun _ => Nat.zero_le 3⟩

theorem test_open_pulse :
    (openFuse [⟨true, true, .aborted false 1⟩] (true, debugWait) (514, 0)).2.otp.progReason = 7 ∧
    (openFuse [⟨true, true, .aborted true 1⟩] (true, debugWait) (514, 0)).2.otp.progResult = 5 := by decide

theorem test_debug :
    (nx .debugRequest base).otp.latch = true ∧ nx (.secDbgGo (List.replicate 6 ⟨true, true, .done 3⟩)) base = base ∧
    nx .debugWaitTimeout base = base ∧
    (nx (.drbgReseed true) { base with otp := { base.otp with drbgRequests := 1048576 } }).otp.drbgRequests = 0 ∧
    (nx (.drbgReseed false) { base with otp := { base.otp with drbgRequests := 1048576 } }).otp.rngFail = false ∧
    (nx (.drbgReseed false) { base with otp := { base.otp with drbgRequests := 1048576, rngFails := 2 } }).otp.rngFail
      = true := by
  decide

/-! ## Witnesses: every command completes -/

/-- PLL-G is enabled and takes a GENLOCK clock of 25 MHz; or pulses, none yet. -/
def gAcq : State := wr 0x010048 30 (wr 0x010040 9 { loops false false false with
  clk := { (loops false false false).clk with genHz := 25000000 } })

def firstPulse : State := { pulsed with clk := { pulsed.clk with pulse16 := none, period16 := none } }

/-- Timer n is armed for a count to come. -/
def early (n : Nat) : State :=
  { base with clk := { base.clk with
    timers := [(n, { presc := 0, compare := 5000000000, heldHi := some 1, armed := true, ivOld := none, fired := none })] } }

theorem witness_ClockCommandsComplete_1 :
    Answers (loops false false false) ∧ (loops false false false).clk.cEnabled = true ∧
    (loops false false false).clk.cLock = false ∧ (loops false false false).clk.refLost = false ∧
    LocksBy (loops false false false) .c (List.replicate 4096 0) ∧
    (loops false false false).clk.sEnabled = true ∧ (loops false false false).clk.sLock = false ∧
    LocksBy (loops false false false) .s (List.replicate 4096 0) ∧ Answers gAcq ∧ gAcq.clk.gEnabled = true ∧
    gAcq.clk.gLock = false ∧ gLegal gAcq = true ∧ LocksBy gAcq .g (List.replicate 4096 0) ∧
    Answers (clean false false) := by decide +kernel

theorem witness_ClockCommandsComplete_2 :
    cleanUse (clean false false) = true ∧ (clean false false).clk.gEver = false ∧
    (clean false false).clk.gBypassed = false ∧ Answers (loops true true true) ∧
    (loops true true true).clk.cLock = true ∧ (loops true true true).clk.sLock = true ∧
    (loops true true true).clk.gLock = true ∧ Answers base ∧ base.clk.refLost = false ∧
    Answers (clean true false) ∧ cleanUse (clean true false) = true ∧ (clean true false).clk.gHoldover = false ∧
    Answers (clean true true) ∧ cleanUse (clean true true) = true := by decide +kernel

theorem witness_ClockCommandsComplete_3 :
    (clean true true).clk.gHoldover = true ∧ gMask 0x010044 ≠ 0 ∧ cleanUse base = false ∧ 3 < 4 ∧ 1 ≤ 2 ∧
    2 ≤ 2 ∧ Answers synced ∧ synced.fc 0x010074 0 1 = 1 ∧ true = decide (synced.fc 0x010074 1 1 = 0) ∧
    synced.clk.lastSync = some 2000000 ∧ 2000000 + 750 ≤ max synced.time.tb 2000750 ∧ Answers firstPulse ∧
    pulseInput firstPulse = true ∧ firstPulse.clk.gEnabled = true ∧
    legacyMode firstPulse = false := by decide +kernel

theorem witness_ClockCommandsComplete_4 :
    firstPulse.clk.pulse16 = none ∧ Answers (com 0x04C200 1 pulsed) ∧ Awake (com 0x04C200 1 pulsed) ∧
    edgeKind (com 0x04C200 1 pulsed) = 1 ∧ pulseInput (com 0x04C200 1 pulsed) = true ∧
    (com 0x04C200 1 pulsed).time.glHold = false ∧ (com 0x04C200 1 pulsed).clk.pulse16 = some 0 ∧
    (com 0x04C200 1 pulsed).clk.period16 = some 16000 ∧ Answers timecode ∧ Awake timecode ∧
    timecode.fc 0x04C300 0 1 = 1 := by decide +kernel

theorem witness_TimerCommandsComplete_1 :
    Answers (timed 0) ∧ 7 < 8 ∧ (timed 0).fc (0x018100 + 0x20 * 7) 0 1 = 1 ∧ ((timed 0).timer 7).armed = true ∧
    ((timed 0).timer 7).compare * 2 ^ ((timed 0).timer 7).presc + 500 ≤ 2 ^ 64 ∧
    (timed 0).time.frac < (refStep (timed 0).clk.refCode).2 ∧ ((timed 0).timer 7).fired = none ∧
    (4 ≤ 7 ∨ Src.mgb = .shp) ∧ Answers (wr 0x0181E0 1 (early 7)) ∧
    (wr 0x0181E0 1 (early 7)).tb64 / 2 ^ ((wr 0x0181E0 1 (early 7)).timer 7).presc <
      ((wr 0x0181E0 1 (early 7)).timer 7).compare ∧
    (clockCycle (wr 0x0181E0 1 (early 7))).tb64 / 2 ^ ((wr 0x0181E0 1 (early 7)).timer 7).presc <
      (((wr 0x0181E0 1 (early 7)).timer 7).heldHi.getD (BitVec.ofNat 32 (((wr 0x0181E0 1 (early 7)).timer 7).compare / 2 ^ 32))).toNat
      * 2 ^ 32 + (5 : Word).toNat ∧ Answers halting ∧ halting.time.slow = false ∧
    halting.otp.dbgEn = true := by decide +kernel

theorem witness_TimerCommandsComplete_2 :
    halting.otp.lifecycle ≠ 1 ∧ Awake slow ∧ slow.time.slow = true := by decide +kernel

theorem witness_ExposureCommandsComplete_1 :
    (inPhase .waitFirst base).sys.phase = .waitFirst ∧ (inPhase .waitFirst base).time.slow = false ∧
    Ticking base ∧ base.time.slow = false ∧ base.img.cur.mode < 2 ∧ Ticking external ∧
    external.time.slow = false ∧ 2 ≤ external.img.cur.mode ∧ true = decide (external.fa 0x04C200 2 1 = 0) ∧
    external.fc 0x04C20C 0 10 ≤ 10 ∧ 13000000 = 12999966 + trigDelay (external.fc 0x04C20C 0 10) 1 ∧
    external.time.e + external.time.tmin ≤ 13000000 ∧ 13000000 ≤ external.time.cmp ∧
    Ticking holding := by decide +kernel

theorem witness_ExposureCommandsComplete_2 :
    holding.img.flushed = false ∧ Ticking exposing ∧ 1 ≤ 1 ∧ 1 ≤ 4 ∧
    ((exposing.tile 3071).exp 1).exists_ = true ∧ ((exposing.tile 3071).exp 1).dropped = false ∧
    ((exposing.tile 3071).exp 1).done = false ∧ isGated exposing 3071 1 = false ∧
    ((exposing.tile 3071).exp 1).started = false ∧ Awake (wr 0x04C20C 0x000A000A base) ∧
    (wr 0x04C20C 0x000A000A base).img.trig1 ≠ true ∧ (wr 0x04C20C 0x000A000A base).fc 0x04C20C 16 10 ≤ 10 ∧
    Awake base ∧ base.regs.staged .mgb = none := by decide +kernel

theorem witness_ExposureCommandsComplete_3 :
    Awake bracket ∧ (bracket.regs.staged .mgb).isSome = true ∧
    orIf (bracket.fc 0x04C108 0 8) 1 ≤ bracket.regs.commits .mgb := by decide +kernel

theorem witness_ReadoutCommandsComplete_1 :
    InTier 2 reading ∧
    reading.img.blocks = ({ kind := 0, row := 0, start := 3000, slotTime := 500, slots := 2, next := 1 }) :: [] ∧
    InTier 2 base ∧ base.img.blocks = [] ∧ base.img.ended = false ∧ Awake refreshed ∧
    refreshed.cnv.passDone = true ∧ Ticking (wr 0x050000 2 (wr 0x050010 1023 base)) ∧
    (wr 0x050000 2 (wr 0x050010 1023 base)).fc 0x050000 1 1 = 1 ∧
    1023 ≤ ((wr 0x050000 2 (wr 0x050010 1023 base)).cur 0x050010).toNat ∧
    (wr 0x050000 2 (wr 0x050010 1023 base)).cnv.due = none ∧
    (wr 0x050000 2 (wr 0x050010 1023 base)).cnv.passDone = false ∧
    (wr 0x050000 2 (wr 0x050010 1023 base)).cnv.fresh = none ∧ Awake base := by decide +kernel

theorem witness_ReadoutCommandsComplete_2 :
    InTier 2 (statReady 1) ∧ (statReady 1).img.cur.plan.rows ≠ [] ∧ 0 < (statReady 1).time.k ∧
    ((statReady 1).bank ((statReady 1).img.prv.k % 2)).state = 0 ∧
    ((statReady 1).bank ((statReady 1).img.prv.k % 2)).frame = (statReady 1).img.prv.k % 2 ^ 32 ∧
    ((statReady 1).img.cur.plan.rows.all fun j => (statReady 1).img.prv.ready.contains j) = true ∧
    ((statReady 1).bank ((statReady 1).img.prv.k % 2)).lost = false ∧ InTier 2 aeWaits ∧
    aeWaits.ae.waiting = some 0 ∧ aeWaits.ae.running = none ∧ aeWaits.fc 0x0A0000 0 1 = 1 ∧
    (aeWaits.bank 0).state % 2 = 1 ∧ aeWaits.regs.stgShp = none ∧ Awake aeRuns := by decide +kernel

theorem witness_ReadoutCommandsComplete_3 :
    aeRuns.ae.running = some 0 := by decide +kernel

theorem witness_TrackingCommandsComplete_1 :
    InTier 2 built ∧ built.img.cur.plan.rows.contains 0 = true ∧
    rowComplete built.img.prv built.img.cur.plan (slotCounts built.readSet) 0 = true ∧
    built.img.prv.ready.contains 0 = false ∧ 1 ≤ 1 ∧ 1 ≤ 2 ∧ built.ptr.cut = false ∧
    srcFrame built 1 built.img.prv.k = some auxF ∧ 0 < 1536 ∧ (built.curPyr 1).upTo ≤ 0 ∧
    0 < auxTaken built auxF ∧ (auxRow auxF 0 (field (rget built.regs.prev 0x0C0004) 16 9)).isSome = true ∧
    InTier 3 base ∧ base.ptr.kat = false := by decide +kernel

theorem witness_TrackingCommandsComplete_2 :
    InTier 3 matching ∧ look matching.ptr.running 3 = some (7, 1000000) ∧
    1000000 + jobCounts (matching.slot 7) ≤ matching.time.e + lastEnd matching ∧ beforeSolve matching = true ∧
    InTier 3 probing ∧ probing.ptr.cut = false ∧ probing.sct.probed = [] ∧ 0 < probing.fc 0x0D0004 0 16 ∧
    max probing.time.tb probing.sct.freeAt + 320 ≤ probing.time.e + cutAt probing ∧
    windowList probing = ({ src := 1, kind := 0, idx := 0, m := 0, x := 0, y := 0, w := 16, h := 16 }) :: [] ∧
    winReady probing ({ src := 1, kind := 0, idx := 0, m := 0, x := 0, y := 0, w := 16, h := 16 }) = true ∧
    matching.ptr.cut = false ∧ InTier 3 (cutOff false) ∧ (cutOff false).ptr.cut = true := by decide +kernel

theorem witness_TrackingCommandsComplete_3 :
    (cutOff false).ptr.booked = false ∧ beforeSolve (cutOff false) = true ∧ InTier 2 base ∧
    base.ptr.solved = false ∧ Awake base ∧ base.ken.cmds.length < 256 ∧ 255 < 256 := by decide +kernel

theorem witness_PortCommandsComplete_1 :
    127 < 128 ∧ InTier 3 (heelAt .holding true none) ∧ ((heelAt .holding true none).hp 127).state = .holding ∧
    ((heelAt .holding true none).hp 127).parkDue = true ∧ Awake (heelAt .holding true (some ovr0)) ∧
    ((heelAt .holding true (some ovr0)).hp 127).ovr = some ovr0 ∧ ovr0.left = some 0 ∧ InTier 3 base ∧
    base.heel.done = false ∧ Ticking (leashed lshOn) ∧
    ((leashed lshOn).lp 127).latchTick ≠ some (leashed lshOn).time.k ∧ lshMode (leashed lshOn) 127 = 2 ∧
    ((leashed lshOn).lp 127).cfg = (leashed lshOn).act (lshReg 127 0) ∧
    clkLow (leashed lshOn) 127 = false := by decide +kernel

theorem witness_PortCommandsComplete_2 :
    Awake (wr 0x107F00 0x30000000 (leashed { lshOn with missed := 3, missNew := true })) ∧
    ((wr 0x107F00 0x30000000 (leashed { lshOn with missed := 3, missNew := true })).lp 127).lost = false ∧
    ((wr 0x107F00 0x30000000 (leashed { lshOn with missed := 3, missNew := true })).lp 127).missNew = true ∧
    lossTicks (wr 0x107F00 0x30000000 (leashed { lshOn with missed := 3, missNew := true })) 127 ≤
      ((wr 0x107F00 0x30000000 (leashed { lshOn with missed := 3, missNew := true })).lp 127).missed ∧
    Awake (leashed acked) ∧ modeIn ((leashed acked).lp 127).cfg = 2 ∧
    ackEn ((leashed acked).lp 127).cfg = true ∧ 2 ≤ (ack 0x61 9 0 []).length ∧
    crc16 ((ack 0x61 9 0 []).take ((ack 0x61 9 0 []).length - 2)) = leAt (ack 0x61 9 0 [])
      ((ack 0x61 9 0 []).length - 2) 2 ∧ leAt (ack 0x61 9 0 []) 0 1 = 0x61 ∧ leAt (ack 0x61 9 0 []) 1 1 = 127 ∧
    leAt (ack 0x61 9 0 []) 6 1 < 32 ∧
    (ack 0x61 9 0 []).length = 10 + 3 * maskCount (leAt (ack 0x61 9 0 []) 6 1) ∧
    ((leashed acked).lp 127).sent.find? (fun f' => decide (f'.seq = leAt (ack 0x61 9 0 []) 2 1)) = some
      ({ seq := 9, tb := 5, acked := false, met := false } : SentFrame) := by decide +kernel

theorem witness_PortCommandsComplete_3 :
    ({ seq := 9, tb := 5, acked := false, met := false } : SentFrame).acked = false ∧
    Awake (wr 0x108000 4 (leashed (cued 1 2))) ∧
    ((wr 0x108000 4 (leashed (cued 1 2))).lp 127).cues.find? (fun c' => decide (c'.cseq = 1)) = some
      ({ cseq := 1, op := 1, arg := 0, tb := 0, first := some 1, sends := 1 } : Cue) ∧
    (wr 0x108000 4 (leashed (cued 1 2))).fc 0x108000 0 16 ≠ 0 ∧
    ({ cseq := 1, op := 1, arg := 0, tb := 0, first := some 1, sends := 1 } : Cue).first = some 1 ∧
    1 + (wr 0x108000 4 (leashed (cued 1 2))).fc 0x108000 0 16 ≤ (wr 0x108000 4 (leashed (cued 1 2))).time.k ∧
    Awake (leashed (cued 1 2)) ∧ ackEn ((leashed (cued 1 2)).lp 127).cfg = false ∧
    Awake (leashed (cued 63 65535)) ∧ 1 ≤ 255 ∧ 255 < 256 ∧ lshMode (leashed (cued 63 65535)) 127 = 2 ∧
    (leashed (cued 63 65535)).fa (lshReg 127 0) 9 3 ≠ 0 ∧
    ((leashed (cued 63 65535)).lp 127).cues.length < 64 := by decide +kernel

theorem witness_AuxCommandsComplete_1 :
    1 < 2 ∧ Awake (wr 0x090400 0 base) ∧ (wr 0x090400 0 base).fc (auxReg 1 0) 0 1 = 0 ∧
    (∀ j, j < 4 → ∀ i, i < j → field (0xE400 : Word) (8 + 2 * i) 2 ≠ field (0xE400 : Word) (8 + 2 * j) 2) ∧
    Awake base ∧ PortOn (auxed []) 1 ∧ 3 < 4 ∧ vcOn (auxed []) (4 * 1 + 3) = true ∧ PortOn (auxed [auxU]) 1 ∧
    vcOn (auxed [auxU]) (4 * 1 + 3) = true ∧ ((pkt true) : LongPkt).vc < 4 ∧
    vcOn (auxed [auxU]) (4 * 1 + (pkt true).vc) = true ∧ (auxGroup (pkt true).dt).isSome = true ∧
    openFrame (hear (auxed [auxU]) 1 (pkt true).phy) (4 * 1 + (pkt true).vc) = some auxU := by decide +kernel

theorem witness_AuxCommandsComplete_2 :
    auxU.next < 8192 ∧ auxU.dt.getD (pkt true).dt = (pkt true).dt ∧
    bindingOf (auxed [auxU]) (4 * 1 + (pkt true).vc) = none ∧ (pkt true).wc ≤ 16384 ∧
    (pkt true).bytes.length = (pkt true).wc ∧
    fifoUsed (hear (auxed [auxU]) 1 (pkt true).phy) 1 + (pkt true).wc ≤ 65536 ∧ InTier 2 (quiet [1]) ∧
    (quiet [1]).aux.missDue.contains 1 = true := by decide +kernel

theorem witness_RequestsComplete_1 :
    InOrder (linked linkUp) (.regRd (hdr 65535 8) 0xFFFFF8 1) (hdr 65535 8) ∧
    InOrder (linked linkUp) (.regWr (hdr 65535 12) 0x020240 1 [5]) (hdr 65535 12) ∧
    regStatus (hdr 65535 12) 12 0x020240 1 = 0 ∧ storesOnly 0x020240 = true ∧
    InOrder (linked linkUp) (.bulkRd (hdr 65535 16) 0x100000000 32) (hdr 65535 16) ∧
    bulkStatus (hdr 65535 16) 16 0x100000000 32 1048576 = 0 ∧
    InOrder (linked linkUp) (.bulkWr (hdr 65535 48) 0x102000000 32 (zeros 32)) (hdr 65535 48) := by decide +kernel

theorem witness_RequestsComplete_2 :
    bulkStatus (hdr 65535 48) (16 + 32) 0x102000000 32 16384 = 0 ∧
    InOrder (session 1 (linked linkUp))
      (.updBlock (hdr 65535 144) 16711424 128 (zeros 128) ([] : List Nat) none) (hdr 65535 144) ∧
    (hdr 65535 144).body = 16 + 128 ∧ (zeros 128).length = 128 ∧ (session 1 (linked linkUp)).upd.pend = [] ∧
    (session 1 (linked linkUp)).upd.state = 1 ∧ (session 1 (linked linkUp)).upd.owner = 1 := by decide +kernel

theorem witness_RequestsComplete_3 :
    128 ≤ 128 ∧ 128 ≤ 4096 ∧ 128 % 128 = 0 ∧ 16711424 % 256 = 0 ∧
    16711424 + 128 ≤ (session 1 (linked linkUp)).upd.imgLen ∧
    (session 1 (linked linkUp)).upd.imgLen ≤ 16711680 ∧
    (session 1 (linked linkUp)).boot.fwBank < 2 := by decide +kernel

theorem witness_RequestsComplete_4 :
    unitConflict (session 1 (linked linkUp)) 16711424 (zeros 128) = false ∧
    FlashFree (session 1 (linked linkUp)) ∧
    InOrder (linked linkUp) (.trackSeed (hdr 65535 40) seed0) (hdr 65535 40) ∧ (hdr 65535 40).body = 40 ∧
    (linked linkUp).ken.cmds.length < 256 ∧
    InOrder (linked linkUp) (.trackKill (hdr 65535 8) (0 : Word)) (hdr 65535 8) ∧
    (hdr 65535 8).body = 8 := by decide +kernel

theorem witness_RequestsComplete_5 :
    InOrder parked5 (.aimOverride (hdr 65535 40) (ovr5 2)) (hdr 65535 40) ∧ (ovr5 2).port < 128 ∧
    (parked5.hp (ovr5 2).port).state ≠ .off ∧ ((ovr5 2).mode = 2 ∨ (ovr5 2).mode = 3) ∧
    InOrder (linked linkUp) (.timeSet (hdr 65535 16) 5 6) (hdr 65535 16) ∧ (hdr 65535 16).body = 16 ∧
    InOrder (linked linkUp) (.unknownPacket (hdr 65535 0) 0x4A) (hdr 65535 0) := by decide +kernel

theorem witness_LinkCommandsComplete_1 :
    Awake (linked acking) ∧ 0 < 2 ∧
    ((linked acking).seqRec 0).past 0 < ((linked acking).seqRec 0).past ((linked acking).seqRec 0).txNext ∧
    ((linked acking).seqRec 0).replay.any (fun p' => decide (p'.1 = 0)) = true ∧ Awake (linked linkUp) ∧ 2 < 3 ∧
    ((linked linkUp).link 0).state = .up ∧ Awake (linked training) ∧
    (((linked training).link 0).state = .training ∨ ((linked training).link 0).state = .up) ∧
    ((linked training).link 0).state = .training ∧ (linked training).clk.sLock = true ∧
    8 ≤ laneCount ((0xFF : BitVec 16) : BitVec 16).toNat ∧ 1024 ≤ 1024 ∧ 15 < 16 := by decide +kernel

theorem witness_LinkCommandsComplete_2 :
    Awake (linked { training with state := .down }) ∧
    ((linked { training with state := .down }).link 0).state = .down ∧
    ((linked { training with state := .down }).clk.sLock = true ∨ false = true) ∧
    Awake (wr 0x110004 0x200 (linked { linkUp with replay := [(3, one)] })) ∧
    ((wr 0x110004 0x200 (linked { linkUp with replay := [(3, one)] })).seqRec 0).replay = (3, one) :: [] ∧
    ((wr 0x110004 0x200 (linked { linkUp with replay := [(3, one)] })).link 0).state = .up ∧
    ((wr 0x110004 0x200 (linked { linkUp with replay := [(3, one)] })).link 0).timeouts + 1 < orIf
      ((wr 0x110004 0x200 (linked { linkUp with replay := [(3, one)] })).fc 0x110004 8 4) 1 ∧
    Awake (sending linkUp) ∧ 1 < 3 ∧ headOf (sending linkUp) 0 1 = some (one, []) ∧
    ((sending linkUp).link 0).state = .up ∧ hasCredit ((sending linkUp).link 0) one = false ∧
    1 ∉ ((sending linkUp).link 0).stalled ∧ Awake (credited linkUp) := by decide +kernel

theorem witness_LinkCommandsComplete_3 :
    (credited linkUp).isUp 0 = true ∧ linkUsed (credited linkUp) 0 = true ∧
    (∀ m, m < 2 → ((credited linkUp).link m).waiting = [] ∧ ((credited linkUp).link m).bulk = none) ∧
    ((credited linkUp).link 0).resend = none ∧ nextNew (credited linkUp) 0 = some (1, one, []) ∧
    crc8 ((zeros 7 ++ [(1 : Byte)]).take 7) ≠ ((zeros 7 ++ [(1 : Byte)]).getD 7 0).toNat := by decide +kernel

theorem witness_BusCommandsComplete_1 :
    Answers base ∧ 16777215 < 2 ^ 24 ∧ 0x020240 < 2 ^ 24 ∧ 0x020240 % 4 = 0 ∧ storesOnly 0x020240 = true ∧
    base.mgb.ptr < 2 ^ 24 ∧ Answers ({ base with mgb := { base.mgb with cut := true } }) ∧
    ({ base with mgb := { base.mgb with cut := true } }).mgb.cut = true ∧ Answers barking ∧ Awake barking ∧
    barking.mgb.attempt = none ∧ barkOn barking = true ∧ barking.mgb.busy = false ∧
    (rangeFrom 1 7).find? (barkDue barking) = some 7 := by decide +kernel

theorem witness_BusCommandsComplete_2 :
    Answers (retrying 7) ∧ Awake (retrying 7) ∧ (retrying 7).mgb.attempt = some (7, 1, 7) ∧
    barkOn (retrying 7) = true ∧ barkDue (retrying 7) 7 = true ∧ (retrying 7).mgb.busy = false ∧ 7 < 8 ∧ 1 ≤ 7 ∧
    (descOf 0x120080).isSome = true ∧
    ((descOf 0x020240).any fun d => decide (d.tick = 0 ∧ d.held = 0 ∧ d.w1c = 0)) = true ∧
    isRefused base .mgb 0x020240 = false ∧ Answers mailbox ∧ Awake mailbox ∧
    mailbox.upd.pend = [] := by decide +kernel

theorem witness_BusCommandsComplete_3 :
    mailbox.upd.state = 1 ∧ mailbox.upd.owner = 2 ∧ mailbox.fc 0x030204 0 8 = 128 ∧
    (mailbox.cur 0x030200).toNat % 128 = 0 ∧ (mailbox.cur 0x030200).toNat + 128 ≤ mailbox.upd.imgLen ∧
    mailbox.upd.imgLen ≤ 16711680 ∧ mailbox.boot.fwBank < 2 ∧ FlashFree mailbox ∧
    unitConflict mailbox (mailbox.cur 0x030200).toNat
      ((upto 32).map (fun i => le 4 (mailbox.cur (0x030280 + 4 * i)).toNat)).flatten = false := by
      decide +kernel

theorem witness_FaultCommandsComplete_1 :
    Awake ({ base with sys := { base.sys with wdMissed := 4 } }) ∧
    ({ base with sys := { base.sys with wdMissed := 4 } }).time.slow = false ∧
    4 ≤ ({ base with sys := { base.sys with wdMissed := 4 } }).sys.wdMissed ∧ Awake base ∧ base.sys.lsN = 0 ∧
    63 < 64 ∧ base.upd.state ≠ 5 ∧ Awake (hot 8 false false 0) ∧ 8 ≤ (hot 8 false false 0).sys.tripEdges ∧
    (hot 8 false false 0).sys.tripped = false ∧ (hot 8 false false 0).upd.state ≠ 5 ∧
    Awake (hot 8 true true 0) ∧ (hot 8 true true 0).sys.tripped = true ∧
    sgn 16 ((hot 8 true true 0).fc 0x130004 0 16) < ((tripTemp (hot 8 true true 0) - 15) * 256 : Nat) := by
      decide +kernel

theorem witness_FaultCommandsComplete_2 :
    Awake (logged false []) ∧ (logged false []).boot.usable = true ∧ (logged false []).fc 0x130040 16 1 = 1 ∧
    FlashFree (logged false []) ∧ (logged false []).log.archWr < 131072 ∧
    .logFlush ∉ (logged false []).boot.deferred ∧ Awake (logged false [.logFlush]) ∧
    (logged false [.logFlush]).boot.deferred = [.logFlush] ∧ (logged false [.logFlush]).boot.usable = true ∧
    (logged false [.logFlush]).fc 0x130040 16 1 = 1 ∧ FlashFree (logged false [.logFlush]) ∧
    (logged false [.logFlush]).log.archWr < 131072 ∧ (logged false []).boot.pfwLow = false ∧
    Awake (logged true []) := by decide +kernel

theorem witness_FaultCommandsComplete_3 :
    (logged true []).boot.pfwLow = true ∧ 131071 < 131072 := by decide +kernel

theorem witness_UpdateCommandsComplete_1 :
    Awake (waiting 1) ∧
    (waiting 1).upd.pend =
      ({ path := 1, link := 0, tag := 9, offset := 0, data := [], since := 0, fail := none }) :: [] ∧
    Awake (updating 6) ∧
    ((updating 6).upd.state = 1 ∨ (updating 6).upd.state = 3 ∨ (updating 6).upd.state = 6) ∧
    FlashFree (updating 6) ∧ .mapErase ∉ (updating 6).boot.deferred ∧ Awake complete ∧ complete.upd.state = 1 ∧
    updComplete complete = true ∧ Awake (updating 2) ∧ (updating 2).upd.state = 2 ∧
    (updating 2).upd.verifySince.isSome = true ∧ FlashFree (updating 2) ∧
    Awake (updating 3) := by decide +kernel

theorem witness_UpdateCommandsComplete_2 :
    (updating 3).upd.state = 3 ∧ (portsActive (updating 3) = false ∨ true = true) ∧ FlashFree (updating 3) ∧
    Awake (updating 4) ∧ (updating 4).upd.state = 4 ∧ (updating 4).upd.trialWritten = false ∧
    Awake (trial true 3) ∧ (trial true 3).upd.state = 5 ∧ (trial true 3).upd.hostConfirm = true ∧
    checksHold (trial true 3) = true ∧ (trial true 3).sys.phase = .run ∧ 0 < (trial true 3).upd.confirmLeft ∧
    FlashFree (trial true 3) ∧ .confirmedRecord ∉ (trial true 3).boot.deferred := by decide +kernel

theorem witness_UpdateCommandsComplete_3 :
    Awake (updating 0) ∧ (updating 0).upd.state = 0 ∧ FlashFree (updating 0) ∧
    .rollbackRecord ∉ (updating 0).boot.deferred ∧ Awake (ended false) ∧ (ended false).upd.state = 5 ∧
    (ended false).upd.confirming = false ∧ (ended false).upd.confirmLeft = 0 ∧ FlashFree (ended false) ∧
    Awake (wr 0x020040 0x4FFF base) ∧ field (0x0F5E0001 : Word) 0 1 = 1 ∧
    field (0x0F5E0001 : Word) 16 16 = 0x0F5E ∧
    progReason (wr 0x020040 0x4FFF base)
      ((wr 0x020040 0x4FFF base).fc 0x020040 9 6 * 512 + (wr 0x020040 0x4FFF base).fc 0x020040 0 9)
      (decide (field (0x0F5E0001 : Word) 1 1 = 1))
      ⟨({ vcoreOk := true, vppOk := true, pumpOk := true } : PulseEnv).vcoreOk, if field (0x0F5E0001 : Word) 1 1
      = 1 then ({ vcoreOk := true, vppOk := true, pumpOk := true } : PulseEnv).pumpOk else
      ({ vcoreOk := true, vppOk := true, pumpOk := true } : PulseEnv).vppOk⟩ = 0 ∧
    Awake pulsing := by decide +kernel

theorem witness_UpdateCommandsComplete_4 :
    pulsing.otp.progBusy = true ∧ Awake ({ base with otp := { base.otp with drbgRequests := 1048576 } }) ∧
    1048576 ≤ ({ base with otp := { base.otp with drbgRequests := 1048576 } }).otp.drbgRequests := by decide +kernel

theorem witness_StartCommandsComplete_1 :
    2000 ≤ ({ ns := 2000, vpll := false, back := false } : Excursion).ns ∧ State.reset.sys.phase = .held ∧
    State.reset.otp.latch = false ∧ env0.supplies = true ∧ env0.refclk = true ∧ env0.t1Fail = false ∧
    due2.sys.phase = .restarting ∧ 2 ≤ due2.sys.cause ∧ due2.otp.latch = false ∧ waits.sys.phase = .waitRef ∧
    waits.sys.waiting = some ({ env0 with refclk := false }) ∧ waits.otp.latch = false ∧
    ({ env0 with refclk := false }).t1Fail = false ∧ base.sys.pgoodLow = false := by decide +kernel

theorem witness_StartCommandsComplete_2 :
    debugWait.sys.phase = .waitDebug ∧ debugWait.sys.waiting = some env0 ∧ debugWait.otp.progBusy = false ∧
    pfwActive debugWait = false := by decide +kernel

/-- The header of an image of one segment of 16 bytes, its signature zero. -/
def imgHeader : List Byte :=
  le 4 0x57465A51 ++ le 2 1 ++ le 2 304 ++ le 2 0x8160 ++ le 2 1 ++ zeros 4 ++ le 4 320 ++ zeros 108
    ++ (le 4 304 ++ le 4 16) ++ zeros 72 ++ zeros 96

/-- The other bank holds that header. -/
def rolled : State :=
  wr 0x030020 0 { base with
    boot := { base.boot with flash := imgHeader.zipIdx.map (fun x => (bankBase 1 + x.2, x.1)) },
    otp := { base.otp with keyOk := true } }

/-- UPD_ROLLBACK acts where the signature of that header verifies: the key of the check is a constant without a body. -/
theorem witness_RollbackHeader
    (h : ecdsaVerify Config.updateKey (imgHeader.take 208) ((imgHeader.drop 208).take 96) = true) :
    Awake rolled ∧ rolled.upd.state = 0 ∧ FlashFree rolled ∧ .rollbackRecord ∉ rolled.boot.deferred ∧
      hdrCheck rolled (flashHeader rolled (bankBase (targetBank rolled))) = 0 := by
  refine ⟨by decide, by decide, by decide, by decide, ?_⟩
  have e : flashHeader rolled (bankBase (targetBank rolled)) = imgHeader := by decide +kernel
  rw [e]
  unfold hdrCheck
  rw [if_neg (by decide +kernel), if_neg (by decide +kernel), if_neg (by decide +kernel), if_neg (by decide +kernel)]
  have l : leAt imgHeader 6 2 - 96 = 208 := by decide +kernel
  simp only [l, h]
  decide +kernel

/-- A start waits for a response with the owner region of the fuses partial: SEC_DBG_GO rejects any. -/
def partialKey : State := { debugWait with otp := { debugWait.otp with data := [(640, 1)] } }

theorem witness_ResponseRejected : respAccepted partialKey = false := by
  have e : regionState partialKey 40 = 1 := by decide +kernel
  simp [respAccepted, e]

/-- SEC_DBG_GO opens debug where the response verifies. -/
theorem witness_ResponseAccepted
    (h : ecdsaVerify Config.debugKey (debugWait.otp.challenge ++ [0x4F, 0x50, 0x45, 0x4E])
      (respBytes debugWait 0 24) = true) : respAccepted debugWait = true := by
  unfold respAccepted
  simp only [h]
  decide +kernel

end Sys2Proof.Tests
end

section
/-!
PROOFS. From the two latched counts of a comparator to its code (R103, R106).
-/

namespace Sys2Proof.ColumnConversion

open Sys2Proof.Machine

/-- A right shift of a Gray code is the exclusive or of two neighbouring right shifts of its count. -/
theorem grayEncode_shift (r i : Nat) : (r ^^^ r / 2) / 2 ^ i = r / 2 ^ i ^^^ r / 2 ^ (i + 1) := by
  have next_shift : r / 2 / 2 ^ i = r / 2 ^ (i + 1) := by
    rw [Nat.div_div_eq_div_mul, Nat.pow_succ']
  rw [Nat.xor_div_two_pow, next_shift]

/-- The exclusive or of consecutive right shifts of a Gray code telescopes: the first and the last shift of its
count remain. -/
theorem foldl_xor_grayEncode_shifts (r k n a : Nat) :
    (rangeFrom k n).foldl (fun b i => b ^^^ (r ^^^ r / 2) / 2 ^ i) a
      = a ^^^ r / 2 ^ k ^^^ r / 2 ^ (k + n) := by
  induction n generalizing k a with
  | zero => simp only [rangeFrom, List.foldl_nil, Nat.add_zero, Nat.xor_assoc, Nat.xor_self, Nat.xor_zero]
  | succ n ih =>
    have inner_cancels (y z : Nat) : y ^^^ (y ^^^ z) = z := by
      rw [← Nat.xor_assoc, Nat.xor_self, Nat.zero_xor]
    rw [rangeFrom, List.foldl_cons, ih, grayEncode_shift, Nat.add_right_comm k 1 n, Nat.add_assoc k n 1]
    simp only [Nat.xor_assoc, inner_cancels]

/-- Decoding undoes the Gray code of every 13-bit count (R103). -/
theorem grayDecode_grayEncode (r : Nat) (h : r < 8192) : grayDecode (r ^^^ r / 2) = r := by
  have encoded_lt : r ^^^ r / 2 < 8192 := Nat.xor_lt_two_pow (n := 13) h (by omega)
  have last_shift : r / 2 ^ (0 + 13) = 0 := Nat.div_eq_of_lt h
  rw [grayDecode, upto, Nat.mod_eq_of_lt encoded_lt, foldl_xor_grayEncode_shifts, last_shift,
    Nat.pow_zero, Nat.div_one, Nat.zero_xor, Nat.xor_zero]

/-- The code of a comparator that has switched on both ramps, from its decoded counts (R106). -/
theorem cdsCode_of_latches (ten : Bool) (ped r g : Nat) :
    cdsCode ten ped (some r) (some g)
      = (min (max ((grayDecode g : Int) - grayDecode r - 448 + ped) 0)
          (2 ^ (if ten then 10 else 12) - 1)).toNat := by
  have top_eq : (((if ten then 1023 else 4095 : Nat)) : Int) = 2 ^ (if ten then 10 else 12) - 1 := by
    cases ten <;> rfl
  simp only [cdsCode, clampI]
  rw [top_eq, Int.min_comm, Int.max_comm]

/-- In a row that has been read, the code of a comparator is that of its two latches. -/
theorem rawCode_of_captured (c : ReadCtx) (y x n : Nat) (cap : SlotCap) (h : look c.caps (y / 4) = some cap) :
    c.rawCode y x n
      = cdsCode c.ten c.ped (slotLatches cap (y % 4) x n).1 (slotLatches cap (y % 4) x n).2 := by
  simp only [ReadCtx.rawCode, h]

/-- The pedestal of a read is the field of its depth: PED10 or PED12 of CNV_PEDESTAL (R106). -/
theorem ped_eq_field (c : ReadCtx) :
    c.ped = field (rget c.set 0x050004) (if c.ten then 16 else 0) (if c.ten then 10 else 12) := by
  cases h : c.ten <;> simp only [ReadCtx.ped, h, if_true, if_false, Bool.false_eq_true]

/-- Settles O15: both latches decode to their counts, and the code clamps their difference with the pedestal. -/
theorem codesFollowTheLatches : Obligations.CodesFollowTheLatches := by
  intro c y x n r g cap hr hg captured latched
  rw [rawCode_of_captured c y x n cap captured, latched, cdsCode_of_latches, grayDecode_grayEncode r hr,
    grayDecode_grayEncode g hg, ped_eq_field]

end Sys2Proof.ColumnConversion
end

section
/-!
PROOFS. A complete bank of statistics goes to a run of exposure control, which works in the Shepherd bracket and
ends with it (R174, R209 to R211, R222).
-/

namespace Sys2Proof.AutoExposure

open Sys2Proof.Machine Sys2Proof.Say Sys2Proof.Laws

/-! ## Registers that an operation may change -/

theorem regsBut_refl (l : List Nat) (s : State) : RegsBut l s s := fun _ _ => rfl

theorem regsBut_trans {l : List Nat} {s t u : State} (a : RegsBut l s t) (b : RegsBut l t u) : RegsBut l s u :=
  fun r hr => (b r hr).trans (a r hr)

/-- The device sets a listed register, be it by `setFld` or `bump`. -/
theorem regsBut_setReg {l : List Nat} {a : Nat} (ha : a ∈ l) (s : State) (w : Word) :
    RegsBut l s (setReg s a w) :=
  fun _ hr => cur_setReg_other s a _ w (ne_of_mem_of_not_mem ha hr).symm

/-- A counter rises alike from before operations that leave it alone. -/
theorem risen_since {l : List Nat} {s t u : State} {a n : Nat} (h : RegsBut l s t) (ha : a ∉ l)
    (r : Risen t u a n) : Risen s u a n := by
  rw [Risen, r, h a ha]

/-- What has risen stays, where an operation after it leaves the counter alone. -/
theorem risen_keep {l : List Nat} {s t u : State} {a n : Nat} (r : Risen s t a n) (h : RegsBut l t u)
    (ha : a ∉ l) : Risen s u a n := by
  rw [Risen, h a ha, r]

/-! ## The bank of the frame now read (R174) -/

theorem endFrameOf_regs (s : State) (key stream frame num state : Nat) :
    (endFrameOf s key stream frame num state).regs = s.regs := by
  simp [endFrameOf]

/-- The end of a frame on a META stream writes no register. -/
theorem endMeta_regs (s : State) (stream frame : Nat) : (endMeta s stream frame).regs = s.regs := by
  unfold endMeta
  dsimp only
  split
  · exact endFrameOf_regs ..
  · rfl

/-- The end of a frame on stream 3 touches neither registers, banks, the imaging state nor the controller. -/
theorem endStats_keeps (s : State) (k : Nat) :
    (endStats s k).regs = s.regs ∧ (endStats s k).stat = s.stat ∧ (endStats s k).img = s.img
      ∧ (endStats s k).ae = s.ae := by
  unfold endStats
  split
  · exact ⟨rfl, rfl, rfl, rfl⟩
  · exact ⟨endMeta_regs .., endMeta_stat .., endMeta_img .., endMeta_ae ..⟩

/-- The banks are the same where the statistics are. -/
theorem bank_congr {s t : State} (h : t.stat = s.stat) (i : Nat) : t.bank i = s.bank i :=
  congrArg (fun x : Stat => mget Bank.empty x.banks i) h

/-- The bank of the frame now read. -/
def readBank (s : State) : Nat := s.img.prv.k % 2

/-- What `completeBank` makes of a bank. -/
def completed (s : State) (b : Bank) : Bank :=
  { b with state := 1 + (if b.rows.length = 48 then 0 else 2), tb := s.time.tb }

/-- A complete bank shows STATE.COMPLETE, with or without PARTIAL. -/
theorem completed_state_odd (s : State) (b : Bank) : (completed s b).state % 2 = 1 := by
  unfold completed
  dsimp only
  split <;> rfl

/-- A bank whose header is lost is left as it is: its frame ends on stream 3 (R536). -/
theorem completeBank_of_lost (s : State) (h : (s.bank (readBank s)).lost = true) :
    completeBank s = endStats s s.img.prv.k := by
  simp only [completeBank]
  exact if_pos h

/-- What completing the bank of the frame now read, with its header, does to the device (R173, R174). -/
structure Completes (s t : State) : Prop where
  bank : t.bank (readBank s) = completed s (s.bank (readBank s))
  img : t.img = s.img
  ae : t.ae = s.ae
  statFrame : t.cur 0x080020 = BitVec.ofNat 32 (s.bank (readBank s)).frame
  regs : RegsBut [0x080020, nlkDrop 3] s t

/-- A record on stream 3 and the end of its frame keep what the completion has done. -/
theorem Completes.record {s t : State} (c : Completes s t) (frame sub k : Nat) (bytes : List Byte) :
    Completes s (endStats (queueRecord t 3 frame sub bytes false) k) := by
  obtain ⟨regs, stat, img, ae⟩ := endStats_keeps (queueRecord t 3 frame sub bytes false) k
  have cur_eq (a : Nat) (ha : a ≠ nlkDrop 3) :
      (endStats (queueRecord t 3 frame sub bytes false) k).cur a = t.cur a :=
    (cur_congr (congrArg Regs.cur regs) a).trans (cur_queueRecord t 3 frame sub a bytes ha)
  have bank_eq (i : Nat) : (endStats (queueRecord t 3 frame sub bytes false) k).bank i = t.bank i :=
    bank_congr (stat.trans (queueRecord_stat ..)) i
  refine ⟨(bank_eq _).trans c.bank, img.trans ((queueRecord_img ..).trans c.img),
    ae.trans ((queueRecord_ae ..).trans c.ae), (cur_eq _ (by decide)).trans c.statFrame, fun a ha => ?_⟩
  exact (cur_eq a (fun e => ha (by simp [e]))).trans (c.regs a ha)

/-- The bank of the frame now read with its header complete, and STAT_FRAME. -/
def withHeader (s : State) : State :=
  setRegN (setBank s (readBank s) (completed s (s.bank (readBank s)))) 0x080020 (s.bank (readBank s)).frame

/-- A bank that has its header gets COMPLETE and STAT_FRAME, and stream 3 carries it where that is on. -/
theorem completeBank_of_kept (s : State) (h : (s.bank (readBank s)).lost = false) :
    completeBank s =
      if field ((withHeader s).act 0x080000) 0 1 = 1 then
        endStats (queueRecord (withHeader s) 3 (s.bank (readBank s)).frame 0
          ((completed s (s.bank (readBank s))).record ((withHeader s).act 0x080000)) false) s.img.prv.k
      else withHeader s :=
  if_neg (ne_true_of_eq_false h)

theorem completes_completeBank (s : State) (h : (s.bank (readBank s)).lost = false) :
    Completes s (completeBank s) := by
  have header : Completes s (withHeader s) :=
    ⟨bank_setBank_same s (readBank s) _, rfl, rfl, cur_setRegN_same .., regsBut_setReg (by simp) _ _⟩
  rw [completeBank_of_kept s h]
  split
  · exact header.record ..
  · exact header

/-- The bank of the frame now read waits for a run; one that waited before it is counted as passed over (R210). -/
def handOver (s : State) : State :=
  let s := if s.ae.waiting.isSome then bump s 0x0A0084 else s
  { s with ae := { s.ae with waiting := some (readBank s) } }

theorem handOver_waiting (s : State) : (handOver s).ae.waiting = some (readBank s) := by
  simp only [handOver, readBank, apply_ite State.img, bump_img, ite_self]

theorem handOver_stat (s : State) : (handOver s).stat = s.stat := by
  simp only [handOver, apply_ite State.stat, bump_stat, ite_self]

/-- A bank that waited is passed over, which is counted. -/
theorem handOver_regs_of_waiting (s : State) (h : s.ae.waiting.isSome = true) :
    (handOver s).regs = (bump s 0x0A0084).regs := by
  simp only [handOver, if_pos h]

theorem handOver_regs_of_none (s : State) (h : s.ae.waiting = none) : (handOver s).regs = s.regs := by
  simp only [handOver, h, Option.isSome_none, Bool.false_eq_true, if_false]

/-- Handing a bank over writes no register but the counter of the banks passed over. -/
theorem regsBut_handOver (s : State) : RegsBut [0x0A0084] s (handOver s) := by
  intro a ha
  cases h : s.ae.waiting with
  | none => exact cur_congr (congrArg Regs.cur (handOver_regs_of_none s h)) a
  | some j =>
    have counted := handOver_regs_of_waiting s (by rw [h, Option.isSome_some])
    exact (cur_congr (congrArg Regs.cur counted) a).trans (cur_bump_other s _ a (List.ne_of_not_mem_cons ha))

/-- The array bank of the frame now read can be completed: every tile-row of the plan is ready (R174). -/
structure BankDue (s : State) : Prop where
  rows : s.img.cur.plan.rows ≠ []
  later : 0 < s.time.k
  open_ : (s.bank (readBank s)).state = 0
  frame : (s.bank (readBank s)).frame = s.img.prv.k % 2 ^ 32
  ready : (s.img.cur.plan.rows.all fun j => s.img.prv.ready.contains j) = true

/-- STATS_COMPLETE of a bank that is due: with AE enabled and its header there, it also waits for a run. -/
theorem exec_statsComplete (s : State) (tier : InTier 2 s) (due : BankDue s) :
    exec .statsComplete s = .next
      (if (completeBank s).fc 0x0A0000 0 1 = 1 ∧ (s.bank (readBank s)).lost = false then handOver (completeBank s)
       else completeBank s) := by
  have unfolded : exec .statsComplete s = execStatsComplete s := rfl
  rw [unfolded, execStatsComplete, whenTier_open 2 s _ tier]
  exact congrArg Host.Outcome.next (if_pos ⟨due.rows, due.later, due.open_, due.frame, due.ready⟩)

/-- The bank of the frame now read is completed, and handed over where AE is enabled. -/
theorem statsCompleteHandsTheBankOver : StatsCompleteHandsTheBankOver := by
  intro s tier rows later i open_ frame ready
  have run := exec_statsComplete s tier ⟨rows, later, open_, frame, ready⟩
  refine ⟨fun lost => ⟨_, run, ?_⟩, fun kept => ⟨_, run, ?_⟩⟩
  · obtain ⟨regs, stat, -, ae⟩ := endStats_keeps s s.img.prv.k
    rw [if_neg (fun e => absurd lost (ne_true_of_eq_false e.2)), completeBank_of_lost s lost]
    exact ⟨bank_congr stat i, cur_congr (congrArg Regs.cur regs) _, ae⟩
  · have done := completes_completeBank s kept
    have bank : (completeBank s).bank i = completed s (s.bank i) := done.bank
    have enabled : (completeBank s).fc 0x0A0000 0 1 = s.fc 0x0A0000 0 1 :=
      congrArg (field · 0 1) (done.regs 0x0A0000 (by decide))
    have index : readBank (completeBank s) = i := congrArg (fun x : Img => x.prv.k % 2) done.img
    have counter : (completeBank s).cur 0x0A0084 = s.cur 0x0A0084 := done.regs 0x0A0084 (by decide)
    rw [enabled]
    by_cases on : s.fc 0x0A0000 0 1 = 1
    · rw [if_pos ⟨on, kept⟩, bank_congr (handOver_stat _) i, bank]
      refine ⟨completed_state_odd .., rfl, (regsBut_handOver _ _ (by decide)).trans done.statFrame, fun _ => ?_,
        fun off => absurd (off.symm.trans on) (by decide)⟩
      refine ⟨(handOver_waiting _).trans (congrArg some index), fun some_waits => ?_, fun none_waits => ?_⟩
      · have counted := handOver_regs_of_waiting (completeBank s) (done.ae ▸ some_waits)
        rw [Risen, cur_congr (congrArg Regs.cur counted)]
        exact risen_since done.regs (by decide) (cur_bump_same _ _)
      · have uncounted := handOver_regs_of_none (completeBank s) (done.ae ▸ none_waits)
        exact (cur_congr (congrArg Regs.cur uncounted) _).trans counter
    · rw [if_neg (fun e => on e.1), bank]
      exact ⟨completed_state_odd .., rfl, done.statFrame, fun e => absurd e on, fun _ => done.ae⟩

/-! ## The Shepherd bracket (R88) -/

/-- The bracket of the Shepherd has ended, by CLOSE or ABORT. -/
def bracketShut (s : State) : State := { s with regs := s.regs.end_ .shp s.time.tb }

/-- OPEN of a closed bracket begins an empty staging set. -/
theorem expSet_open (s : State) (src : Src) (h : s.regs.staged src = none) :
    expSet s src 1 = { s with regs := s.regs.open_ src s.time.tb } := by
  have op : field (1 : Word) 0 3 = 1 := by decide
  simp only [expSet, op, h]

/-- CLOSE of an open bracket lets its staging set land. -/
theorem expSet_close (s : State) (src : Src) (g : List (Nat × Word × Word)) (h : s.regs.staged src = some g) :
    expSet s src 2 = landSet { s with regs := s.regs.end_ src s.time.tb } g := by
  have op : field (2 : Word) 0 3 = 2 := by decide
  simp only [expSet, op, h]

/-- ABORT of an open bracket discards its staging set. -/
theorem expSet_abort (s : State) (src : Src) (g : List (Nat × Word × Word)) (h : s.regs.staged src = some g) :
    expSet s src 4 = abortBracket s src := by
  have op : field (4 : Word) 0 3 = 4 := by decide
  simp only [expSet, op, h]

/-- ABORT of a closed bracket is misuse, which is counted. -/
theorem expSet_abort_misuse (s : State) (src : Src) (h : s.regs.staged src = none) :
    expSet s src 4 = bump s 0x04C130 := by
  have op : field (4 : Word) 0 3 = 4 := by decide
  simp only [expSet, op, h]

/-- Words that land in the shadow change neither the committed values, the Shepherd's staging set, nor the
controller, and take nothing from what has landed (R85). -/
theorem foldl_landWord_keeps (g : List (Nat × Word × Word)) (s : State) :
    (g.foldl landWord s).ae = s.ae ∧ (g.foldl landWord s).time = s.time ∧
      (g.foldl landWord s).regs.act = s.regs.act ∧ (g.foldl landWord s).regs.stgShp = s.regs.stgShp ∧
      s.regs.landed ⊆ (g.foldl landWord s).regs.landed := by
  induction g generalizing s with
  | nil => exact ⟨rfl, rfl, rfl, rfl, List.Subset.refl _⟩
  | cons x g ih =>
    obtain ⟨ae, time, act, staged, landed⟩ := ih (landWord s x)
    exact ⟨ae, time, act, staged, fun y hy => landed (List.mem_cons_of_mem _ hy)⟩

/-- So do the words of a staging set, and the CLOSE itself lands at the present TB (R86). -/
theorem landSet_keeps (s : State) (g : List (Nat × Word × Word)) :
    (landSet s g).ae = s.ae ∧ (landSet s g).time = s.time ∧ (landSet s g).regs.act = s.regs.act ∧
      (landSet s g).regs.stgShp = s.regs.stgShp ∧
      { tb := s.time.tb, addr := 0x04C100, mask := 0, old := 0 } ∈ (landSet s g).regs.landed := by
  obtain ⟨ae, time, act, staged, landed⟩ := foldl_landWord_keeps g { s with regs := { s.regs with
    landed := { tb := s.time.tb, addr := 0x04C100, mask := 0, old := 0 } :: s.regs.landed } }
  exact ⟨ae, time, act, staged, landed (List.mem_cons_self ..)⟩

/-! ## The work of a run (R209, R216 to R220) -/

/-- The registers that a run writes itself: its status, and the counters of what it could not do (R219, R226). -/
def runRegisters : List Nat := [0x0A0004, 0x0A008C, 0x0A0090, 0x0A0094, 0x0A0098]

/-- The Shepherd bracket is open. -/
def BracketOpen (s : State) : Prop := s.regs.stgShp.isSome = true

/-- What the work of a run does to the device: its writes are staged in the open Shepherd bracket, and nothing is
committed, lands in the shadow, or is commanded. -/
structure StagesOnly (s t : State) : Prop where
  opened : BracketOpen t
  act : t.regs.act = s.regs.act
  landed : t.regs.landed = s.regs.landed
  running : t.ae.running = s.ae.running
  waiting : t.ae.waiting = s.ae.waiting
  cmd : t.ae.cmd = s.ae.cmd
  stat : t.stat = s.stat
  regs : RegsBut runRegisters s t

theorem stagesOnly_refl {s : State} (h : BracketOpen s) : StagesOnly s s :=
  ⟨h, rfl, rfl, rfl, rfl, rfl, rfl, regsBut_refl _ _⟩

/-- Two pieces of work after each other; the second finds the bracket open. -/
theorem StagesOnly.andThen {s t u : State} (a : StagesOnly s t) (next : BracketOpen t → StagesOnly t u) :
    StagesOnly s u :=
  have b := next a.opened
  ⟨b.opened, b.act.trans a.act, b.landed.trans a.landed, b.running.trans a.running, b.waiting.trans a.waiting,
    b.cmd.trans a.cmd, b.stat.trans a.stat, regsBut_trans a.regs b.regs⟩

/-- A status field of the run is set. -/
theorem stagesOnly_setStatus (lo n v : Nat) {s : State} (h : BracketOpen s) :
    StagesOnly s (setFld s 0x0A0004 lo n v) :=
  ⟨h, rfl, rfl, rfl, rfl, rfl, rfl, regsBut_setReg (by decide) s _⟩

/-- A counter of the run rises. -/
theorem stagesOnly_bump (a : Nat) (ha : a ∈ runRegisters) {s : State} (h : BracketOpen s) :
    StagesOnly s (bump s a) :=
  ⟨h, rfl, rfl, rfl, rfl, rfl, rfl, regsBut_setReg ha s _⟩

/-- The commands of the run are noted for its CLOSE. -/
theorem stagesOnly_newCmd {s : State} (m : SMap Int) (h : BracketOpen s) :
    StagesOnly s { s with ae := { s.ae with newCmd := m } } :=
  ⟨h, rfl, rfl, rfl, rfl, rfl, rfl, fun _ _ => rfl⟩

/-- A write of the run in its open bracket goes to the staging set. -/
theorem stagesOnly_shpWrite {s : State} (ws : List (Nat × Word × Word)) (h : BracketOpen s) :
    StagesOnly s (shpWrite s ws) := by
  obtain ⟨g, staged⟩ := Option.isSome_iff_exists.1 h
  unfold shpWrite
  rw [staged]
  exact ⟨rfl, rfl, rfl, rfl, rfl, rfl, rfl, fun _ _ => rfl⟩

/-- A status or counter of the run changes on a condition. -/
theorem stagesOnly_ite {s t : State} {c : Prop} [Decidable c] (yes : StagesOnly s t) (h : BracketOpen s) :
    StagesOnly s (if c then t else s) := by
  split
  · exact yes
  · exact stagesOnly_refl h

theorem stagesOnly_aeApply (r : AeRun) (l : List (Nat × Int × Nat)) {s : State} (h : BracketOpen s) :
    StagesOnly s (aeApply s r l) := by
  unfold aeApply
  induction l generalizing s with
  | nil => exact stagesOnly_refl h
  | cons x l ih =>
    refine StagesOnly.andThen ?_ ih
    dsimp only
    refine ((stagesOnly_shpWrite _ h).andThen fun h => stagesOnly_ite ?_ h).andThen fun h => stagesOnly_ite ?_ h
    · exact (stagesOnly_bump 0x0A008C (by decide) h).andThen (stagesOnly_setStatus 3 1 1)
    · exact stagesOnly_bump 0x0A0094 (by decide) h

/-- A tile run sets its status, notes its commands, stages the splits, and counts a seam too high. -/
theorem stagesOnly_aeTiles (r : AeRun) (b : Bank) {s : State} (h : BracketOpen s) :
    StagesOnly s (aeTiles s r b) := by
  unfold aeTiles
  extract_lets ts stp one rows tg seam tg' done base new s1 ae s2 bad
  have applied : StagesOnly s s2 :=
    ((stagesOnly_setStatus 2 1 _ h).andThen (stagesOnly_newCmd new)).andThen (stagesOnly_aeApply r done)
  exact applied.andThen fun h => stagesOnly_ite (stagesOnly_bump 0x0A0090 (by decide) h) h

/-- A global run does so with one command, and keeps it where no tile is valid. -/
theorem stagesOnly_aeGlobal (r : AeRun) (b : Bank) {s : State} (h : BracketOpen s) :
    StagesOnly s (aeGlobal s r b) := by
  unfold aeGlobal
  dsimp only
  split
  · exact ((stagesOnly_setStatus 2 1 _ h).andThen (stagesOnly_newCmd _)).andThen (stagesOnly_aeApply r _)
  · exact stagesOnly_newCmd _ h
  · exact stagesOnly_refl h

/-- White balance holds and counts that, or stages the gains. -/
theorem stagesOnly_aeWhite (b : Bank) {s : State} (h : BracketOpen s) : StagesOnly s (aeWhite s b) := by
  unfold aeWhite
  extract_lets gr gb lim zs all neu n g gain r' bl w
  split
  · exact (stagesOnly_bump 0x0A0098 (by decide) h).andThen (stagesOnly_setStatus 1 1 1)
  · exact (stagesOnly_setStatus 1 1 0 h).andThen (stagesOnly_shpWrite _)

/-- The exposure part of a run, unless AE_FREEZE holds it. -/
def exposureWork (s : State) (r : AeRun) (b : Bank) : State :=
  if s.fc 0x0A0000 1 1 = 1 then s else if s.fc 0x0A0000 3 1 = 1 then aeTiles s r b else aeGlobal s r b

theorem stagesOnly_exposureWork (r : AeRun) (b : Bank) {s : State} (h : BracketOpen s) :
    StagesOnly s (exposureWork s r b) := by
  unfold exposureWork
  split
  · exact stagesOnly_refl h
  · split
    · exact stagesOnly_aeTiles r b h
    · exact stagesOnly_aeGlobal r b h

/-- The work of a run: the exposure, and the white balance unless WB_FREEZE holds it. -/
def runWork (s : State) (r : AeRun) (b : Bank) : State :=
  let s := exposureWork s r b
  if s.fc 0x0A0000 2 1 = 1 then s else aeWhite s b

theorem stagesOnly_runWork (r : AeRun) (b : Bank) {s : State} (h : BracketOpen s) :
    StagesOnly s (runWork s r b) := by
  refine (stagesOnly_exposureWork r b h).andThen fun h => ?_
  unfold runWork
  dsimp only
  split
  · exact stagesOnly_refl h
  · exact stagesOnly_aeWhite b h

/-- A run on a bank is counted, names its frame, and has not opened its bracket yet. -/
def runCounted (s : State) (i : Nat) : State :=
  let s := setRegN (bump s 0x0A0080) 0x0A0008 (s.bank i).frame
  { s with ae := { s.ae with running := some i, waiting := none, newCmd := [] } }

/-- The Shepherd bracket of a run is open, and its status shows nothing yet. -/
def runBegun (s : State) (i : Nat) : State := setFld (expSet (runCounted s i) .shp 1) 0x0A0004 1 3 0

/-- AE_RUN on a complete bank that waits: the run begins, and does its work. -/
theorem exec_aeRun (s : State) (i : Nat) (tier : InTier 2 s) (waits : s.ae.waiting = some i)
    (idle : s.ae.running = none) (ready : s.fc 0x0A0000 0 1 = 1 ∧ (s.bank i).state % 2 = 1) :
    exec .aeRun s = .next (runWork (runBegun s i) (aeParams s) (s.bank i)) := by
  have unfolded : exec .aeRun s = execAeRun s := rfl
  rw [unfolded, execAeRun, whenTier_open 2 s _ tier, waits, idle]
  exact congrArg Host.Outcome.next (if_pos ready)

/-- What a run on a bank has done to the device since AE_RUN. -/
structure RunsOn (s : State) (i : Nat) (t : State) : Prop where
  opened : BracketOpen t
  act : t.regs.act = s.regs.act
  landed : t.regs.landed = s.regs.landed
  running : t.ae.running = some i
  waiting : t.ae.waiting = none
  cmd : t.ae.cmd = s.ae.cmd
  stat : t.stat = s.stat
  counted : Risen s t 0x0A0080 1
  frame : t.cur 0x0A0008 = BitVec.ofNat 32 (s.bank i).frame

/-- A run begins with its bracket, which was closed. -/
theorem runsOn_runBegun (s : State) (i : Nat) (closed : s.regs.stgShp = none) : RunsOn s i (runBegun s i) := by
  have opens : expSet (runCounted s i) .shp 1
      = { runCounted s i with regs := (runCounted s i).regs.open_ .shp s.time.tb } :=
    expSet_open (runCounted s i) .shp closed
  have cur_eq (a : Nat) (ha : a ≠ 0x0A0004) :
      (runBegun s i).cur a = (setRegN (bump s 0x0A0080) 0x0A0008 (s.bank i).frame).cur a := by
    rw [runBegun, opens]
    exact cur_setReg_other _ _ _ _ ha
  constructor
  case counted =>
    rw [Risen, cur_eq _ (by decide), cur_setRegN_other _ _ _ _ (by decide), cur_bump_same]
  case frame => rw [cur_eq _ (by decide), cur_setRegN_same]
  all_goals rw [runBegun, opens]; rfl

/-- The work of the run keeps what AE_RUN has done. -/
theorem RunsOn.work {s t u : State} {i : Nat} (b : RunsOn s i t) (w : StagesOnly t u) : RunsOn s i u where
  opened := w.opened
  act := w.act.trans b.act
  landed := w.landed.trans b.landed
  running := w.running.trans b.running
  waiting := w.waiting.trans b.waiting
  cmd := w.cmd.trans b.cmd
  stat := w.stat.trans b.stat
  counted := risen_keep b.counted w.regs (by decide)
  frame := (w.regs _ (by decide)).trans b.frame

/-- AE_RUN_END of a run in its bracket: CLOSE, and the commands of the run stand. -/
theorem exec_aeRunEnd (s : State) (i : Nat) (g : List (Nat × Word × Word)) (awake : Awake s)
    (runs : s.ae.running = some i) (staged : s.regs.stgShp = some g) :
    exec .aeRunEnd s = .next (
      let t := landSet (bracketShut s) g
      { t with ae := { t.ae with
        running := none, cmd := t.ae.newCmd.foldl (fun m p => put m p.1 p.2) t.ae.cmd, newCmd := [] } }) := by
  have unfolded : exec .aeRunEnd s = execAeRunEnd s := rfl
  rw [unfolded, execAeRunEnd, whenAwake_open s _ awake, runs, expSet_close s .shp g staged]
  rfl

theorem exec_aeRunEnd_idle (s : State) (awake : Awake s) (idle : s.ae.running = none) :
    exec .aeRunEnd s = .next s := by
  have unfolded : exec .aeRunEnd s = execAeRunEnd s := rfl
  rw [unfolded, execAeRunEnd, whenAwake_open s _ awake, idle]

/-- A run stages its writes from AE_RUN on, and its CLOSE lets them land. -/
theorem aeRunWorksInTheShepherdBracket : AeRunWorksInTheShepherdBracket := by
  intro s
  refine ⟨fun i tier waits idle on complete closed => ?_, fun i g awake runs staged => ?_,
    exec_aeRunEnd_idle s⟩
  · have done := (runsOn_runBegun s i closed).work
      (stagesOnly_runWork (aeParams s) (s.bank i) (runsOn_runBegun s i closed).opened)
    exact ⟨_, exec_aeRun s i tier waits idle ⟨on, complete⟩, done.running, done.waiting, done.opened, done.counted,
      done.frame, done.act, done.landed, done.cmd, bank_congr done.stat i⟩
  · obtain ⟨ae, time, act, closed, landed⟩ := landSet_keeps (bracketShut s) g
    refine ⟨_, exec_aeRunEnd s i g awake runs staged, rfl, ?_, rfl, closed, ⟨_, landed, ?_⟩, act⟩
    · dsimp only
      rw [ae]
      rfl
    · exact (congrArg Time.tb time).symm

/-! ## AE_CTRL (R222) -/

/-- An ABORT by the Shepherd during a run discards its bracket, ends the run, and counts both. -/
theorem expSet_abort_of_run (s : State) (g : List (Nat × Word × Word)) (staged : s.regs.stgShp = some g)
    (runs : s.ae.running.isSome = true) :
    expSet s .shp 4 =
      let t := bump (bracketShut s) 0x04C12C
      bump { t with ae := { t.ae with running := none, newCmd := [] } } 0x0A0088 := by
  rw [expSet_abort s .shp g staged]
  exact if_pos runs

/-- So no run is under way, the bracket is closed, and both counters have risen. -/
theorem expSet_abort_ends_run (s : State) (g : List (Nat × Word × Word)) (staged : s.regs.stgShp = some g)
    (runs : s.ae.running.isSome = true) :
    (expSet s .shp 4).ae.running = none ∧ (expSet s .shp 4).regs.stgShp = none ∧
      Risen s (expSet s .shp 4) 0x04C12C 1 ∧ Risen s (expSet s .shp 4) 0x0A0088 1 := by
  have discarded : Risen s (bump (bracketShut s) 0x04C12C) 0x04C12C 1 :=
    cur_bump_same (bracketShut s) 0x04C12C
  have others : RegsBut [0x04C12C] s (bump (bracketShut s) 0x04C12C) :=
    regsBut_setReg (by decide) (bracketShut s) _
  rw [expSet_abort_of_run s g staged runs]
  exact ⟨rfl, rfl, risen_keep discarded (regsBut_setReg (List.mem_singleton_self 0x0A0088) _ _) (by decide),
    risen_since others (by decide) (cur_bump_same _ _)⟩

/-- An ABORT by the Shepherd without a run discards its bracket alone, and counts that. -/
theorem expSet_abort_of_no_run (s : State) (g : List (Nat × Word × Word)) (staged : s.regs.stgShp = some g)
    (idle : ¬ s.ae.running.isSome = true) :
    expSet s .shp 4 = bump (bracketShut s) 0x04C12C := by
  rw [expSet_abort s .shp g staged]
  exact if_neg idle

/-- The counters of an ABORT: brackets discarded, misuse, and runs ended (R88, R222). -/
def abortCounters : List Nat := [0x04C12C, 0x04C130, 0x0A0088]

/-- An ABORT by the Shepherd changes no register but its counters, no committed value and no bank. -/
theorem expSet_abort_keeps (s : State) :
    RegsBut abortCounters s (expSet s .shp 4) ∧ (expSet s .shp 4).regs.act = s.regs.act ∧
      (expSet s .shp 4).stat = s.stat := by
  have discards : RegsBut abortCounters s (bump (bracketShut s) 0x04C12C) :=
    regsBut_setReg (by decide) (bracketShut s) _
  cases staged : s.regs.stgShp with
  | none =>
    rw [expSet_abort_misuse s .shp staged]
    exact ⟨regsBut_setReg (by decide) s _, rfl, rfl⟩
  | some g =>
    by_cases runs : s.ae.running.isSome = true
    · rw [expSet_abort_of_run s g staged runs]
      exact ⟨regsBut_trans discards (regsBut_setReg (by decide) _ _), rfl, rfl⟩
    · rw [expSet_abort_of_no_run s g staged runs]
      exact ⟨discards, rfl, rfl⟩

/-- A write to AE_CTRL sets a control bit. -/
def ctrlRises (s : State) (v : Word) (i : Nat) : Bool := decide (s.fc 0x0A0000 i 1 = 0 ∧ field v i 1 = 1)

/-- A write to AE_CTRL clears a control bit. -/
def ctrlFalls (s : State) (v : Word) (i : Nat) : Bool := decide (s.fc 0x0A0000 i 1 = 1 ∧ field v i 1 = 0)

/-- A write to AE_CTRL ends the run under way. -/
def ctrlEndsRun (s : State) (v : Word) : Bool :=
  s.ae.running.isSome && (ctrlFalls s v 0 || ctrlRises s v 1 || ctrlRises s v 2)

/-- The device with AE_CTRL written, and with the run ended where the write ends it. -/
def ctrlWritten (s : State) (v : Word) : State :=
  if ctrlEndsRun s v then expSet (setReg s 0x0A0000 (v &&& 0x7F)) .shp 4 else setReg s 0x0A0000 (v &&& 0x7F)

/-- The bank that waits is dropped. -/
def dropBank (s : State) : State := { s with ae := { s.ae with waiting := none } }

/-- The commands that stand are dropped. -/
def dropCommands (s : State) : State := { s with ae := { s.ae with cmd := [], newCmd := [] } }

/-- A write to AE_CTRL in its three steps. -/
theorem aeCtrlWrite_eq (s : State) (v : Word) :
    aeCtrlWrite s v =
      let t := if ctrlFalls s v 0 then dropBank (ctrlWritten s v) else ctrlWritten s v
      if ctrlRises s v 0 || ctrlFalls s v 1 then dropCommands t else t := rfl

theorem aeCtrlWrite_regs (s : State) (v : Word) : (aeCtrlWrite s v).regs = (ctrlWritten s v).regs := by
  simp only [aeCtrlWrite_eq, dropBank, dropCommands, apply_ite State.regs, ite_self]

theorem aeCtrlWrite_stat (s : State) (v : Word) : (aeCtrlWrite s v).stat = (ctrlWritten s v).stat := by
  simp only [aeCtrlWrite_eq, dropBank, dropCommands, apply_ite State.stat, ite_self]

theorem aeCtrlWrite_running (s : State) (v : Word) :
    (aeCtrlWrite s v).ae.running = (ctrlWritten s v).ae.running := by
  simp only [aeCtrlWrite_eq, dropBank, dropCommands, apply_ite State.ae, apply_ite Ae.running, ite_self]

/-- Clearing AE_EN drops the bank that waits. -/
theorem aeCtrlWrite_waiting (s : State) (v : Word) (h : ctrlFalls s v 0 = true) :
    (aeCtrlWrite s v).ae.waiting = none := by
  simp only [aeCtrlWrite_eq, if_pos h, dropBank, dropCommands, apply_ite State.ae, apply_ite Ae.waiting, ite_self]

/-- Setting AE_EN, or clearing AE_FREEZE, drops the commands that stand. -/
theorem aeCtrlWrite_cmd (s : State) (v : Word) (h : ctrlRises s v 0 = true ∨ ctrlFalls s v 1 = true) :
    (aeCtrlWrite s v).ae.cmd = [] := by
  rw [← Bool.or_eq_true] at h
  simp only [aeCtrlWrite_eq, if_pos h, dropCommands]

/-- AE_CTRL holds the seven bits written, and besides it only the counters of an ABORT may change. -/
theorem ctrlWritten_keeps (s : State) (v : Word) :
    (ctrlWritten s v).cur 0x0A0000 = v &&& 0x7F ∧ RegsBut (0x0A0000 :: abortCounters) s (ctrlWritten s v) ∧
      (ctrlWritten s v).regs.act = s.regs.act ∧ (ctrlWritten s v).stat = s.stat := by
  have written : RegsBut (0x0A0000 :: abortCounters) s (setReg s 0x0A0000 (v &&& 0x7F)) :=
    regsBut_setReg (List.mem_cons_self ..) s _
  unfold ctrlWritten
  split
  · obtain ⟨regs, act, stat⟩ := expSet_abort_keeps (setReg s 0x0A0000 (v &&& 0x7F))
    refine ⟨(regs _ (by decide)).trans (cur_setReg_same ..), regsBut_trans written fun a ha => ?_, act, stat⟩
    exact regs a (fun e => ha (List.mem_cons_of_mem _ e))
  · exact ⟨cur_setReg_same .., written, rfl, rfl⟩

/-- Where the write ends a run in its bracket, the bracket is discarded and both are counted. -/
theorem ctrlWritten_ends (s : State) (v : Word) (g : List (Nat × Word × Word))
    (staged : s.regs.stgShp = some g) (ends : ctrlEndsRun s v = true) :
    (ctrlWritten s v).ae.running = none ∧ (ctrlWritten s v).regs.stgShp = none ∧
      Risen s (ctrlWritten s v) 0x04C12C 1 ∧ Risen s (ctrlWritten s v) 0x0A0088 1 := by
  have runs : s.ae.running.isSome = true := (Bool.and_eq_true_iff.1 ends).1
  have written : RegsBut [0x0A0000] s (setReg s 0x0A0000 (v &&& 0x7F)) := regsBut_setReg (by decide) s _
  obtain ⟨idle, closed, discarded, counted⟩ := expSet_abort_ends_run (setReg s 0x0A0000 (v &&& 0x7F)) g staged runs
  rw [ctrlWritten, if_pos ends]
  exact ⟨idle, closed, risen_since written (by decide) discarded, risen_since written (by decide) counted⟩

/-- AE_CTRL_WRITE acts while the device runs. -/
theorem exec_aeCtrlWrite (s : State) (src : Src) (v : Word) (awake : Awake s) :
    exec (.aeCtrlWrite src v) s = .next (aeCtrlWrite s v) := by
  have unfolded : exec (.aeCtrlWrite src v) s = execAeCtrlWrite src v s := rfl
  rw [unfolded, execAeCtrlWrite, whenReg_open s _ (awake.imp_right .inl)]

/-- AE_CTRL takes its bits, and what they end is ended. -/
theorem aeControlEndsTheRun : AeControlEndsTheRun := by
  intro s src v awake
  obtain ⟨bits, regs, act, stat⟩ := ctrlWritten_keeps s v
  have same := aeCtrlWrite_regs s v
  have cur_eq := cur_congr (congrArg Regs.cur same)
  refine ⟨_, exec_aeCtrlWrite s src v awake, (cur_eq _).trans bits, fun a ha => (cur_eq a).trans (regs a ha),
    (congrArg Regs.act same).trans act, (aeCtrlWrite_stat s v).trans stat,
    fun on off => aeCtrlWrite_waiting s v (decide_eq_true ⟨on, off⟩), fun g runs staged ends => ?_,
    fun rec => aeCtrlWrite_cmd s v (rec.imp decide_eq_true decide_eq_true)⟩
  have ends_run : ctrlEndsRun s v = true := by
    simpa [ctrlEndsRun, ctrlFalls, ctrlRises, runs, or_assoc] using ends
  obtain ⟨running, closed, discarded, counted⟩ := ctrlWritten_ends s v g staged ends_run
  refine ⟨(aeCtrlWrite_running s v).trans running, (congrArg Regs.stgShp same).trans closed, ?_, ?_⟩
  · rw [Risen, cur_eq, discarded]
  · rw [Risen, cur_eq, counted]

/-- Settles O43: a completed bank is handed over, the run that takes it stages its writes in the Shepherd bracket
until its CLOSE, and AE_CTRL discards that bracket. -/
theorem autoExposureRunsInItsBracket : Obligations.AutoExposureRunsInItsBracket :=
  ⟨statsCompleteHandsTheBankOver, aeRunWorksInTheShepherdBracket, aeControlEndsTheRun⟩

end Sys2Proof.AutoExposure
end
